-- ==== Sys2Proof/Word.lean ====
section
/-! DEFINITION. Word.lean: the word types of the LS-7140 (00_scope.md, Conventions). Plain names of widths; counts and
sizes that the manual never masks or shifts are `Nat`. -/

namespace Sys2Proof

/-- One byte of a frame, header, record or packet. -/
abbrev Byte := BitVec 8

/-- The 8-byte identity of a home terminal. -/
abbrev Serial := BitVec 64

/-- A round number: a 32-bit count that wraps (R22, R181). -/
abbrev Round := BitVec 32

/-- District time: a 48-bit count of whole milliseconds (R189). -/
abbrev DTime := BitVec 48

/-- The generation of a slot, 0 to 255, wrapping (R22). -/
abbrev Gen := BitVec 8

/-- A slot of the home table, 0 to 127. -/
abbrev SlotId := Fin 128

/-- One of the four tariff bands. -/
abbrev Band := Fin 4

/-- A journal sequence number or a meter queue count: 32 bits, wrapping (R119, R138). -/
abbrev Seq := BitVec 32

/-- A hold-off or round-trip delay in fine units, a home tag, or another 16-bit field. -/
abbrev Half := BitVec 16

end Sys2Proof
end

