-- ==== Sys2Proof/Syntax.lean ====
section
/-! DEFINITION. Syntax.lean: the commands of the part, one constructor of `Instr` for each row of spec/opcode_table.json,
with the operands that the row's step takes from outside the part. -/

namespace Sys2Proof

/-- What a corrupted tally holds against its check value: one wrong bit, or two (R123). -/
inductive Upset where
  | single
  | double
deriving DecidableEq, Repr

/-- One bit error of the tally memory, by slot and band. -/
structure TallyUpset where
  slot : SlotId
  band : Band
  kind : Upset
deriving DecidableEq, Repr

/-- What the receiver got in the ticks of one planned burst (R8, R10): the 16 bytes of the header tick, whether the
activity latch was set between the preamble tick and the last tick, and the bytes of the payload ticks. -/
structure BurstRx where
  header : List Byte
  light : Bool
  payload : List Byte
deriving DecidableEq, Repr

/-- What the receiver got of one 4-tick answer (R9): the offset in the upstream round at which it starts, the fine
phase of its preamble edge, whether the preamble was found, the two identity copies of 16 bytes, and whether the
activity latch was set when sampled at the answer's start. -/
structure AnswerRx where
  offset : Fin 2048
  phase : Fin 16
  preamble : Bool
  copyA : List Byte
  copyB : List Byte
  light : Bool
deriving DecidableEq, Repr

/-- Where a light sample is taken (R12): on the guard tick of a planned burst, by its index in the plan, or at an
offset of the round. -/
inductive SamplePlace where
  | guard (index : Nat)
  | quiet (offset : Fin 2048)
deriving DecidableEq, Repr

/-- What another station, a jam or noise does on the shelf link pair (R155, R192). -/
inductive LinkEvent where
  | begins
  | delimiter
  | ends
deriving DecidableEq, Repr

/-- Two orders that the rules leave open inside TREE_RESTART (R162, R37): whether the tree port, and whether the
stray-light watch, takes it before the home table manager. -/
structure RestartOrder where
  portFirst : Bool
  watchFirst : Bool
deriving DecidableEq, Repr

/-- Another source whose offer reaches the transmit queue, as a frame leaves it, before the offer of the backlog (R159):
the offers made at a round start (R170, R191), the second tick's (R191), or the pacing tick's (R142). -/
inductive RivalOffer where
  | roundStart
  | secondTick
  | pacingTick
deriving DecidableEq, Repr

/-- A try of the transmitter to start the head frame: the bit times since the silence last began to count (R155), the
other source, if any, whose offer will reach the queue before the backlog's when that frame leaves it (R159), and the bit
of the frame, the first being 0, at which the read-back will not match if a collision comes (R156, log entry 52). -/
structure TransmitStart where
  elapsed : Nat
  rival : Option RivalOffer
  mismatch : Nat
deriving DecidableEq, Repr

/-- The end of a narrow echo span: its start offset, and whether the activity latch was set when sampled there (R9). -/
structure EchoSpanReport where
  start : Fin 2048
  light : Bool
deriving DecidableEq, Repr

/-- The commands. Each constructor is the row of spec/opcode_table.json of the same name. -/
inductive Instr where
  | powerOnReset (straps : BitVec 5)
  | pinReset (straps : BitVec 5)
  | configReadAttempt (answer : Option (List Byte))
  | startCountWriteBack (readBack : Option Half)
  | roundBoundary (offersFirst : Bool) (upsets : List TallyUpset)
  | rollCallDue
  | followUpDue
  | darkHoldEnd
  | calibrationSample (count : BitVec 12)
  | lineClockFailure
  | startCountComplete
  | restoreCountComplete
  | burstClassify (rx : BurstRx)
  | holdoffTimeout (slot : SlotId)
  | answerDecode (rx : AnswerRx)
  | rollCallSpanReport (light : Bool)
  | echoSpanEnd (report : EchoSpanReport)
  | reechoRequest
  | lightSample (place : SamplePlace) (count : BitVec 12)
  | roundReceptionEnd
  | locateOrdersSettled
  | alertExpiry
  | foreignLightRetest
  | lostExpiry (slot : SlotId)
  | queueFlush
  | packetIngress (tag : Half) (content : List Byte)
  | roundTransmissionEnd
  | meterUpdateConsume
  | drainComplete (slot : SlotId)
  | scrubPass
  | intervalRound
  | pacingTick
  | usageAck
  | ackTimeout
  | frameReceive (bytes : List Byte)
  | rosterDecision
  | commandReceive
  | provision
  | profileCloseAnswer
  | unprovision
  | deroll
  | readHome
  | readStatus
  | readStrangers
  | forgetStrangers
  | rollNow
  | treeRestart (order : RestartOrder)
  | clearFlags
  | frameTransmitStart (start : TransmitStart)
  | collision
  | backoffEnd
  | frameSent
  | secondTick
  | timeSetExpiry
  | claimRefresh
  | barRebroadcast
  | rosterAgeing
  | linkActivity (event : LinkEvent)
deriving DecidableEq, Repr

end Sys2Proof
end

