-- ==== Sys2Proof/Config.lean ====
section
/-! DEFINITION. Config.lean: the configuration the part reads at start-up (R184, R197) and the fixed figures of the
rules. The configuration is state of the part, since start-up writes it; its type and its figures stand here. -/

namespace Sys2Proof

/-- One of the eight profiles of the configuration image (R184). -/
structure Profile where
  assured : Nat
  ceiling : Nat
  tariff : Fin 4
  queueLimit : Nat
  weight : Nat
deriving DecidableEq, Repr

/-- The three prices of one tariff class in one band, in charge units per MiB (section 7.4). -/
structure Prices where
  assured : Nat
  surplus : Nat
  down : Nat
deriving DecidableEq, Repr

/-- One switch point: from this minute of day on, this band (R125). -/
structure SwitchPoint where
  minute : Nat
  band : Band
deriving DecidableEq, Repr

/-- The clamped configuration (R184), as the hand-over of R185 gives it to every block. -/
structure Configuration where
  controller : Nat
  collector : Nat
  budget : Nat
  poll : Nat
  rollPeriod : Nat
  threshold : Nat
  tracking : Nat
  poolLow : Nat
  poolHigh : Nat
  profiles : Vector Profile 8
  prices : Vector Prices 16
  switchPoints : List SwitchPoint
  fallback : Band
  interval : Nat
  pacing : Nat
  alertMask : BitVec 16
deriving DecidableEq, Repr

/-- DESIGN CHOICE (log entry 2, unsafe): what stands in the configuration before the first hand-over. The defaults of
R184 where it gives one, else the least value of the item's range. -/
def Configuration.beforeHandOver : Configuration where
  controller := 0
  collector := 0
  budget := 1600
  poll := 8
  rollPeriod := 1024
  threshold := 1
  tracking := 0
  poolLow := 512
  poolHigh := 1024
  profiles := Vector.replicate 8 { assured := 0, ceiling := 0, tariff := 0, queueLimit := 16, weight := 1 }
  prices := Vector.replicate 16 { assured := 0, surplus := 0, down := 0 }
  switchPoints := []
  fallback := 0
  interval := 15
  pacing := 20
  alertMask := 0x1FFF

namespace Config

/-- Ticks of an upstream round (00_scope.md, Time units). -/
def roundTicks : Nat := 2048
/-- Rounds of the dark hold (R2). -/
def darkHold : Nat := 12000
/-- Rounds of 60 s: LOST expiry (R27), ALERT expiry (R105), claim refresh (R168). -/
def minuteRounds : Nat := 240000
/-- Rounds between retests (R114). -/
def retestRounds : Nat := 120000
/-- Rounds of the bar re-broadcast timer, 300 s (R178). -/
def rebroadcastRounds : Nat := 1200000
/-- Rounds after which a roster entry ages out, 180 s (R173). -/
def ageingRounds : Nat := 720000
/-- Rounds of a second (R181). -/
def secondRounds : Nat := 4000
/-- Rounds of the journal's ack timer, 2 s (R147). -/
def ackRounds : Nat := 8000
/-- Rounds without a TIME frame after which SET becomes COASTING (R190). -/
def coastRounds : Nat := 40000
/-- Rounds after which a peer offset is stale (R192). -/
def staleRounds : Nat := 16000
/-- Edges of a start or restore count (R187). -/
def countEdges : Nat := 4096
/-- Capacity of the urgent lane (R14). -/
def urgentLane : Nat := 8
/-- Capacity of the normal lane (R14). -/
def normalLane : Nat := 24
/-- Blocks of the buffer pool (R84). -/
def poolBlocks : Nat := 8192
/-- Bytes of a downstream round's payload (R87). -/
def roundBudget : Nat := 65536
/-- Entries of the meter update queue (R119). -/
def meterEntries : Nat := 64
/-- The largest 40-bit byte count (R120). -/
def countMax : Nat := 1099511627775
/-- Bytes of a MiB: the divisor of rating (R126). -/
def mib : Nat := 1048576
/-- The largest line units (R126). -/
def unitsMax : Nat := 4294967295
/-- Entries of the journal (R137), and the count at which it is near full (R141). -/
def journalEntries : Nat := 512
def nearFull : Nat := 448
/-- Frames of the transmit queue (R154) and of the alert backlog (R159). -/
def queueFrames : Nat := 16
/-- Bits of the jam that follows a frame stopped by a collision (R156). -/
def jamBits : Nat := 8
/-- The provisional hold-off of a ROLL answer, in ticks (R13). -/
def provisionalTicks : Nat := 6492
/-- The range of an accepted RTD in fine units (R13). -/
def rtdMin : Nat := 16
def rtdMax : Nat := 27200
/-- First offset of the roll-call tail and end of the roll-call head (R63). -/
def rollTailStart : Nat := 348
def rollHeadEnd : Nat := 68
/-- Ticks of an answer (R9) and of a narrow echo span (R63). -/
def answerTicks : Nat := 4
def echoTicks : Nat := 16
/-- First offset of the watch window (R63). -/
def windowStart : Nat := 1792
/-- Bytes of the configuration image, and the address of its start count (R197). -/
def imageBytes : Nat := 209
def startCountAddress : Nat := 207

end Config

end Sys2Proof
end

