-- ==== Sys2Proof/WellFormed.lean ====
section
/-! DEFINITION. WellFormed.lean: which commands the world can send: the sizes that the layouts of chapter 12 fix. -/

namespace Sys2Proof

/-- Bytes of a tick (section 12.4). -/
def tickBytes : Nat := 16

/-- The largest frame: start delimiter, four header bytes, 144 payload bytes, two check bytes (R151). -/
def frameMax : Nat := 151

/-- The largest payload of a burst: 1,024 ticks (R70, R72). -/
def payloadMax : Nat := 1024 * tickBytes

/-- Whether a command's operands have the sizes of their layouts: a header tick and an identity copy of 16 bytes, a burst's
payload of at most 1,024 ticks, a read answer of at most the 209 bytes asked for (R197), a frame of at most 151 bytes. A
packet may have any length: one outside 64 to 2,048 is discarded (R82). -/
def Instr.wellFormed : Instr → Bool
  | .configReadAttempt (some bytes) => bytes.length ≤ Config.imageBytes
  | .burstClassify rx => rx.header.length == tickBytes && rx.payload.length ≤ payloadMax
  | .answerDecode rx => rx.copyA.length == tickBytes && rx.copyB.length == tickBytes
  | .lightSample (.guard index) _ => index < 128
  | .lightSample (.quiet offset) _ => offset.val % 32 == 0
  | .frameReceive bytes => bytes.length ≤ frameMax
  | .configReadAttempt none
  | .powerOnReset _ | .pinReset _ | .startCountWriteBack _ | .roundBoundary _ _ | .rollCallDue | .followUpDue
  | .darkHoldEnd | .calibrationSample _ | .lineClockFailure | .startCountComplete | .restoreCountComplete
  | .holdoffTimeout _ | .rollCallSpanReport _ | .echoSpanEnd _ | .reechoRequest | .roundReceptionEnd
  | .locateOrdersSettled | .alertExpiry | .foreignLightRetest | .lostExpiry _ | .queueFlush | .packetIngress _ _
  | .roundTransmissionEnd | .meterUpdateConsume | .drainComplete _ | .scrubPass | .intervalRound | .pacingTick
  | .usageAck | .ackTimeout | .rosterDecision | .commandReceive | .provision | .profileCloseAnswer | .unprovision
  | .deroll | .readHome | .readStatus | .readStrangers | .forgetStrangers | .rollNow | .treeRestart _ | .clearFlags
  | .frameTransmitStart _ | .collision | .backoffEnd | .frameSent | .secondTick | .timeSetExpiry | .claimRefresh
  | .barRebroadcast | .rosterAgeing | .linkActivity _ => true

end Sys2Proof
end

