-- ==== Sys2Proof/Decode.lean ====
section
/-! DEFINITION. Decode.lean: the commands that a word spells. No row of spec/opcode_table.json gives bits: the part takes
events and not words, so no word spells a command. -/

namespace Sys2Proof

/-- The command spelled by a word of the table's bits; the table gives none. -/
def decodeTableWord (_nbits _w : Nat) : Option Instr := none

end Sys2Proof
end

