-- ==== Sys2Proof/Machine/State.lean ====
section
/-! DEFINITION. Machine/State.lean: every piece of state the spec gives the part, block by block (00_scope.md, Block
Diagram), as plain data, and the machine right after power-on reset. Events that one block has sent and another has not
yet taken are state too: each kind stands in a list of the block that takes it (log entry 7). -/

namespace Sys2Proof.Machine

/-! ### Named values (coded in section 12.2) -/

/-- The tree port states (R1). -/
inductive PortState where
  | off | starting | calibrating | lit | dark
deriving DecidableEq, Repr

/-- The slot states (R22). -/
inductive SlotState where
  | free | assigning | active | lost | resuming | barred | closing
deriving DecidableEq, Repr

/-- Bar reasons (R22); the first two are also quarantine reasons (R177). -/
inductive BarReason where
  | stray | overrun | clone
deriving DecidableEq, Repr

/-- Close reasons of slots and records (R22, R134). -/
inductive CloseReason where
  | interval | profile | deroll | lost | moved | barred | unbarred | restart
deriving DecidableEq, Repr

/-- The tree watch states (R104). -/
inductive WatchState where
  | clear | alert | confirming | locating | foreignLight
deriving DecidableEq, Repr

/-- The time states (R190). -/
inductive TimeState where
  | unset | set | coasting
deriving DecidableEq, Repr

/-- The reset causes (R194). -/
inductive ResetCause where
  | power | pin | restart
deriving DecidableEq, Repr

/-- The start-up phases (section 11.2). -/
inductive StartPhase where
  | loading | running | configFault
deriving DecidableEq, Repr

/-- The oscillators (R181). -/
inductive Oscillator where
  | internal | line
deriving DecidableEq, Repr

/-- The classes of a received burst (R10). -/
inductive BurstClass where
  | heard | garbled | silent
deriving DecidableEq, Repr

/-- The thirteen alert kinds (R158). -/
inductive AlertKind where
  | stranger | quarantinedSeen | strayConfirmed | homeBarred | foreignLight | lightClear | clone | moved
  | clockFail | clockRestored | journalNearFull | tallyDamaged | configFault
deriving DecidableEq, Repr

/-- The reply codes (R162). -/
inductive ReplyCode where
  | done | busy | notFound | inUse | listFull | notNow | badArgument | refused
deriving DecidableEq, Repr

/-! ### Tree port (chapter 1) -/

/-- The two lanes of the order queue (R14). -/
inductive Lane where
  | urgent | normal
deriving DecidableEq, Repr

/-- Which request a WAKE serves: a locate or verdict (R110 to R112), or a wake-due flag (R117). -/
inductive WakeFor where
  | watch | wakeDue
deriving DecidableEq, Repr

/-- An order's kind with the arguments its requester gives (R14, section 12.4). -/
inductive OrderBody where
  | roll
  | assign (serial : Serial) (holdoff : Half)
  | echo
  | holdoff (value : Half)
  | hush
  | wake (why : WakeFor)
  | sever (serial : Serial)
  | release
deriving DecidableEq, Repr

/-- The round and span position an order is bound to (R15). -/
structure Binding where
  round : Round
  position : Nat
deriving DecidableEq, Repr

/-- One entry of an order lane (R14). `waiting` marks an ASSIGN, ECHO or HOLDOFF that was sent and waits for its
answer or its sequence (R18, R19). -/
structure OrderEntry where
  body : OrderBody
  target : Option (SlotId × Gen)
  seq : BitVec 8
  tries : Nat
  lastSent : Option Round
  bound : Option Binding
  waiting : Bool
deriving DecidableEq, Repr

/-- One narrow echo span of a plan: the slot and generation it was granted for and its start offset (R63, R66). -/
structure EchoSpan where
  slot : SlotId
  gen : Gen
  start : Nat
deriving DecidableEq, Repr

/-- The spans reserved in one upstream round (R63). -/
structure Spans where
  rollHead : Bool
  rollTail : Bool
  window : Bool
  echoes : List EchoSpan
deriving DecidableEq, Repr

/-- One entry of a plan with what its issued-plan record keeps (R7). Its burst length is 3 + payload. -/
structure PlanEntry where
  slot : SlotId
  gen : Gen
  start : Nat
  payload : Nat
  assured : Nat
deriving DecidableEq, Repr

/-- The plan of one upstream round, with its spans (R7, R79). -/
structure Plan where
  round : Round
  entries : List PlanEntry
  spans : Spans
deriving DecidableEq, Repr

/-- An issued-plan record (R7): the plan, how many of its bursts are classified (R10), the start offsets of the echo
spans whose end is reported (R57), and those of the echo spans in which a sample found the activity latch set: of a span
whose end is reported, the finding reported with it (R9). -/
structure Issued where
  plan : Plan
  classified : Nat
  echoesEnded : List Nat
  echoLight : List Nat
deriving DecidableEq, Repr

/-- One of the four order slots of a downstream round; the empty slot has kind 0 (section 12.4). -/
structure OrderSlot where
  kind : Nat
  seq : BitVec 8
  target : Nat
  args : List Byte
deriving DecidableEq, Repr

/-- One payload segment: consecutive packets of one slot (R89). -/
structure Segment where
  slot : SlotId
  packets : List (List Byte)
deriving DecidableEq, Repr

/-- A downstream round as composed (R6). -/
structure DownRound where
  round : Round
  check : BitVec 32
  slots : List OrderSlot
  plan : Plan
  segments : List Segment
deriving DecidableEq, Repr

/-- The tree port's state (chapter 1). `latch` is the activity latch as its last sample found it, or clear since the end of
a valid answer; that the clearing at the start of a burst or a span (R9, R10) is no step of its own, so that the field keeps
an earlier sample until the next one, is the model's choice, log entry 51. -/
structure TreePort where
  state : PortState
  recalDue : Bool
  holdStart : Option Round
  sampling : Bool
  txRound : Option DownRound
  latch : Bool
  urgent : List OrderEntry
  normal : List OrderEntry
  orderSeq : BitVec 8
  issued : List Issued
  received : List Round
deriving DecidableEq, Repr

/-! ### Home table (chapter 2) -/

/-- The lost-since field: a round number and a district time (R22). -/
structure LostSince where
  round : Round
  time : DTime
deriving DecidableEq, Repr

/-- One slot record (R22). The slot id is its place in the table. -/
structure SlotRecord where
  gen : Gen
  state : SlotState
  serial : Option Serial
  rejoin : Bool
  profile : Option (Fin 8)
  assured : Nat
  ceiling : Nat
  tariff : Option (Fin 4)
  short : Bool
  rtd : Option Half
  holdoff : Option Half
  hushed : Bool
  wakeDue : Bool
  contested : Bool
  claimTime : Option DTime
  lastHeard : Option Round
  silent : Nat
  lostSince : Option LostSince
  barReason : Option BarReason
  closeReason : Option CloseReason
  releasePending : Bool
deriving DecidableEq, Repr

/-- A slot record's reset values (R22). -/
def SlotRecord.reset : SlotRecord where
  gen := 0
  state := .free
  serial := none
  rejoin := false
  profile := none
  assured := 0
  ceiling := 0
  tariff := none
  short := false
  rtd := none
  holdoff := none
  hushed := false
  wakeDue := false
  contested := false
  claimTime := none
  lastHeard := none
  silent := 0
  lostSince := none
  barReason := none
  closeReason := none
  releasePending := false

/-- The manager's offers that the tree port refused and that are made again at each round start (R14, R32). -/
structure Owed where
  release : Option Gen
  sever : Option (Gen × Serial)
deriving DecidableEq, Repr

structure HomeTable where
  slots : Vector SlotRecord 128
  owed : Vector Owed 128
deriving DecidableEq, Repr

/-! ### Enrolment engine (chapter 3) -/

/-- One entry of the provision list (R40). -/
structure ProvisionEntry where
  serial : Serial
  profile : Fin 8
  tag : Half
deriving DecidableEq, Repr

/-- Why a stranger was turned away (R44). -/
inductive StrangerReason where
  | unprovisioned | quarantined | tableFull | tooFar
deriving DecidableEq, Repr

/-- One entry of the strangers list (R44). -/
structure Stranger where
  serial : Serial
  reason : StrangerReason
  firstSeen : DTime
  lastSeen : DTime
  seen : Nat
deriving DecidableEq, Repr

/-- The phases of a roll call (section 3.3). -/
inductive RollPhase where
  | idle | requested | opened
deriving DecidableEq, Repr

/-- The causes of a roll call (R47). -/
inductive RollCause where
  | periodic | command | followUp
deriving DecidableEq, Repr

/-- The roll-call state of the engine (section 3.3). `reached` is the counter's reaching 0 that ROLL_CALL_DUE has not
yet taken; `offerDue` a ROLL still to be offered; `light` and `answered` gather the open roll call's report;
`followUpAt` is the round of the report whose follow-up is awaited. -/
structure RollCall where
  phase : RollPhase
  counter : Nat
  reached : Bool
  due : Bool
  cause : Option RollCause
  followUps : Nat
  streak : Nat
  offerDue : Bool
  openRound : Option Round
  light : Bool
  answered : Bool
  followUpAt : Option Round
deriving DecidableEq, Repr

/-- The purposes of an echo exchange (R56). -/
inductive EchoPurpose where
  | assign | resume | check
deriving DecidableEq, Repr

/-- The phases of an echo exchange (R56); absent is `none` in the record. -/
inductive EchoPhase where
  | waiting | sent
deriving DecidableEq, Repr

/-- The echo record of one slot (R56). `orderDue` marks an order still to be offered and `spanDue` a span still to be
asked of the planner, in no round before `earliest`. -/
structure EchoRecord where
  purpose : Option EchoPurpose
  phase : Option EchoPhase
  misses : Nat
  homeHoldoff : Option Half
  garbledRun : Nat
  checkPending : Bool
  holdoffWaiting : Option Half
  holdoffInFlight : Option Half
  orderDue : Bool
  spanDue : Bool
  earliest : Option Round
deriving DecidableEq, Repr

/-- An absent echo record (R56). -/
def EchoRecord.absent : EchoRecord where
  purpose := none
  phase := none
  misses := 0
  homeHoldoff := none
  garbledRun := 0
  checkPending := false
  holdoffWaiting := none
  holdoffInFlight := none
  orderDue := false
  spanDue := false
  earliest := none

/-- A valid answer handed over in an echo span and not yet ruled (R57): the span's round and start, the serial, and
the arrival in ticks from the start of the downstream round with its fine phase. -/
structure EchoAnswer where
  round : Round
  start : Nat
  serial : Serial
  ticks : Nat
  phase : Nat
deriving DecidableEq, Repr

/-- A command as it was received: its source, tag, code and argument bytes (section 9.4). -/
structure RxCommand where
  source : Byte
  tag : Byte
  code : Byte
  args : List Byte
deriving DecidableEq, Repr

/-- A profile-close request outstanding (R42): the command, the new values, the slot and generation, and the metering
engine's answer, true for closed. -/
structure ProfileClose where
  command : RxCommand
  serial : Serial
  profile : Fin 8
  tag : Half
  slot : SlotId
  gen : Gen
  closed : Bool
deriving DecidableEq, Repr

/-- The enrolment engine (chapter 3). `reechoes` are the re-echo requests in transit, each the slot it names (R61, R102, log
entry 54). -/
structure Enrolment where
  provision : List ProvisionEntry
  strangers : List Stranger
  roll : RollCall
  echoes : Vector EchoRecord 128
  answers : List EchoAnswer
  reechoes : List SlotId
  closes : List ProfileClose
deriving DecidableEq, Repr

/-! ### Grant scheduler (chapter 4) -/

/-- A held echo request of the window planner (R64). -/
structure EchoRequest where
  slot : SlotId
  gen : Gen
  purpose : EchoPurpose
  earliest : Option Round
  arrival : Round
deriving DecidableEq, Repr

/-- The roll call in progress at the planner (R64). -/
structure RollProgress where
  down : Round
  tail : Round
  head : Round
  sent : Bool
deriving DecidableEq, Repr

/-- One entry of a slot's grant history (R70). -/
structure Grant where
  round : Round
  payload : Nat
  assured : Nat
deriving DecidableEq, Repr

/-- The demand state of one slot (R70); the history's newest entry is last. -/
structure Demand where
  fill : Nat
  report : Option Round
  history : List Grant
  lastBurst : Option Round
deriving DecidableEq, Repr

/-- A demand state's reset values (R70). -/
def Demand.reset : Demand := { fill := 0, report := none, history := [], lastBurst := none }

structure Scheduler where
  rollReq : Bool
  echoReqs : List EchoRequest
  watchReq : Option Nat
  rollProgress : Option RollProgress
  demand : Vector Demand 128
  rotation : SlotId
  nextPlan : Option Plan
deriving DecidableEq, Repr

/-- The planner with no request and no promise (R64, R69). -/
def Scheduler.emptied (d : Scheduler) : Scheduler :=
  { d with rollReq := false, echoReqs := [], watchReq := none, rollProgress := none, nextPlan := none }

/-! ### Downstream engine (chapter 5) -/

/-- One slot's queue with its scheduler state (R85, R86). -/
structure DownQueue where
  packets : List (List Byte)
  deficit : Nat
  held : Bool
deriving DecidableEq, Repr

/-- A LOST, BARRED or CLOSING announcement the engine has not yet acted on (R91). -/
structure Flush where
  slot : SlotId
  gen : Gen
  closing : Bool
deriving DecidableEq, Repr

/-- A packet at the network port: its home tag and content (section 12.4). -/
structure NetPacket where
  tag : Half
  content : List Byte
deriving DecidableEq, Repr

structure Downstream where
  queues : Vector DownQueue 128
  pointer : SlotId
  free : Nat
  pressure : Bool
  txBlocks : Nat
  flushes : List Flush
  egress : List NetPacket
deriving DecidableEq, Repr

/-! ### Stray-light watch (chapter 6) -/

/-- The guard strike counts of one slot (R100). -/
structure Strikes where
  tail : Nat
  head : Nat
deriving DecidableEq, Repr

/-- A judged guard sample with the slots and generations it is charged to (R97, R101). -/
structure GuardSample where
  violation : Bool
  before : Option (SlotId × Gen)
  after : Option (SlotId × Gen)
deriving DecidableEq, Repr

/-- The judged samples of the round in reception (R97). -/
structure RoundScore where
  guards : List GuardSample
  quietViolations : Nat
  windowViolations : Nat
deriving DecidableEq, Repr

/-- An open window test (R107). -/
structure WindowTest where
  want : Nat
  rounds : List Round
  judged : Nat
  violated : Nat
deriving DecidableEq, Repr

/-- The stage of a locate (R109 to R111): waiting for wake-due flags, a step with its set L, or the final check's
first or second part. -/
inductive LocateStage where
  | waitWakes
  | step (hushed : List (SlotId × Gen))
  | check1
  | check2
deriving DecidableEq, Repr

/-- The locate under way (R109): the candidate set, its stage, and the round starts left to let pass once the stage's
orders are all reported. -/
structure Locate where
  cands : List (SlotId × Gen)
  stage : LocateStage
  settle : Option Nat
deriving DecidableEq, Repr

/-- A HUSH or WAKE of the watch not yet reported; `seq` is its order sequence once accepted (R110). -/
structure WatchOrder where
  slot : SlotId
  gen : Gen
  hush : Bool
  seq : Option (BitVec 8)
deriving DecidableEq, Repr

/-- The stray-light watch (chapter 6). `retestHeld` marks a retest whose time has come and that waits for a round start
with no hushed flag set (R114). -/
structure Watch where
  state : WatchState
  b16 : Nat
  calib : List Nat
  counts : Vector Strikes 128
  history : List Bool
  since : Round
  test : Option WindowTest
  locate : Option Locate
  orders : List WatchOrder
  score : RoundScore
  retestHeld : Bool
deriving DecidableEq, Repr

/-- No samples judged. -/
def RoundScore.empty : RoundScore := { guards := [], quietViolations := 0, windowViolations := 0 }

/-! ### Metering and rating engine (chapter 7) -/

/-- The kinds of meter update (R119). -/
inductive MeterKind where
  | up | down | drop
deriving DecidableEq, Repr

/-- One entry of the meter update queue (R119). `assured` is 0 but for UP. -/
structure MeterUpdate where
  slot : SlotId
  gen : Gen
  kind : MeterKind
  bytes : Nat
  assured : Nat
  band : Band
deriving DecidableEq, Repr

/-- Four byte counts: of a tally (R122) or of an overflow accumulator (R120). -/
structure ByteCounts where
  upAssured : Nat
  upSurplus : Nat
  down : Nat
  dropped : Nat
deriving DecidableEq, Repr

def ByteCounts.zero : ByteCounts := { upAssured := 0, upSurplus := 0, down := 0, dropped := 0 }

/-- The three carries of a tally (R122). -/
structure Carries where
  assured : Nat
  surplus : Nat
  down : Nat
deriving DecidableEq, Repr

def Carries.zero : Carries := { assured := 0, surplus := 0, down := 0 }

/-- A tally (R122). The stored check value is held by what it tells about the stored bits: nothing wrong, one wrong
bit, or two (R123, log entry 8). -/
structure Tally where
  counts : ByteCounts
  carries : Carries
  damaged : Bool
  upset : Option Upset
deriving DecidableEq, Repr

def Tally.zero : Tally := { counts := .zero, carries := .zero, damaged := false, upset := none }

/-- The context states (R122). -/
inductive CtxState where
  | none | opened | owed | draining | finalOwed
deriving DecidableEq, Repr

/-- The pending marks of a context (R122, R135). -/
structure Marks where
  late : Bool
  repaired : Bool
  saturated : Bool
  provisional : Bool
  short : Bool
  stepped : Bool
  overdue : Bool
deriving DecidableEq, Repr

def Marks.clear : Marks where
  late := false
  repaired := false
  saturated := false
  provisional := false
  short := false
  stepped := false
  overdue := false

/-- The meter context of one slot (R122). -/
structure Context where
  state : CtxState
  tallies : Vector Tally 4
  periodStart : DTime
  drainMark : Seq
  closeReason : Option CloseReason
  marks : Marks
deriving DecidableEq, Repr

/-- A context in NONE; its tallies, period start and drain mark are DESIGN CHOICE 0 (log entry 1). -/
def Context.closed : Context where
  state := .none
  tallies := Vector.replicate 4 Tally.zero
  periodStart := 0
  drainMark := 0
  closeReason := none
  marks := .clear

structure Meter where
  queue : List MeterUpdate
  taken : Seq
  consumed : Seq
  spill : Vector ByteCounts 128
  ctx : Vector Context 128
  band : Band
  nextBoundary : Option Nat
  scrubCount : Nat
deriving DecidableEq, Repr

/-! ### Journal manager (chapter 8) -/

/-- One line of a usage record (R134). -/
structure UsageLine where
  band : Band
  damaged : Bool
  counts : ByteCounts
  units : Nat
deriving DecidableEq, Repr

/-- A usage record (R134, section 12.5); sequence and run mark are written by the append (R140). -/
structure UsageRecord where
  seq : Seq
  runMark : Half
  serial : Serial
  slot : SlotId
  gen : Gen
  start : DTime
  stop : DTime
  flags : Half
  reason : CloseReason
  lines : List UsageLine
deriving DecidableEq, Repr

/-- A USAGE_ACK handed over and not yet taken (R144). -/
structure AckFrame where
  source : Byte
  dest : Byte
  runMark : Half
  seq : Seq
deriving DecidableEq, Repr

/-- The journal (R137, R138): the held records, oldest first, and the three pointers. -/
structure Journal where
  records : List UsageRecord
  oldest : Seq
  publish : Seq
  append : Seq
  runMark : Half
  nearFull : Bool
  inHand : Option Seq
  pacing : Nat
  ackTimer : Option Nat
  acks : List AckFrame
deriving DecidableEq, Repr

/-! ### Shelf link controller (chapter 9) -/

/-- What a frame of the part says (R154, section 12.3). The time field of a beacon is written when its transmission
starts (R191). -/
inductive Message where
  | time (state : TimeState)
  | claim (serial : Serial) (time : DTime) (heard : Bool)
  | release (serial : Serial)
  | bar (serial : Serial) (reason : BarReason) (time : DTime)
  | alert (kind : AlertKind) (state : TimeState) (time : DTime) (details : List Byte)
  | usage (record : UsageRecord)
  | reply (dest : Byte) (tag : Byte) (command : Byte) (code : ReplyCode) (results : List Byte)
deriving DecidableEq, Repr

/-- One entry of the transmit queue (R154). -/
structure TxEntry where
  message : Message
  attempts : Nat
  age : Nat
deriving DecidableEq, Repr

/-- The transmitter: free to count silence, sending the entry of this age, or backing off for this many bit times. -/
inductive TxPhase where
  | idle
  | sending (age : Nat)
  | backoff (bits : Nat)
deriving DecidableEq, Repr

/-- How a collided frame ended on the pair (R156): the number of its bits that went out, the last of them the first that
did not match, and the number of jam bits that followed. No rule gives the jam a pattern (log entry 52). -/
structure WireCut where
  bits : Nat
  jam : Nat
deriving DecidableEq, Repr

/-- The last command record (R160). -/
structure LastCommand where
  tag : Byte
  code : Byte
  args : List Byte
  reply : Option (ReplyCode × List Byte)
deriving DecidableEq, Repr

/-- The shelf link controller (chapter 9). `rival` is the model's own: the other source whose offer reaches the queue
before the backlog's when the frame being sent leaves it (R159, log entry 45), and so is `mismatch`: the bit at which the
read-back of that frame will not match if a collision comes (R156, log entry 52). `wire` holds the bytes of the frame sent
last, after a collision only those of which a bit went out, and `cut` how that collision ended it. -/
structure Link where
  station : BitVec 5
  queue : List TxEntry
  nextAge : Nat
  phase : TxPhase
  rival : Option RivalOffer
  mismatch : Nat
  silence : Nat
  active : Bool
  wire : List Byte
  cut : Option WireCut
  noted : DTime
  backAlerts : List Message
  backReplies : List Message
  flags : BitVec 14
  lastCommand : Option LastCommand
  inFlight : Nat
  inbox : List RxCommand
  dispatched : List RxCommand
deriving DecidableEq, Repr

/-! ### District roster and quarantine (chapter 10) -/

/-- One roster entry (R171); the last-heard time is a round number of the part's own timebase. -/
structure Claim where
  serial : Serial
  holder : Byte
  time : DTime
  lastHeard : Round
deriving DecidableEq, Repr

/-- One quarantine entry (R177). -/
structure Quarantine where
  serial : Serial
  reason : BarReason
  origin : Byte
  time : DTime
deriving DecidableEq, Repr

/-- One BAR of the pending bar list (R178). -/
structure PendingBar where
  serial : Serial
  reason : BarReason
  time : DTime
deriving DecidableEq, Repr

/-- The roster's decisions (R30); a CLONE carries the claiming station it noted (R175). That each decision keeps its own
station, also when a second CLONE for the serial is noted before the first is taken, is the model's choice, log
entry 53. -/
inductive DecisionKind where
  | moved
  | clone (station : Byte)
  | unbar
deriving DecidableEq, Repr

/-- A decision sent and not yet taken (R176). -/
structure Decision where
  serial : Serial
  kind : DecisionKind
deriving DecidableEq, Repr

structure Roster where
  claims : List Claim
  quarantine : List Quarantine
  claimDue : Vector (Option Gen) 128
  releases : List Serial
  bars : List PendingBar
  refresh : Nat
  rebroadcast : Nat
  decisions : List Decision
deriving DecidableEq, Repr

/-! ### Time and clock unit (chapter 11) -/

/-- An image that passed its read, clamped, with the start count it held (R184, R185). -/
structure Image where
  config : Configuration
  startCount : Half
deriving DecidableEq, Repr

/-- One entry of the peer offset table (R192). -/
structure PeerOffset where
  station : Byte
  offset : Int
  round : Round
deriving DecidableEq, Repr

/-- The beacon in hand (R191). -/
inductive Beacon where
  | none | waiting | queued
deriving DecidableEq, Repr

structure Clock where
  phase : StartPhase
  cause : ResetCause
  reads : Nat
  writes : Nat
  image : Option Image
  startWritten : List Host.Cell
  osc : Oscillator
  edgeLatch : Bool
  failed : Bool
  edges : Nat
  round : Round
  time : DTime
  frac : Nat
  trim : Int
  state : TimeState
  lastTime : Round
  secondCount : Nat
  peers : List PeerOffset
  beacon : Beacon
deriving DecidableEq, Repr

/-! ### The whole part -/

/-- The state of the part: its eleven blocks, the configuration handed to them, and the queue of waiting commands. -/
structure State where
  tree : TreePort
  home : HomeTable
  enrol : Enrolment
  sched : Scheduler
  down : Downstream
  watch : Watch
  meter : Meter
  journal : Journal
  link : Link
  roster : Roster
  clock : Clock
  config : Configuration
  pending : List Instr
deriving DecidableEq, Repr

/-- No command of the spec stops the part, so no fault exists. -/
inductive Fault where
deriving DecidableEq, Repr

/-- Refusals. -/
inductive Refusal where
  /-- Raised by an arm of `exec` for a command without a meaning; no arm raises it. Safe: the machine stops. -/
  | notModelled (mnemonic : String)
deriving DecidableEq, Repr

/-- The tree port after a power-on or pin reset (R1, R7, R14). -/
def TreePort.reset : TreePort where
  state := .off
  recalDue := false
  holdStart := none
  sampling := false
  txRound := none
  latch := false
  urgent := []
  normal := []
  orderSeq := 0
  issued := []
  received := []

/-- The home table after a power-on or pin reset (R22, R36). -/
def HomeTable.reset : HomeTable where
  slots := Vector.replicate 128 SlotRecord.reset
  owed := Vector.replicate 128 { release := none, sever := none }

/-- No roll call, and the counter not running (R46). That it stands at 0 until the first entry to LIT is the model's choice,
log entry 1. -/
def RollCall.reset : RollCall where
  phase := .idle
  counter := 0
  reached := false
  due := false
  cause := none
  followUps := 0
  streak := 0
  offerDue := false
  openRound := none
  light := false
  answered := false
  followUpAt := none

/-- The enrolment engine after a power-on or pin reset (R40, R44, R46, R56). -/
def Enrolment.reset : Enrolment where
  provision := []
  strangers := []
  roll := .reset
  echoes := Vector.replicate 128 EchoRecord.absent
  answers := []
  reechoes := []
  closes := []

/-- The grant scheduler after a power-on or pin reset (R64, R70, R73). -/
def Scheduler.reset : Scheduler where
  rollReq := false
  echoReqs := []
  watchReq := none
  rollProgress := none
  demand := Vector.replicate 128 Demand.reset
  rotation := 0
  nextPlan := none

/-- The downstream engine after a power-on or pin reset (R84 to R86). -/
def Downstream.reset : Downstream where
  queues := Vector.replicate 128 { packets := [], deficit := 0, held := false }
  pointer := 0
  free := Config.poolBlocks
  pressure := false
  txBlocks := 0
  flushes := []
  egress := []

/-- The stray-light watch after a power-on or pin reset (R98, R100, R103, R118). -/
def Watch.reset : Watch where
  state := .clear
  b16 := 0
  calib := []
  counts := Vector.replicate 128 { tail := 0, head := 0 }
  history := []
  since := 0
  test := none
  locate := none
  orders := []
  score := .empty
  retestHeld := false

/-- The metering engine after a power-on or pin reset (R119 to R122, R125, R128). -/
def Meter.reset : Meter where
  queue := []
  taken := 0
  consumed := 0
  spill := Vector.replicate 128 ByteCounts.zero
  ctx := Vector.replicate 128 Context.closed
  band := 0
  nextBoundary := none
  scrubCount := 0

/-- The journal after a power-on or pin reset (R137 to R142, R147). -/
def Journal.reset : Journal where
  records := []
  oldest := 1
  publish := 1
  append := 1
  runMark := 0
  nearFull := false
  inHand := none
  pacing := 0
  ackTimer := none
  acks := []

/-- The shelf link controller after a power-on or pin reset with these straps (R151, R154, R159 to R161, R164). -/
def Link.reset (straps : BitVec 5) : Link where
  station := straps
  queue := []
  nextAge := 0
  phase := .idle
  rival := none
  mismatch := 0
  silence := 0
  active := false
  wire := []
  cut := none
  noted := 0
  backAlerts := []
  backReplies := []
  flags := 0
  lastCommand := none
  inFlight := 0
  inbox := []
  dispatched := []

/-- The district roster after a power-on or pin reset (R167 to R171, R177, R178). -/
def Roster.reset : Roster where
  claims := []
  quarantine := []
  claimDue := Vector.replicate 128 none
  releases := []
  bars := []
  refresh := 0
  rebroadcast := 0
  decisions := []

/-- The time and clock unit after a power-on or pin reset (R181, R183, R186, R189 to R192, R194). -/
def Clock.reset (cause : ResetCause) : Clock where
  phase := .loading
  cause := cause
  reads := 0
  writes := 0
  image := none
  startWritten := []
  osc := .internal
  edgeLatch := false
  failed := false
  edges := 0
  round := 0
  time := 0
  frac := 0
  trim := 0
  state := .unset
  lastTime := 0
  secondCount := 0
  peers := []
  beacon := .none

/-- The part right after a power-on or pin reset (R183, R194); the commands still waiting outside stay. -/
def State.afterReset (cause : ResetCause) (straps : BitVec 5) (pending : List Instr) : State where
  tree := .reset
  home := .reset
  enrol := .reset
  sched := .reset
  down := .reset
  watch := .reset
  meter := .reset
  journal := .reset
  link := .reset straps
  roster := .reset
  clock := .reset cause
  config := .beforeHandOver
  pending := pending

/-- The machine right after power-on reset. The straps are DESIGN CHOICE 0 (log entry 1, unsafe). -/
def State.reset : State := State.afterReset .power 0 []

end Sys2Proof.Machine
end

