-- ==== Sys2Proof/Machine/Layouts.lean ====
section
/-! DEFINITION. Machine/Layouts.lean: the encoding that every layout shares (R195, R196), the coded values of section
12.2, and the byte layouts of what the part sends (chapter 12). -/

namespace Sys2Proof.Machine

/-! ### Bytes and checks (R195) -/

/-- The low `k` bytes of `v`, most significant first (R195). -/
def be : Nat → Nat → List Byte
  | 0, _ => []
  | k + 1, v => be k (v / 256) ++ [BitVec.ofNat 8 v]

/-- The number a field holds, most significant byte first (R195). -/
def ofBE (bs : List Byte) : Nat := bs.foldl (fun a b => 256 * a + b.toNat) 0

/-- `f` applied `n` times. -/
def times {α : Type} : Nat → (α → α) → α → α
  | 0, _, x => x
  | n + 1, f, x => times n f (f x)

/-- One bit of a check computation over polynomial `poly` (R195). -/
def checkBit {w : Nat} (poly : BitVec w) (c : BitVec w) : BitVec w :=
  if c.msb then (c <<< 1) ^^^ poly else c <<< 1

/-- One byte of a check computation: most significant bit first, no reversal (R195). -/
def checkByte {w : Nat} (poly : BitVec w) (c : BitVec w) (b : Byte) : BitVec w :=
  times 8 (checkBit poly) (c ^^^ (b.zeroExtend w <<< (w - 8)))

/-- The frame check and the configuration checksum (R195): 16 bits, 0x1021, from 0xFFFF. -/
def check16 (bs : List Byte) : BitVec 16 := bs.foldl (checkByte 0x1021) 0xFFFF

/-- The round header, burst header, identity and packet checks (R195): 32 bits, 0x04C11DB7, inverted. -/
def check32 (bs : List Byte) : BitVec 32 := ~~~ (bs.foldl (checkByte 0x04C11DB7) 0xFFFFFFFF)

def be16 (v : BitVec 16) : List Byte := be 2 v.toNat
def be32 (v : BitVec 32) : List Byte := be 4 v.toNat
def beTime (v : DTime) : List Byte := be 6 v.toNat
def beSerial (v : Serial) : List Byte := be 8 v.toNat

/-- Bytes `k` to `k + n - 1` of an item. -/
def field (bs : List Byte) (k n : Nat) : List Byte := (bs.drop k).take n

/-- The number in bytes `k` to `k + n - 1` of an item. -/
def fieldNat (bs : List Byte) (k n : Nat) : Nat := ofBE (field bs k n)

/-! ### Coded values (section 12.2) -/

def PortState.code : PortState → Nat
  | .off => 0 | .starting => 1 | .calibrating => 2 | .lit => 3 | .dark => 4

def SlotState.code : SlotState → Nat
  | .free => 0 | .assigning => 1 | .active => 2 | .lost => 3 | .resuming => 4 | .barred => 5 | .closing => 6

def BarReason.code : BarReason → Nat
  | .stray => 0 | .overrun => 1 | .clone => 2

def CloseReason.code : CloseReason → Nat
  | .interval => 0 | .profile => 1 | .deroll => 2 | .lost => 3 | .moved => 4 | .barred => 5 | .unbarred => 6
  | .restart => 7

def WatchState.code : WatchState → Nat
  | .clear => 0 | .alert => 1 | .confirming => 2 | .locating => 3 | .foreignLight => 4

def TimeState.code : TimeState → Nat
  | .unset => 0 | .set => 1 | .coasting => 2

def ResetCause.code : ResetCause → Nat
  | .power => 0 | .pin => 1 | .restart => 2

def StrangerReason.code : StrangerReason → Nat
  | .unprovisioned => 0 | .quarantined => 1 | .tableFull => 2 | .tooFar => 3

def ReplyCode.code : ReplyCode → Nat
  | .done => 0 | .busy => 1 | .notFound => 2 | .inUse => 3 | .listFull => 4 | .notNow => 5 | .badArgument => 6
  | .refused => 7

/-- The alert kind's code, which is also its event flag's bit (section 12.2). -/
def AlertKind.code : AlertKind → Nat
  | .stranger => 0 | .quarantinedSeen => 1 | .strayConfirmed => 2 | .homeBarred => 3 | .foreignLight => 4
  | .lightClear => 5 | .clone => 6 | .moved => 7 | .clockFail => 8 | .clockRestored => 9 | .journalNearFull => 10
  | .tallyDamaged => 11 | .configFault => 12

def OrderBody.code : OrderBody → Nat
  | .roll => 1 | .assign _ _ => 2 | .echo => 3 | .holdoff _ => 4 | .hush => 5 | .wake _ => 6 | .sever _ => 7
  | .release => 8

def timeStateOf : Nat → Option TimeState
  | 0 => some .unset | 1 => some .set | 2 => some .coasting | _ => none

/-- A quarantine reason of a received BAR; 2 has no meaning there (section 12.2). -/
def quarantineReasonOf : Nat → Option BarReason
  | 0 => some .stray | 1 => some .overrun | _ => none

/-! ### Usage record (section 12.5) -/

def UsageLine.bytes (l : UsageLine) : List Byte :=
  be 1 (l.band.val + if l.damaged then 128 else 0) ++ be 5 l.counts.upAssured ++ be 5 l.counts.upSurplus
    ++ be 5 l.counts.down ++ be 5 l.counts.dropped ++ be 4 l.units

def UsageRecord.bytes (r : UsageRecord) : List Byte :=
  be32 r.seq ++ be16 r.runMark ++ beSerial r.serial ++ be 1 r.slot.val ++ [r.gen] ++ beTime r.start ++ beTime r.stop
    ++ be16 r.flags ++ be 1 r.reason.code ++ be 1 r.lines.length ++ r.lines.flatMap UsageLine.bytes

/-! ### Shelf link frames (section 12.3) -/

def Message.kindCode : Message → Nat
  | .time _ => 1 | .claim _ _ _ => 2 | .release _ => 3 | .bar _ _ _ => 4 | .alert _ _ _ _ => 6 | .usage _ => 7
  | .reply _ _ _ _ _ => 10

/-- The destination of a frame the part sends (R154). -/
def Message.dest (collector : Nat) : Message → Byte
  | .usage _ => BitVec.ofNat 8 collector
  | .reply dest _ _ _ _ => dest
  | .time _ | .claim _ _ _ | .release _ | .bar _ _ _ | .alert _ _ _ _ => 255

/-- The class of a frame the part sends (R154): 0 urgent, 1 normal, 2 bulk. -/
def Message.txClass : Message → Nat
  | .bar _ _ _ | .alert _ _ _ _ => 0
  | .time _ | .claim _ _ _ | .release _ | .reply _ _ _ _ _ => 1
  | .usage _ => 2

/-- The payload of a frame; `now` is the whole-millisecond count written into a beacon as its start delimiter leaves
the part (R191). -/
def Message.payload (now : DTime) : Message → List Byte
  | .time st => be 1 st.code ++ beTime now
  | .claim x t heard => beSerial x ++ beTime t ++ be 1 heard.toNat ++ be 3 0
  | .release x => beSerial x
  | .bar x r t => beSerial x ++ be 1 r.code ++ beTime t ++ be 5 0
  | .alert k st t details => be 1 k.code ++ be 1 st.code ++ beTime t ++ details
  | .usage r => r.bytes
  | .reply _ tag cmd rc results => [tag, cmd] ++ be 1 rc.code ++ results

/-- The bytes of a frame on the pair: start delimiter, destination, source, kind, length, payload, check (12.3). -/
def frameBytes (station : BitVec 5) (collector : Nat) (now : DTime) (m : Message) : List Byte :=
  let p := m.payload now
  let body := [m.dest collector, station.zeroExtend 8] ++ be 1 m.kindCode ++ be 1 p.length ++ p
  0xA5 :: body ++ be16 (check16 body)

/-! ### Downstream round (section 12.4) -/

/-- The arguments of an order, padded to 12 bytes; `position` is the bound span's start (section 12.4). -/
def OrderBody.args (position : Nat) (b : OrderBody) : List Byte :=
  let a := match b with
    | .roll => be 2 position
    | .assign x h => beSerial x ++ be16 h ++ be 2 position
    | .echo => be 2 position
    | .holdoff h => be16 h
    | .sever x => beSerial x
    | .hush | .wake _ | .release => []
  a ++ List.replicate (12 - a.length) 0

def OrderSlot.bytes (o : OrderSlot) : List Byte :=
  be 1 o.kind ++ [o.seq] ++ be 1 o.target ++ [0] ++ o.args

/-- An order slot left unused is marked empty (R6): kind 0. Log entry 34: the layout gives no sequence and target for it, and
the model sends 0. -/
def OrderSlot.empty : OrderSlot := { kind := 0, seq := 0, target := 0, args := List.replicate 12 0 }

/-- A burst's length in ticks (R7). -/
def PlanEntry.length (e : PlanEntry) : Nat := 3 + e.payload

def PlanEntry.bytes (e : PlanEntry) : List Byte :=
  be 1 e.slot.val ++ be 2 e.start ++ be 2 e.length

/-- Header bytes 0 to 7 of a downstream round (section 12.4). -/
def headerBytes (round : Round) (entries segments : Nat) : List Byte :=
  be32 round ++ be 1 entries ++ be 2 segments ++ [0]

/-- The round header check covers header bytes 0 to 7, the order slots and the plan (R6, R195). -/
def headerCheck (round : Round) (slots : List OrderSlot) (plan : Plan) (segments : Nat) : BitVec 32 :=
  check32 (headerBytes round plan.entries.length segments ++ slots.flatMap OrderSlot.bytes
    ++ plan.entries.flatMap PlanEntry.bytes)

/-- A packet inside a segment: length, content, packet check (section 12.4). -/
def packetBytes (content : List Byte) : List Byte :=
  let head := be 2 content.length ++ content
  head ++ be32 (check32 head)

def Segment.bytes (g : Segment) : List Byte :=
  be 1 g.slot.val ++ be 2 g.packets.length ++ g.packets.flatMap packetBytes

/-- The bytes of a downstream round as the tree port sends it (section 12.4). -/
def DownRound.bytes (r : DownRound) : List Byte :=
  headerBytes r.round r.plan.entries.length r.segments.length ++ be32 r.check ++ r.slots.flatMap OrderSlot.bytes
    ++ r.plan.entries.flatMap PlanEntry.bytes ++ r.segments.flatMap Segment.bytes

/-- A packet at the network port: home tag and content (section 12.4). -/
def NetPacket.bytes (p : NetPacket) : List Byte := be16 p.tag ++ p.content

/-! ### Snapshots (section 12.3) -/

/-- A byte whose bit k is set where the k-th of `bs` is. -/
def bitsOf : List Bool → Nat
  | [] => 0
  | b :: bs => b.toNat + 2 * bitsOf bs

/-- The slot snapshot of READ_HOME (section 12.3): absent fields are sent as 0. -/
def slotSnapshot (i : SlotId) (r : SlotRecord) (now : Round) : List Byte :=
  be 2 (bitsOf [r.serial.isSome, r.profile.isSome, r.tariff.isSome, r.rtd.isSome, r.claimTime.isSome,
      r.lastHeard.isSome, r.lostSince.isSome, r.barReason.isSome, r.closeReason.isSome])
    ++ be 1 i.val ++ [r.gen] ++ be 1 r.state.code
    ++ be 1 (bitsOf [r.rejoin, r.short, r.hushed, r.wakeDue, r.contested, r.releasePending])
    ++ beSerial (r.serial.getD 0) ++ be 1 ((r.profile.map (·.val)).getD 0) ++ be 2 r.assured ++ be 2 r.ceiling
    ++ be 1 ((r.tariff.map (·.val)).getD 0) ++ be16 (r.rtd.getD 0) ++ be16 (r.holdoff.getD 0) ++ be 1 r.silent
    ++ beTime (r.claimTime.getD 0) ++ be32 (r.lastHeard.getD 0) ++ be32 ((r.lastHeard.map (now - ·)).getD 0)
    ++ be32 ((r.lostSince.map (·.round)).getD 0) ++ beTime ((r.lostSince.map (·.time)).getD 0)
    ++ be 1 ((r.barReason.map (·.code)).getD 0) ++ be 1 ((r.closeReason.map (·.code)).getD 0)

/-- A strangers entry of READ_STRANGERS (section 12.3). -/
def Stranger.bytes (e : Stranger) : List Byte :=
  beSerial e.serial ++ be 1 e.reason.code ++ beTime e.firstSeen ++ beTime e.lastSeen ++ be 1 e.seen

end Sys2Proof.Machine
end

