-- ==== Sys2Proof/Machine/Ops.lean ====
section
/-! DEFINITION. Machine/Ops.lean: the named operations over the part's state. Each block is written through one
operation, each per-slot record through one more, and the groups of slot states, the round arithmetic and the lookups
that several blocks use are given once. -/

namespace Sys2Proof.Machine

/-! ### One update per block -/

def State.modTree (s : State) (f : TreePort → TreePort) : State := { s with tree := f s.tree }
def State.modHome (s : State) (f : HomeTable → HomeTable) : State := { s with home := f s.home }
def State.modEnrol (s : State) (f : Enrolment → Enrolment) : State := { s with enrol := f s.enrol }
def State.modSched (s : State) (f : Scheduler → Scheduler) : State := { s with sched := f s.sched }
def State.modDown (s : State) (f : Downstream → Downstream) : State := { s with down := f s.down }
def State.modWatch (s : State) (f : Watch → Watch) : State := { s with watch := f s.watch }
def State.modMeter (s : State) (f : Meter → Meter) : State := { s with meter := f s.meter }
def State.modJournal (s : State) (f : Journal → Journal) : State := { s with journal := f s.journal }
def State.modLink (s : State) (f : Link → Link) : State := { s with link := f s.link }
def State.modRoster (s : State) (f : Roster → Roster) : State := { s with roster := f s.roster }
def State.modClock (s : State) (f : Clock → Clock) : State := { s with clock := f s.clock }

/-! ### One update per per-slot record -/

/-- All slots in ascending order. -/
def allSlots : List SlotId := List.finRange 128

/-- Table update at one slot. -/
def putAt {α : Type} {n : Nat} (v : Vector α n) (i : Fin n) (x : α) : Vector α n := v.set i.val x i.isLt

/-- The slot record of slot `i`. -/
def State.slot (s : State) (i : SlotId) : SlotRecord := s.home.slots.get i
def State.owed (s : State) (i : SlotId) : Owed := s.home.owed.get i
def State.echo (s : State) (i : SlotId) : EchoRecord := s.enrol.echoes.get i
def State.demand (s : State) (i : SlotId) : Demand := s.sched.demand.get i
def State.queue (s : State) (i : SlotId) : DownQueue := s.down.queues.get i
def State.strikes (s : State) (i : SlotId) : Strikes := s.watch.counts.get i
def State.ctx (s : State) (i : SlotId) : Context := s.meter.ctx.get i
def State.spill (s : State) (i : SlotId) : ByteCounts := s.meter.spill.get i
def State.claimDue (s : State) (i : SlotId) : Option Gen := s.roster.claimDue.get i

def State.modSlot (s : State) (i : SlotId) (f : SlotRecord → SlotRecord) : State :=
  s.modHome fun h => { h with slots := putAt h.slots i (f (h.slots.get i)) }
def State.modOwed (s : State) (i : SlotId) (f : Owed → Owed) : State :=
  s.modHome fun h => { h with owed := putAt h.owed i (f (h.owed.get i)) }
def State.modEcho (s : State) (i : SlotId) (f : EchoRecord → EchoRecord) : State :=
  s.modEnrol fun e => { e with echoes := putAt e.echoes i (f (e.echoes.get i)) }
def State.modDemand (s : State) (i : SlotId) (f : Demand → Demand) : State :=
  s.modSched fun d => { d with demand := putAt d.demand i (f (d.demand.get i)) }
def State.modQueue (s : State) (i : SlotId) (f : DownQueue → DownQueue) : State :=
  s.modDown fun d => { d with queues := putAt d.queues i (f (d.queues.get i)) }
def State.modStrikes (s : State) (i : SlotId) (f : Strikes → Strikes) : State :=
  s.modWatch fun w => { w with counts := putAt w.counts i (f (w.counts.get i)) }
def State.modCtx (s : State) (i : SlotId) (f : Context → Context) : State :=
  s.modMeter fun m => { m with ctx := putAt m.ctx i (f (m.ctx.get i)) }
def State.modMarks (s : State) (i : SlotId) (f : Marks → Marks) : State :=
  s.modCtx i fun c => { c with marks := f c.marks }
def State.setOver (s : State) (i : SlotId) (v : ByteCounts) : State :=
  s.modMeter fun m => { m with spill := putAt m.spill i v }
def State.setClaimDue (s : State) (i : SlotId) (g : Option Gen) : State :=
  s.modRoster fun r => { r with claimDue := putAt r.claimDue i g }
def State.modRoll (s : State) (f : RollCall → RollCall) : State :=
  s.modEnrol fun e => { e with roll := f e.roll }

/-- `f` applied in ascending order for every slot that meets `p` (as `p` reads the state before the first). -/
def State.forSlots (s : State) (p : SlotId → Bool) (f : State → SlotId → State) : State :=
  (allSlots.filter p).foldl f s

/-! ### Round numbers and counts -/

/-- The present round number. -/
def State.now (s : State) : Round := s.clock.round

/-- Rounds passed from `t` to `now`, on the difference modulo 2^32 (R22). -/
def since (now t : Round) : Nat := (now - t).toNat

/-- Whether `a` comes later than `b`, comparing modulo 2^32 (R71, R138): the signed difference is above 0 (log entry 39). -/
def later (a b : BitVec 32) : Bool := 0 < (a - b).toInt

/-- The present minute of day (00_scope.md, Time units). -/
def minuteOf (t : DTime) : Nat := t.toNat / 60000 % 1440

/-! ### Groups of slot states (R23) -/

/-- A slot is metered in ACTIVE, LOST, RESUMING and BARRED, and in ASSIGNING with the rejoin mark. -/
def SlotRecord.metered (r : SlotRecord) : Bool :=
  match r.state with
  | .active | .lost | .resuming | .barred => true
  | .assigning => r.rejoin
  | .free | .closing => false

/-- A slot is enrolled when it is metered or CLOSING. -/
def SlotRecord.enrolled (r : SlotRecord) : Bool := r.metered || r.state == .closing

/-- A slot is available when it is FREE and its release pending flag is clear. -/
def SlotRecord.available (r : SlotRecord) : Bool := r.state == .free && !r.releasePending

/-- A slot in ASSIGNING on a new assignment: the rejoin mark is clear. -/
def SlotRecord.fresh (r : SlotRecord) : Bool := r.state == .assigning && !r.rejoin

/-- A slot holds its serial in every state but FREE (R23). -/
def SlotRecord.holds (r : SlotRecord) (x : Serial) : Bool := r.state != .free && r.serial == some x

/-- The slot holding a serial, if any. -/
def State.holder (s : State) (x : Serial) : Option SlotId := allSlots.find? fun i => (s.slot i).holds x

/-- Slots in a state (R163). -/
def State.countState (s : State) (t : SlotState) : Nat := allSlots.countP fun i => (s.slot i).state == t

/-! ### Lookups -/

/-- The profile of an id, from the configuration. -/
def State.profileOf (s : State) (p : Fin 8) : Profile := s.config.profiles.get p

/-- The profile of a slot; profile 0 stands in for a slot without one, which is FREE. -/
def State.slotProfile (s : State) (i : SlotId) : Profile := s.profileOf ((s.slot i).profile.getD 0)

/-- The provision entry of a serial, and of a home tag (R40). -/
def State.entryOf (s : State) (x : Serial) : Option ProvisionEntry := s.enrol.provision.find? (·.serial == x)
def State.entryOfTag (s : State) (t : Half) : Option ProvisionEntry := s.enrol.provision.find? (·.tag == t)

/-- Whether the quarantine list holds a serial (R177). -/
def State.quarantined (s : State) (x : Serial) : Bool := s.roster.quarantine.any (·.serial == x)

/-- Whether the roster holds an entry for a serial (R171). -/
def State.foreignClaim (s : State) (x : Serial) : Bool := s.roster.claims.any (·.serial == x)

/-- The part's own station number as a frame's byte. -/
def State.station (s : State) : Byte := s.link.station.zeroExtend 8

/-- The issued-plan record of the upstream round in reception: the oldest one, once its round begins to arrive, two
rounds after the downstream round that carried it (00_scope.md, Time units; R7). -/
def State.reception (s : State) : Option Issued :=
  match s.tree.issued with
  | [] => none
  | r :: _ => if s.tree.state = .lit && !later (r.plan.round + 2) s.now then some r else none

/-- The activity latch as a sample found it, at the end of a burst or of a span (R9, R10, log entry 51). -/
def State.sampleLatch (s : State) (light : Bool) : State := s.modTree fun t => { t with latch := light }

/-- The record in reception changed in place. -/
def State.modReception (s : State) (f : Issued → Issued) : State :=
  s.modTree fun t => match t.issued with
    | [] => t
    | r :: rs => { t with issued := f r :: rs }

/-- A list with its first element equal to `x` replaced. -/
def replaceFirst {α : Type} [DecidableEq α] (x y : α) : List α → List α
  | [] => []
  | z :: zs => if z = x then y :: zs else z :: replaceFirst x y zs

/-- The part's own answer: a next state. -/
abbrev Result := Host.Outcome State Fault Refusal

end Sys2Proof.Machine
end

