-- ==== Sys2Proof/Machine/Operands.lean ====
section
/-! DEFINITION. Machine/Operands.lean: reading what arrives from outside: the header and payload of a burst, an answer's
identity copies, a shelf link frame, and the configuration image (R8 to R10, R51, R152, R153, R184, R196, R197). -/

namespace Sys2Proof.Machine

/-! ### Upstream bursts (R8, R10, section 12.4) -/

/-- A burst header whose check passes. -/
structure BurstHeader where
  slot : Nat
  fill : Nat
  lastOrder : BitVec 8
deriving DecidableEq, Repr

/-- The header tick: its check covers bytes 0 to 11 (R195); a fill report above 1,048,575 is taken as 1,048,575
(R196). -/
def burstHeader (bs : List Byte) : Option BurstHeader :=
  if bs.length = 16 && fieldNat bs 12 4 == (check32 (field bs 0 12)).toNat then
    some {
      slot := fieldNat bs 0 1
      fill := min (fieldNat bs 1 3) 1048575
      lastOrder := BitVec.ofNat 8 (fieldNat bs 4 1) }
  else none

/-- The good packets of a burst's payload ticks, in order (R8). A packet whose check fails is dropped and decoding
goes on; a length of 0 ends the run; a bad length, or a packet past the burst's end, ends decoding. The fuel is the
number of bytes: every packet takes more than one. -/
def goodPackets : Nat → List Byte → List (List Byte)
  | 0, _ => []
  | fuel + 1, bs =>
    let len := fieldNat bs 0 2
    if bs.length < 2 || len < 64 || 2048 < len || bs.length < len + 6 then []
    else
      let rest := goodPackets fuel (bs.drop (len + 6))
      if fieldNat bs (len + 2) 4 == (check32 (field bs 0 (len + 2))).toNat then field bs 2 len :: rest else rest

/-- The packets of a burst with this many payload ticks of 16 bytes. -/
def burstPackets (ticks : Nat) (payload : List Byte) : List (List Byte) :=
  let bs := payload.take (16 * ticks)
  goodPackets bs.length bs

/-- The payload bytes B of a burst: the sum of its good packets' content lengths (R8). -/
def payloadBytes (packets : List (List Byte)) : Nat := (packets.map List.length).sum

/-! ### Answers (R9, section 12.4) -/

/-- What an identity copy says. -/
structure Identity where
  serial : Serial
  delay : Nat
deriving DecidableEq, Repr

/-- An identity tick whose check passes; the check covers bytes 0 to 11 (R195). Log entry 36: a delay field above 63 is taken
as it stands. -/
def identityCopy (bs : List Byte) : Option Identity :=
  if bs.length = 16 && fieldNat bs 12 4 == (check32 (field bs 0 12)).toNat then
    some { serial := BitVec.ofNat 64 (fieldNat bs 0 8), delay := fieldNat bs 8 1 }
  else none

/-- A valid answer: the preamble is found and at least one copy passes; two that pass must agree (R9). -/
def validAnswer (rx : AnswerRx) : Option Identity :=
  if rx.preamble then
    match identityCopy rx.copyA, identityCopy rx.copyB with
    | some a, some b => if a = b then some a else none
    | some a, none => some a
    | none, some b => some b
    | none, none => none
  else none

/-! ### Shelf link frames (R152, R153, R196, section 12.3) -/

/-- What an accepted frame says, for the kinds the part acts on. -/
inductive RxFrame where
  | time (source : Byte) (state : TimeState) (time : DTime)
  | claim (source : Byte) (serial : Serial) (time : DTime) (heard : Bool)
  | release (source : Byte) (serial : Serial)
  | bar (source : Byte) (serial : Serial) (reason : BarReason) (time : DTime)
  | unbar (source : Byte) (serial : Serial)
  | usageAck (ack : AckFrame)
  | command (dest : Byte) (command : RxCommand)
deriving DecidableEq, Repr

/-- The payload of an accepted frame by its kind (R153). A payload of the wrong length or with a coded value that has
no meaning is discarded (R196), but for COMMAND; ALERT, USAGE and REPLY are discarded. -/
def framePayload (dest source : Byte) (kind : Nat) (p : List Byte) : Option RxFrame :=
  let serial := BitVec.ofNat 64 (fieldNat p 0 8)
  match kind with
  | 1 => if p.length = 7 then
      (timeStateOf (fieldNat p 0 1)).map fun st => .time source st (BitVec.ofNat 48 (fieldNat p 1 6))
    else none
  | 2 => if p.length = 18 && fieldNat p 14 1 ≤ 1 then
      some (.claim source serial (BitVec.ofNat 48 (fieldNat p 8 6)) (fieldNat p 14 1 == 1))
    else none
  | 3 => if p.length = 8 then some (.release source serial) else none
  | 4 => if p.length = 20 then
      (quarantineReasonOf (fieldNat p 8 1)).map fun r => .bar source serial r (BitVec.ofNat 48 (fieldNat p 9 6))
    else none
  | 5 => if p.length = 8 then some (.unbar source serial) else none
  | 8 => if p.length = 6 then
      some (.usageAck {
        source := source, dest := dest
        runMark := BitVec.ofNat 16 (fieldNat p 0 2), seq := BitVec.ofNat 32 (fieldNat p 2 4) })
    else none
  | 9 => some (.command dest {
      source := source, tag := BitVec.ofNat 8 (fieldNat p 0 1), code := BitVec.ofNat 8 (fieldNat p 1 1)
      args := p.drop 2 })
  | _ => none

/-- A received frame under the tests of R152, for a part that is not itself sending it: start delimiter, check over
destination to payload, length, destination, source. -/
def receivedFrame (station : Byte) (bs : List Byte) : Option RxFrame :=
  let dest := BitVec.ofNat 8 (fieldNat bs 1 1)
  let source := BitVec.ofNat 8 (fieldNat bs 2 1)
  let n := fieldNat bs 4 1
  if bs.length < 7 + n || fieldNat bs 0 1 != 0xA5 then none
  else if fieldNat bs (5 + n) 2 != (check16 (field bs 1 (4 + n))).toNat then none
  else if 144 < n then none
  else if dest != station && dest != 255 then none
  else if source == station then none
  else framePayload dest source (fieldNat bs 3 1) (field bs 5 n)

/-! ### The configuration image (R183, R184, R197) -/

/-- A read attempt passes when the memory answered, the whole image came and the checksum of bytes 0 to 204 is the one
at 205 (R183, R197). -/
def imageRead (answer : Option (List Byte)) : Option (List Byte) :=
  match answer with
  | none => none
  | some bs =>
    if bs.length < Config.imageBytes then none
    else if fieldNat bs 205 2 != (check16 (field bs 0 205)).toNat then none
    else some (bs.take Config.imageBytes)

/-- A value brought to the nearest bound of a range (R184). -/
def clamp (lo hi v : Nat) : Nat := max lo (min hi v)

/-- The largest allowed billing interval not above `v`; below 5 it is 5 (R184). -/
def clampInterval (v : Nat) : Nat :=
  if 60 ≤ v then 60 else if 30 ≤ v then 30 else if 15 ≤ v then 15 else if 10 ≤ v then 10 else 5

/-- A value of at most `n`, as an index (R184: above the greatest becomes the greatest). -/
def clampFin (n : Nat) (v : Nat) : Fin (n + 1) := ⟨min v n, Nat.lt_succ_of_le (Nat.min_le_right v n)⟩

/-- Profile `p` of the image, at 15 + 8p (R184, R197). -/
def imageProfile (bs : List Byte) (p : Nat) : Profile :=
  let k := 15 + 8 * p
  let a := min (fieldNat bs k 2) 256
  { assured := a
    ceiling := clamp a 1024 (fieldNat bs (k + 2) 2)
    tariff := clampFin 3 (fieldNat bs (k + 4) 1)
    queueLimit := clamp 16 1024 (fieldNat bs (k + 5) 2)
    weight := clamp 1 8 (fieldNat bs (k + 7) 1) }

/-- The prices of class c and band b, at 79 + 24c + 6b (R197); `j` is 4c + b. -/
def imagePrices (bs : List Byte) (j : Nat) : Prices :=
  let k := 79 + 6 * j
  { assured := fieldNat bs k 2, surplus := fieldNat bs (k + 2) 2, down := fieldNat bs (k + 4) 2 }

/-- Switch point `j` of the image (R184, R197). -/
def imageSwitchPoint (bs : List Byte) (j : Nat) : SwitchPoint :=
  { minute := min (fieldNat bs (176 + 3 * j) 2) 1439, band := clampFin 3 (fieldNat bs (178 + 3 * j) 1) }

/-- The tracking band brought into 1 to T - 1, or 0 when T is 1 (R184). -/
def clampTracking (t d : Nat) : Nat := if t = 1 then 0 else clamp 1 (t - 1) d

/-- The image brought into range, each item in the order of R184's table. -/
def imageConfig (bs : List Byte) : Configuration :=
  let t := clamp 1 4095 (fieldNat bs 7 2)
  let low := min (fieldNat bs 11 2) 8190
  { controller := min (fieldNat bs 0 1) 31
    collector := min (fieldNat bs 1 1) 31
    budget := min (fieldNat bs 2 2) 1900
    poll := clamp 1 64 (fieldNat bs 4 1)
    rollPeriod := clamp 64 4096 (fieldNat bs 5 2)
    threshold := t
    tracking := clampTracking t (fieldNat bs 9 2)
    poolLow := low
    poolHigh := clamp (low + 1) 8191 (fieldNat bs 13 2)
    profiles := Vector.ofFn fun p : Fin 8 => imageProfile bs p.val
    prices := Vector.ofFn fun j : Fin 16 => imagePrices bs j.val
    switchPoints := (List.range (min (fieldNat bs 175 1) 8)).map (imageSwitchPoint bs)
    fallback := clampFin 3 (fieldNat bs 200 1)
    interval := clampInterval (fieldNat bs 201 1)
    pacing := max 1 (fieldNat bs 202 1)
    alertMask := BitVec.ofNat 16 (fieldNat bs 203 2) }

/-- An image that passed, clamped, with its start count at 207 (R185, R197). -/
def imageOf (bs : List Byte) : Image :=
  { config := imageConfig bs, startCount := BitVec.ofNat 16 (fieldNat bs Config.startCountAddress 2) }

/-- What the write-back of a start count writes to the configuration memory, address by address: the two bytes of the count
at 207 and 208, most significant first, and no others (R185, R195, R197). -/
def startCountWrites (count : Half) : List Host.Cell :=
  (be16 count).zipIdx.map fun b => (Config.startCountAddress + b.2, b.1)

end Sys2Proof.Machine
end

