-- ==== Sys2Proof/Machine/Flags.lean ====
section
/-! DEFINITION. Machine/Flags.lean: the event flags, the transmit queue, alerts and replies: everything by which a block
hands the shelf link controller something to say (R154, R157 to R162, R164). -/

namespace Sys2Proof.Machine

/-! ### Event flags (R164) -/

/-- The bit of SEND_ABANDONED (section 12.2). -/
def sendAbandonedBit : Nat := 13

/-- A flag set; a set flag stays set (R164). -/
def Link.setFlag (l : Link) (bit : Nat) : Link := { l with flags := l.flags ||| BitVec.ofNat 14 (2 ^ bit) }

/-! ### The transmit queue (R154) -/

def Message.isUsage : Message → Bool
  | .usage _ => true
  | _ => false

def Message.isTime : Message → Bool
  | .time _ => true
  | _ => false

/-- An offer to the transmit queue: refused when 16 frames are held, or for a USAGE while one is held (R154). An
accepted frame takes an attempt count of 0 and the next age. -/
def Link.offer (l : Link) (m : Message) : Link × Bool :=
  if Config.queueFrames ≤ l.queue.length || (m.isUsage && l.queue.any (·.message.isUsage)) then (l, false)
  else ({ l with queue := l.queue ++ [{ message := m, attempts := 0, age := l.nextAge }], nextAge := l.nextAge + 1 }, true)

/-- The head of the queue: urgent before normal before bulk, oldest first within a class (R154). -/
def Link.head (l : Link) : Option TxEntry :=
  (l.queue.find? (·.message.txClass == 0)).or
    ((l.queue.find? (·.message.txClass == 1)).or (l.queue.find? (·.message.txClass == 2)))

/-- An ALERT frame placed in the backlog; when it holds 16, the oldest is removed first (R159). -/
def Link.backlogAlert (l : Link) (m : Message) : Link :=
  { l with backAlerts :=
      (if Config.queueFrames ≤ l.backAlerts.length then l.backAlerts.drop 1 else l.backAlerts) ++ [m] }

/-- A composed ALERT frame offered to the queue, or placed in the backlog (R158, R159). -/
def Link.sendAlert (l : Link) (m : Message) : Link :=
  match l.offer m with
  | (l', true) => l'
  | (_, false) => l.backlogAlert m

/-- A composed REPLY offered to the queue, or placed in the backlog; its command is in flight until it enters the
queue (R159, R161, R162). -/
def Link.sendReply (l : Link) (m : Message) : Link :=
  match l.offer m with
  | (l', true) => { l' with inFlight := l'.inFlight - 1 }
  | (_, false) => { l with backReplies := l.backReplies ++ [m] }

/-- Backlog ALERT frames offered oldest first until one is refused (R159). -/
def Link.drainAlerts : List Message → Link → Link
  | [], l => { l with backAlerts := [] }
  | m :: ms, l =>
    match l.offer m with
    | (l', true) => Link.drainAlerts ms l'
    | (_, false) => { l with backAlerts := m :: ms }

/-- Backlog REPLY frames offered oldest first until one is refused (R159). -/
def Link.drainReplies : List Message → Link → Link
  | [], l => { l with backReplies := [] }
  | m :: ms, l =>
    match l.offer m with
    | (l', true) => Link.drainReplies ms { l' with inFlight := l'.inFlight - 1 }
    | (_, false) => { l with backReplies := m :: ms }

/-- The backlog offered when a frame leaves the transmit queue: ALERT frames first, then REPLY frames (R159). -/
def Link.drainBacklog (l : Link) : Link :=
  let l' := Link.drainAlerts l.backAlerts l
  if l'.backAlerts.isEmpty then Link.drainReplies l'.backReplies l' else l'

/-! ### Alerts (R158) -/

/-- Whether a kind is enabled: by the alert mask of the configuration, and always while no configuration is in force
(R158, R183). -/
def State.alertEnabled (s : State) (k : AlertKind) : Bool :=
  s.clock.phase != .running || s.config.alertMask.getLsbD k.code

/-- An alert raised: its event flag is set whatever the mask says; if its kind is enabled, an ALERT frame with the
district time and time state of the raising is composed (R158, R164). -/
def State.raise (s : State) (k : AlertKind) (details : List Byte) : State :=
  let enabled := s.alertEnabled k
  let m := Message.alert k s.clock.state s.clock.time details
  s.modLink fun l => if enabled then (l.setFlag k.code).sendAlert m else l.setFlag k.code

/-! ### Replies (R160, R162) -/

/-- A reply sent to a command's source without touching the last command record (R161). It bears the code of the command
(section 9.4), also one that is no command's (log entry 50). -/
def State.answerPlain (s : State) (c : RxCommand) (rc : ReplyCode) (results : List Byte) : State :=
  s.modLink fun l => l.sendReply (.reply c.source c.tag c.code rc results)

/-- Whether the last command record names a command (R160). -/
def LastCommand.names (r : LastCommand) (c : RxCommand) : Bool := r.tag == c.tag && r.code == c.code && r.args == c.args

/-- A reply stored in the last command record when that record still names the command (R162). A record of a later command
of equal tag, code and arguments names the earlier one too, and takes its reply (log entry 48). -/
def LastCommand.store (c : RxCommand) (rc : ReplyCode) (results : List Byte) (r : LastCommand) : LastCommand :=
  if r.names c then { r with reply := some (rc, results) } else r

/-- A command's reply stored in the last command record and sent (R162). -/
def State.answer (s : State) (c : RxCommand) (rc : ReplyCode) (results : List Byte) : State :=
  (s.modLink fun l => { l with lastCommand := l.lastCommand.map (.store c rc results) }).answerPlain c rc results

/-- A reply code with no results. -/
def State.answerCode (s : State) (c : RxCommand) (rc : ReplyCode) : State := s.answer c rc []

/-- The first dispatched command of a code, taken from those in transit to its owner (R162). -/
def State.takeCommand (s : State) (code : Byte) : Option (RxCommand × State) :=
  (s.link.dispatched.find? (·.code == code)).map fun c =>
    (c, s.modLink fun l => { l with dispatched := l.dispatched.eraseP (·.code == code) })

end Sys2Proof.Machine
end

