-- ==== Sys2Proof/Machine/Orders.lean ====
section
/-! DEFINITION. Machine/Orders.lean: the order queue of section 1.7: offers, binding, the selection of the four order
slots, verdicts and removals, and what each requester does with an order's outcome (R4, R5, R14 to R19, R47, R60, R116,
R32). -/

namespace Sys2Proof.Machine

/-! ### Offers (R4, R5, R14) -/

/-- What the tree port answers to an offer: taken with its sequence, refused by a full lane, or reported completed or
abandoned at once (R4, R5). -/
inductive Offered where
  | accepted (seq : BitVec 8)
  | refused
  | completed
  | abandoned
deriving DecidableEq, Repr

/-- ROLL, ASSIGN and ECHO need a span, and no span is granted while the tree port is not LIT (R4). -/
def OrderBody.needsSpan : OrderBody → Bool
  | .roll | .assign _ _ | .echo => true
  | .holdoff _ | .hush | .wake _ | .sever _ | .release => false

def OrderBody.isHoldoff : OrderBody → Bool
  | .holdoff _ => true
  | _ => false

def OrderBody.isEcho : OrderBody → Bool
  | .echo => true
  | _ => false

def OrderBody.isSever : OrderBody → Bool
  | .sever _ => true
  | _ => false

/-- Whether an entry is for a slot, of any generation. -/
def OrderEntry.isFor (e : OrderEntry) (i : SlotId) : Bool := (e.target.map (·.1)) == some i

/-- Whether a lane refuses an offer: it is full, or it is the normal lane and holds an entry for the slot (R14). -/
def TreePort.refuses (t : TreePort) (lane : Lane) (target : Option (SlotId × Gen)) : Bool :=
  match lane with
  | .urgent => Config.urgentLane ≤ t.urgent.length
  | .normal => Config.normalLane ≤ t.normal.length ||
      t.normal.any fun e => target.isSome && (e.target.map (·.1)) == target.map (·.1)

/-- An accepted entry takes the next value of the order sequence counter and joins the end of its lane (R14). -/
def TreePort.accept (t : TreePort) (lane : Lane) (body : OrderBody) (target : Option (SlotId × Gen)) : TreePort :=
  let seq := t.orderSeq + 1
  let e : OrderEntry :=
    { body := body, target := target, seq := seq, tries := 0, lastSent := none, bound := none, waiting := false }
  match lane with
  | .urgent => { t with orderSeq := seq, urgent := t.urgent ++ [e] }
  | .normal => { t with orderSeq := seq, normal := t.normal ++ [e] }

/-- An offer to a lane (R14), with the reports R4 and R5 make at once while the tree port is not LIT. -/
def TreePort.offer (t : TreePort) (lane : Lane) (body : OrderBody) (target : Option (SlotId × Gen)) :
    TreePort × Offered :=
  if body.needsSpan && t.state != .lit then (t, .abandoned)
  else if t.state = .off ∨ t.state = .starting ∨ t.state = .calibrating then
    (t, if body.isHoldoff then .abandoned else .completed)
  else if t.refuses lane target then (t, .refused)
  else (t.accept lane body target, .accepted (t.orderSeq + 1))

/-- An offer made through the whole state. -/
def State.offerOrder (s : State) (lane : Lane) (body : OrderBody) (target : Option (SlotId × Gen)) : State × Offered :=
  let r := s.tree.offer lane body target
  (s.modTree fun _ => r.1, r.2)

/-! ### Outcomes, requester by requester -/

/-- How an order ends (R15 to R19, R31). -/
inductive OrderOutcome where
  | completed | failed | abandoned | dropped
deriving DecidableEq, Repr

/-- The planner's roll-call request withdrawn, and the engine back to IDLE: a ROLL reported abandoned (R47). -/
def State.rollAbandoned (s : State) : State :=
  (s.modRoll fun r => { r with phase := .idle, cause := none, offerDue := false, openRound := none }).modSched
    fun d => { d with rollReq := false }

/-- What R60 does with a HOLDOFF's outcome; the engine disregards a report for which no value is in flight (R62).
On any outcome but completion a newer waiting value goes too (log entry 31). -/
def EchoRecord.holdoffOutcome (r : EchoRecord) (value : Half) : OrderOutcome → EchoRecord
  | .completed => { r with homeHoldoff := some value, holdoffInFlight := none }
  | .failed | .abandoned | .dropped => { r with holdoffInFlight := none, holdoffWaiting := none }

/-- The HOLDOFF's outcome at the enrolment engine; a failure requests a re-echo (R60, R61). -/
def State.holdoffOutcome (s : State) (i : SlotId) (value : Half) (o : OrderOutcome) : State :=
  if (s.echo i).holdoffInFlight = some value then
    let s := s.modEcho i (·.holdoffOutcome value o)
    match o with
    | .failed => s.modEnrol fun e => { e with reechoes := e.reechoes ++ [i] }
    | .completed | .abandoned | .dropped => s
  else s

/-- Once every order of a locate stage is reported, 4 round starts are let pass (R110 step 3). -/
def Watch.settleCheck (w : Watch) : Watch :=
  match w.locate with
  | none => w
  | some l =>
    if l.stage ≠ .waitWakes ∧ w.orders = [] ∧ l.settle = none then { w with locate := some { l with settle := some 4 } }
    else w

/-- A slot taken out of the candidate set, of L, and of the orders waited for (R113). -/
def Watch.dropMember (w : Watch) (i : SlotId) : Watch :=
  match w.locate with
  | none => w
  | some l =>
    let out : List (SlotId × Gen) → List (SlotId × Gen) := fun m => m.filter fun c => c.1 != i
    let stage := match l.stage with
      | .step m => .step (out m)
      | st => st
    ({ w with
      locate := some { l with cands := out l.cands, stage := stage }
      orders := w.orders.filter (·.slot != i) }).settleCheck

/-- Whether a slot is a member of the candidate set. -/
def Watch.isMember (w : Watch) (i : SlotId) : Bool :=
  match w.locate with
  | none => false
  | some l => l.cands.any (·.1 == i)

/-- A member removed from the search; its hushed flag is cleared and no WAKE is offered (R113). -/
def State.dropMember (s : State) (i : SlotId) : State :=
  if s.watch.isMember i then (s.modSlot i fun r => { r with hushed := false }).modWatch (·.dropMember i) else s

/-- A report on a HUSH or WAKE of the watch (R116), found among the orders it waits for by slot and sequence. A report
on an order it no longer waits for is disregarded. So is one on an order abandoned, as R116 has it, and the hushed flag
waits for R118 to clear it and set wake-due; that this holds too when the tree port takes TREE_RESTART before the watch,
where R115 would clear the flag at the report, is the model's choice, log entry 56. -/
def State.watchReport (s : State) (i : SlotId) (seq : BitVec 8) (o : OrderOutcome) : State :=
  match s.watch.orders.find? (fun w => w.slot == i && w.seq == some seq) with
  | none => s
  | some w =>
    let done : State → State := fun s => s.modWatch fun v => ({ v with orders := v.orders.erase w }).settleCheck
    match o, w.hush with
    | .completed, true => done s
    | .dropped, true => done (s.dropMember i)
    | .completed, false | .dropped, false => done (s.modSlot i fun r => { r with hushed := false })
    | .abandoned, _ | .failed, _ => s

/-- A report on a WAKE for a wake-due flag: abandoned keeps the flag, anything else clears it (R116). -/
def State.wakeDueReport (s : State) (i : SlotId) (o : OrderOutcome) : State :=
  match o with
  | .abandoned => s
  | .completed | .failed | .dropped => s.modSlot i fun r => { r with wakeDue := false }

/-- The tree port tells the requester of an entry how it ended. ASSIGN and ECHO end by the engine's own verdict (R18,
R58, R59) or disregarded (R62); nothing waits for a SEVER. -/
def State.report (s : State) (e : OrderEntry) (o : OrderOutcome) : State :=
  match e.body, e.target with
  | .roll, _ => if o = .abandoned then s.rollAbandoned else s
  | .holdoff v, some (i, _) => s.holdoffOutcome i v o
  | .hush, some (i, _) => s.watchReport i e.seq o
  | .wake .watch, some (i, _) => s.watchReport i e.seq o
  | .wake .wakeDue, some (i, _) => s.wakeDueReport i o
  | .release, some (i, _) => s.modSlot i fun r => { r with releasePending := false }
  | .assign _ _, _ | .echo, _ | .sever _, _ => s
  | .holdoff _, none | .hush, none | .wake _, none | .release, none => s

/-! ### Removals (R4, R5, R31) -/

/-- Every entry that meets `p` leaves both lanes; the entries removed are given, urgent first. -/
def TreePort.removeWhere (t : TreePort) (p : OrderEntry → Bool) : TreePort × List OrderEntry :=
  ({ t with urgent := t.urgent.filter (!p ·), normal := t.normal.filter (!p ·) },
    t.urgent.filter p ++ t.normal.filter p)

/-- Entries removed and each requester told that its order was abandoned. -/
def State.abandonWhere (s : State) (p : OrderEntry → Bool) : State :=
  let r := s.tree.removeWhere p
  r.2.foldl (fun s e => s.report e .abandoned) (s.modTree fun _ => r.1)

/-- Entries removed whose abandonment the enrolment engine disregards (R31, R62). -/
def State.removeQuietly (s : State) (p : OrderEntry → Bool) : State := s.modTree fun t => (t.removeWhere p).1

/-- ASSIGN, ECHO and HOLDOFF: removed when the slot enters LOST, BARRED, CLOSING or FREE (R31). -/
def OrderBody.isEnrolment : OrderBody → Bool
  | .assign _ _ | .echo | .holdoff _ => true
  | .roll | .hush | .wake _ | .sever _ | .release => false

/-- What leaves the lanes on entry to DARK: ROLL, ASSIGN, ECHO, HOLDOFF and HUSH (R4). -/
def OrderBody.leavesInDark : OrderBody → Bool
  | .roll | .assign _ _ | .echo | .holdoff _ | .hush => true
  | .wake _ | .sever _ | .release => false

/-! ### Binding (R15) -/

/-- An entry that can be bound: its kind needs a span, it is unbound and it is not waiting for a verdict. -/
def OrderEntry.bindable (e : OrderEntry) : Bool := e.body.needsSpan && e.bound.isNone && !e.waiting

/-- The first bindable entry that meets `p` bound to a round and span position; false when none is waiting (R15). -/
def TreePort.bind (t : TreePort) (p : OrderEntry → Bool) (n : Round) (position : Nat) : TreePort × Bool :=
  match t.urgent.find? fun e => p e && e.bindable with
  | none => (t, false)
  | some e => ({ t with urgent := replaceFirst e { e with bound := some { round := n, position := position } } t.urgent }, true)

/-- A bound entry that was not sent loses its binding (R15). -/
def TreePort.unbindWhere (t : TreePort) (p : OrderEntry → Bool) : TreePort :=
  { t with urgent := t.urgent.map fun e => if p e && !e.waiting then { e with bound := none } else e }

def OrderBody.isRoll : OrderBody → Bool
  | .roll => true
  | _ => false

/-! ### Order slot selection (R16, R17) -/

/-- Whether an entry is bound to round `n`. -/
def OrderEntry.boundTo (e : OrderEntry) (n : Round) : Bool := (e.bound.map (·.round)) == some n

/-- Candidates that need no binding: not waiting for an answer. -/
def OrderEntry.free (e : OrderEntry) : Bool := !e.body.needsSpan && !e.waiting

/-- The candidates for round `n` in the sequence of R16. A repeat falls due one round after the last send (R17). Log
entry 35: several entries bound to one round go in the order of their acceptance. -/
def TreePort.candidates (t : TreePort) (n : Round) : List OrderEntry :=
  let again := fun e : OrderEntry => e.free && 0 < e.tries && e.lastSent != some n
  let fresh := fun e : OrderEntry => e.free && e.tries == 0
  t.urgent.filter (fun e => e.boundTo n && !e.waiting) ++ t.urgent.filter again ++ t.urgent.filter fresh
    ++ t.normal.filter again ++ t.normal.filter fresh

/-- The order slot of an entry (section 12.4); the target of a ROLL is 255. -/
def OrderEntry.slotOf (e : OrderEntry) : OrderSlot :=
  { kind := e.body.code
    seq := e.seq
    target := ((e.target.map fun t => t.1.val)).getD 255
    args := e.body.args ((e.bound.map (·.position)).getD 0) }

/-- An entry taken out of both lanes. -/
def TreePort.erase (t : TreePort) (e : OrderEntry) : TreePort :=
  { t with urgent := t.urgent.erase e, normal := t.normal.erase e }

/-- An entry changed in place in whichever lane holds it. -/
def TreePort.replace (t : TreePort) (e e' : OrderEntry) : TreePort :=
  { t with urgent := replaceFirst e e' t.urgent, normal := replaceFirst e e' t.normal }

/-- A ROLL was sent: it completes, the engine is OPEN with this round and the counter starts again; the planner's roll
call is marked sent (R17, R46, R47, R67). -/
def State.rollSent (s : State) (n : Round) : State :=
  let period := s.config.rollPeriod
  (s.modRoll fun r =>
      { r with phase := .opened, openRound := some n, counter := period, light := false, answered := false }).modSched
    fun d => { d with rollProgress := d.rollProgress.map fun p => { p with sent := true } }

/-- An entry placed in an order slot of round `n`: its tries rise and its round last sent is `n` (R16). A ROLL is
removed at once, HUSH, WAKE, SEVER and RELEASE at the third send, and ASSIGN, ECHO and HOLDOFF wait (R17 to R19). -/
def State.sendOrder (s : State) (n : Round) (e : OrderEntry) : State :=
  let e' := { e with tries := e.tries + 1, lastSent := some n }
  match e.body with
  | .roll => (s.modTree (·.erase e)).rollSent n
  | .assign _ _ | .echo =>
    let s := s.modTree (·.replace e { e' with waiting := true })
    match e.target with
    | none => s
    | some (i, _) => s.modEcho i fun r => if r.purpose.isSome then { r with phase := some .sent } else r
  | .holdoff _ => s.modTree (·.replace e { e' with waiting := true })
  | .hush | .wake _ | .sever _ | .release =>
    if 3 ≤ e'.tries then (s.modTree (·.erase e)).report e .completed else s.modTree (·.replace e e')

/-- Whether an entry's generation matches its slot's present one; a broadcast always does (R16). -/
def State.genMatches (s : State) (e : OrderEntry) : Bool :=
  match e.target with
  | none => true
  | some (i, g) => (s.slot i).gen == g

/-- The order slots filled from the candidates, up to `room` of them. A targeted entry whose generation no longer
matches is removed unsent, its requester told that it was dropped, and the next candidate takes its place (R16). -/
def State.fillSlots (n : Round) : List OrderEntry → Nat → State → State × List OrderSlot
  | [], _, s => (s, [])
  | _ :: _, 0, s => (s, [])
  | e :: es, room + 1, s =>
    if s.genMatches e then
      let r := State.fillSlots n es room (s.sendOrder n e)
      (r.1, e.slotOf :: r.2)
    else State.fillSlots n es (room + 1) ((s.modTree (·.erase e)).report e .dropped)

/-- The order slot selection of round `n` (R16): four slots, unused ones marked empty (R6). -/
def State.selectOrders (s : State) (n : Round) : State × List OrderSlot :=
  let r := State.fillSlots n (s.tree.candidates n) 4 s
  (r.1, r.2 ++ List.replicate (4 - r.2.length) OrderSlot.empty)

/-! ### Verdicts on ASSIGN and ECHO (R18) -/

/-- The ASSIGN or ECHO entry of a slot that was sent in round `n` and waits for its verdict. -/
def TreePort.awaiting (t : TreePort) (i : SlotId) (g : Gen) (n : Round) : Option OrderEntry :=
  t.urgent.find? fun e => e.waiting && e.target == some (i, g) && e.lastSent == some n

/-- The engine's verdict: answered removes the entry; missed below three tries unbinds it for another span, and at the
third removes it (R18). -/
def TreePort.verdict (t : TreePort) (e : OrderEntry) (answered : Bool) : TreePort :=
  if answered || 3 ≤ e.tries then t.erase e
  else t.replace e { e with waiting := false, bound := none }

/-! ### HOLDOFF (R19) -/

/-- Whether upstream round `n` is one of rounds `m` to `m + 7`. -/
def withinEight (m n : Round) : Bool := since n m < 8

/-- The HOLDOFF of a slot and generation that a HEARD burst of upstream round `n` with this last-order sequence
completes (R19). -/
def TreePort.holdoffMatch (t : TreePort) (i : SlotId) (g : Gen) (n : Round) (seq : BitVec 8) : Option OrderEntry :=
  t.normal.find? fun e => e.body.isHoldoff && e.waiting && e.target == some (i, g) && e.seq == seq
    && (e.lastSent.map (withinEight · n)).getD false

/-- A HOLDOFF completed by its sequence coming back (R19, R60). -/
def State.holdoffSequence (s : State) (i : SlotId) (g : Gen) (n : Round) (seq : BitVec 8) : State :=
  match s.tree.holdoffMatch i g n seq with
  | none => s
  | some e => (s.modTree (·.erase e)).report e .completed

/-- Whether the reception of upstream round `m` has ended. -/
def TreePort.receptionEnded (t : TreePort) (m : Round) : Bool :=
  match t.received with
  | [] => false
  | l :: _ => !later m l

/-- The HOLDOFF of a slot whose eight upstream rounds have all been received (R19). -/
def TreePort.holdoffLate (t : TreePort) (i : SlotId) : Option OrderEntry :=
  t.normal.find? fun e => e.body.isHoldoff && e.waiting && e.isFor i
    && (e.lastSent.map fun m => t.receptionEnded (m + 7)).getD false

/-- HOLDOFF_TIMEOUT (R19): a HOLDOFF whose rounds n to n+7 brought no matching sequence is due again, or at its third
failure is removed and reported failed. -/
def execHoldoffTimeout (i : SlotId) (s : State) : Result :=
  match s.tree.holdoffLate i with
  | none => .next s
  | some e =>
    if 3 ≤ e.tries then .next ((s.modTree (·.erase e)).report e .failed)
    else .next (s.modTree (·.replace e { e with waiting := false }))

end Sys2Proof.Machine
end

