-- ==== Sys2Proof/Machine/Rating.lean ====
section
/-! DEFINITION. Machine/Rating.lean: the operations of the metering and rating engine that several commands share: meter
update offers, tally checks, credits and folds, opening a context, rating, composing and appending a record (R119 to
R123, R125 to R128, R134, R135, R140, R141). -/

namespace Sys2Proof.Machine

/-! ### Byte counts that saturate (R120, R121) -/

/-- A 40-bit count raised, saturating; the second part tells whether it saturated. -/
def satAdd (a b : Nat) : Nat × Bool := (min (a + b) Config.countMax, Config.countMax < a + b)

/-- Four counts raised by four amounts, each saturating, and whether any did. -/
def ByteCounts.add (a b : ByteCounts) : ByteCounts × Bool :=
  let ua := satAdd a.upAssured b.upAssured
  let us := satAdd a.upSurplus b.upSurplus
  let dn := satAdd a.down b.down
  let dr := satAdd a.dropped b.dropped
  ({ upAssured := ua.1, upSurplus := us.1, down := dn.1, dropped := dr.1 }, ua.2 || us.2 || dn.2 || dr.2)

/-- The counts an update credits (tables of R120 and R121). -/
def updateCounts (kind : MeterKind) (bytes assured : Nat) : ByteCounts :=
  match kind with
  | .up => { ByteCounts.zero with upAssured := assured, upSurplus := bytes - assured }
  | .down => { ByteCounts.zero with down := bytes }
  | .drop => { ByteCounts.zero with dropped := bytes }

/-- Marks with the saturated mark set when something saturated. -/
def Marks.saturate (m : Marks) (sat : Bool) : Marks := { m with saturated := m.saturated || sat }

/-! ### The meter update queue (R119, R120) -/

/-- An update offered to the queue (R120): appended with the current band while fewer than 64 entries are held, else
its bytes go to the slot's overflow accumulator. -/
def State.offerUpdate (s : State) (i : SlotId) (g : Gen) (kind : MeterKind) (bytes assured : Nat) : State :=
  if s.meter.queue.length < Config.meterEntries then
    s.modMeter fun m =>
      { m with
        queue := m.queue ++ [{ slot := i, gen := g, kind := kind, bytes := bytes, assured := assured, band := m.band }]
        taken := m.taken + 1 }
  else
    let r := (s.spill i).add (updateCounts kind bytes assured)
    (s.setOver i r.1).modMarks i fun m => { m with late := true }.saturate r.2

/-! ### Bands (R125) -/

/-- The later-given of two switch points when its minute is not below the other's. -/
def laterPoint (best : Option SwitchPoint) (p : SwitchPoint) : Option SwitchPoint :=
  match best with
  | none => some p
  | some b => if b.minute ≤ p.minute then some p else some b

/-- The switch point with the greatest minute of a list, the last given of equals. -/
def greatestPoint (ps : List SwitchPoint) : Option SwitchPoint := ps.foldl laterPoint none

/-- The band a configuration gives at a time state and district time (R125). -/
def bandAt (c : Configuration) (st : TimeState) (t : DTime) : Band :=
  if st = .unset then c.fallback
  else
    match greatestPoint (c.switchPoints.filter (·.minute ≤ minuteOf t)), greatestPoint c.switchPoints with
    | some p, _ => p.band
    | none, some p => p.band
    | none, none => c.fallback

/-- The current band evaluated again; until the hand-over, and in CONFIG FAULT, it stays 0 (R125). -/
def State.reevaluateBand (s : State) : State :=
  if s.clock.phase = .running then
    let b := bandAt s.config s.clock.state s.clock.time
    s.modMeter fun m => { m with band := b }
  else s

/-- The least multiple of the billing interval above a district time (R128). It does not wrap: a boundary at or above 2^48 is
kept as it is (log entry 40). -/
def boundaryAfter (c : Configuration) (t : DTime) : Nat :=
  let step := 60000 * c.interval
  (t.toNat / step + 1) * step

/-! ### Tallies (R122, R123) -/

/-- Tally `b` of slot `i`. -/
def State.tally (s : State) (i : SlotId) (b : Band) : Tally := (s.ctx i).tallies.get b

/-- Tally `b` of slot `i` changed. -/
def State.modTally (s : State) (i : SlotId) (b : Band) (f : Tally → Tally) : State :=
  s.modCtx i fun c => { c with tallies := putAt c.tallies b (f (c.tallies.get b)) }

/-- A tally read (R123): a single error is corrected and marks the slot repaired; a double error resets the counts and
carries, sets the damaged mark and raises TALLY_DAMAGED. -/
def State.checkTally (s : State) (i : SlotId) (b : Band) : State :=
  match (s.tally i b).upset with
  | none => s
  | some .single => (s.modTally i b fun t => { t with upset := none }).modMarks i fun m => { m with repaired := true }
  | some .double =>
    (s.modTally i b fun t => { t with counts := .zero, carries := .zero, damaged := true, upset := none }).raise
      .tallyDamaged (be 1 i.val ++ [(s.slot i).gen] ++ be 1 b.val)

/-- The four bands in ascending order. -/
def allBands : List Band := [0, 1, 2, 3]

/-- Every tally of a slot read in ascending band order. -/
def State.checkTallies (s : State) (i : SlotId) : State := allBands.foldl (fun s b => s.checkTally i b) s

/-- Counts credited to a tally, read first (R121, R123). -/
def State.credit (s : State) (i : SlotId) (b : Band) (c : ByteCounts) : State :=
  let s := s.checkTally i b
  let r := (s.tally i b).counts.add c
  (s.modTally i b fun t => { t with counts := r.1 }).modMarks i (·.saturate r.2)

/-- The overflow accumulator, if it is not zero, folded into the tally of the current band (R121). -/
def State.fold (s : State) (i : SlotId) : State :=
  if s.spill i = .zero then s else (s.credit i s.meter.band (s.spill i)).setOver i .zero

/-- A context opened (R122): zero tallies, the period starting at the slot's claim time, and the provisional mark when
time is not SET (R135). -/
def State.openContext (s : State) (i : SlotId) : State :=
  let start := ((s.slot i).claimTime).getD 0
  let loose := s.clock.state != .set
  s.modCtx i fun c =>
    { c with
      state := .opened, tallies := Vector.replicate 4 Tally.zero, periodStart := start
      marks := { c.marks with provisional := c.marks.provisional || loose } }

/-- A context opened if it is in NONE. -/
def State.ensureOpen (s : State) (i : SlotId) : State :=
  if (s.ctx i).state = .none then s.openContext i else s

/-! ### Rating (R126, R127) -/

/-- Units and new carry of one priced kind: X = b p + c, divided by 1,048,576 (R126). -/
def rateKind (bytes price carry : Nat) : Nat × Nat :=
  let x := bytes * price + carry
  (x / Config.mib, x % Config.mib)

/-- What rating a tally gives: its line units, its carries, and whether the units were clamped. -/
structure Rated where
  units : Nat
  carries : Carries
  clamped : Bool
deriving DecidableEq, Repr

/-- The number of nonzero carries: the units a final close adds (R127). -/
def Carries.nonzero (c : Carries) : Nat := (decide (0 < c.assured)).toNat + (decide (0 < c.surplus)).toNat + (decide (0 < c.down)).toNat

/-- A tally rated at its prices (R126); a final close adds one unit for each nonzero carry and clears them (R127). Line
units above 4,294,967,295 are clamped (log entry 13). -/
def rateTally (p : Prices) (final : Bool) (t : Tally) : Rated :=
  let a := rateKind t.counts.upAssured p.assured t.carries.assured
  let u := rateKind t.counts.upSurplus p.surplus t.carries.surplus
  let d := rateKind t.counts.down p.down t.carries.down
  let carries : Carries := { assured := a.2, surplus := u.2, down := d.2 }
  let units := a.1 + u.1 + d.1 + if final then carries.nonzero else 0
  { units := min units Config.unitsMax
    carries := if final then .zero else carries
    clamped := Config.unitsMax < units }

/-- The prices of a slot's tariff class in a band (section 7.4). -/
def State.pricesOf (s : State) (i : SlotId) (b : Band) : Prices :=
  let c := ((s.slot i).tariff.map (·.val)).getD 0
  (s.config.prices.toList[4 * c + b.val]?).getD { assured := 0, surplus := 0, down := 0 }

/-- Whether a close takes a round-up unit in a tally (R127). -/
def roundsUp (p : Prices) (final : Bool) (t : Tally) : Bool :=
  final && decide (0 < (rateKind t.counts.upAssured p.assured t.carries.assured).2
    + (rateKind t.counts.upSurplus p.surplus t.carries.surplus).2 + (rateKind t.counts.down p.down t.carries.down).2)

/-- Whether a band has a line: a nonzero count, the damaged mark, or a round-up unit (R134). -/
def hasLine (p : Prices) (final : Bool) (t : Tally) : Bool := t.counts != .zero || t.damaged || roundsUp p final t

/-- The bands that have a line in a close of slot `i` (R134). -/
def State.lineBands (s : State) (i : SlotId) (final : Bool) : List Band :=
  allBands.filter fun b => hasLine (s.pricesOf i b) final (s.tally i b)

/-- The line of a band (R134). -/
def State.lineOf (s : State) (i : SlotId) (final : Bool) (b : Band) : UsageLine :=
  let t := s.tally i b
  { band := b, damaged := t.damaged, counts := t.counts, units := (rateTally (s.pricesOf i b) final t).units }

/-! ### Records (R134, R135, R140, R141) -/

/-- Whether a close reason is final (R127). -/
def CloseReason.isFinal : CloseReason → Bool
  | .interval | .profile => false
  | .deroll | .lost | .moved | .barred | .unbarred | .restart => true

/-- The record's flags from the pending marks and the state at composition (R135, section 12.5). -/
def recordFlags (m : Marks) (loose short damaged : Bool) : Half :=
  BitVec.ofNat 16 (bitsOf [m.provisional || loose, m.stepped, m.late, m.repaired, damaged, m.saturated, m.overdue,
    m.short || short])

/-- The later of a period's start and the present district time, on the plain counts (R134). -/
def periodEnd (start now : DTime) : DTime := if now.toNat < start.toNat then start else now

/-- Line units clamped in any tally of the slot (R126). -/
def State.anyClamped (s : State) (i : SlotId) (final : Bool) : Bool :=
  allBands.any fun b => (rateTally (s.pricesOf i b) final (s.tally i b)).clamped

/-- The record of a close (R134), as it is handed to the journal; the journal writes sequence and run mark (R140). -/
def State.recordOf (s : State) (i : SlotId) (reason : CloseReason) : UsageRecord :=
  let r := s.slot i
  let c := s.ctx i
  let lines := (s.lineBands i reason.isFinal).map (s.lineOf i reason.isFinal)
  { seq := 0, runMark := 0
    serial := r.serial.getD 0, slot := i, gen := r.gen
    start := c.periodStart, stop := periodEnd c.periodStart s.clock.time
    flags := recordFlags (c.marks.saturate (s.anyClamped i reason.isFinal)) (s.clock.state != .set) r.short
      (lines.any (·.damaged))
    reason := reason, lines := lines }

/-- A tally after its record: counts 0, damaged mark clear, carries as rating left them (R134). -/
def closedTally (p : Prices) (final : Bool) (t : Tally) : Tally :=
  { t with counts := .zero, carries := (rateTally p final t).carries, damaged := false }

/-- The context after its record: a new period from the record's end; the marks the record took are cleared, and the
provisional mark is set again at once while time is not SET (R134, R135). The short mark goes with it: only a later write
of the short flag sets it again (log entry 41). -/
def State.afterRecord (s : State) (i : SlotId) (final : Bool) : State :=
  let loose := s.clock.state != .set
  let now := s.clock.time
  let price := s.pricesOf i
  s.modCtx i fun c =>
    { c with
      tallies := Vector.ofFn fun b : Band => closedTally (price b) final (c.tallies.get b)
      periodStart := periodEnd c.periodStart now
      marks := { Marks.clear with provisional := loose } }

/-- The journal's held, sent and unsent counts (R138). -/
def Journal.held (j : Journal) : Nat := (j.append - j.oldest).toNat
def Journal.sent (j : Journal) : Nat := (j.publish - j.oldest).toNat
def Journal.unsent (j : Journal) : Nat := (j.append - j.publish).toNat

/-- Whether the journal has a free entry (R130). -/
def Journal.hasFree (j : Journal) : Bool := j.held < Config.journalEntries

/-- An append taken (R140): the record gets the run mark and the sequence number A, and A rises; an append that brings
the held count to 448 with the mark clear sets the near-full mark (R141). The second part tells that crossing. -/
def Journal.take (j : Journal) (r : UsageRecord) : Journal × Bool :=
  let crosses := j.held + 1 == Config.nearFull && !j.nearFull
  ({ j with
      records := j.records ++ [{ r with seq := j.append, runMark := j.runMark }]
      append := j.append + 1
      nearFull := j.nearFull || crosses }, crosses)

/-- A record handed to the journal; with 512 entries held it is refused and nothing changes (R140, R141). -/
def State.appendRecord (s : State) (r : UsageRecord) : State :=
  if s.journal.hasFree then
    let j := s.journal.take r
    let s := s.modJournal fun _ => j.1
    if j.2 then s.raise .journalNearFull (be 2 s.journal.held ++ be32 s.journal.oldest) else s
  else s

/-- A close that has its entry: rated, composed and appended (R126, R134). -/
def State.closeWithRecord (s : State) (i : SlotId) (reason : CloseReason) : State :=
  let r := s.recordOf i reason
  (s.afterRecord i reason.isFinal).appendRecord r

/-- Whether a context's close is owed (R130). -/
def CtxState.isOwed : CtxState → Bool
  | .owed | .finalOwed => true
  | .none | .opened | .draining => false

/-- Whether any close is owed. -/
def State.anyOwed (s : State) : Bool := allSlots.any fun i => (s.ctx i).state.isOwed

/-- A close gets an entry at once when the journal has one free and no close is owed (R130). -/
def State.entryAtOnce (s : State) : Bool := s.journal.hasFree && !s.anyOwed

/-- The overdue mark of an owed close (R130). -/
def State.owe (s : State) (i : SlotId) (st : CtxState) : State :=
  (s.modCtx i fun c => { c with state := st }).modMarks i fun m => { m with overdue := true }

end Sys2Proof.Machine
end

