-- ==== Sys2Proof/Machine/Table.lean ====
section
/-! DEFINITION. Machine/Table.lean: the home table manager: what an announcement of a slot's new state does in the other
blocks (R31, R62, R64, R70, R91, R92, R100, R113, R122, R167, R174), admission and top-up (R54, R55), and every entry of
a slot to a state (R24 to R34). -/

namespace Sys2Proof.Machine

/-! ### Admission and top-up (R54, R55) -/

/-- The room: the assured budget less the sum of A over all slots not FREE (R54). -/
def State.usedAssured (s : State) : Nat :=
  (allSlots.map fun i => if (s.slot i).state = .free then 0 else (s.slot i).assured).sum

def State.room (s : State) : Nat := s.config.budget - s.usedAssured

/-- A slot's A and short flag written; each write that sets the short flag is reported to the metering engine (R54,
R135). -/
def State.writeAssured (s : State) (i : SlotId) (a : Nat) (short : Bool) : State :=
  let s := s.modSlot i fun r => { r with assured := a, short := short }
  if short then s.modMarks i fun m => { m with short := true } else s

/-- One short slot given more, as far as the room goes; its short flag clears when it reaches its profile A (R55). -/
def State.topUpSlot (s : State) (i : SlotId) : State :=
  let r := s.slot i
  if r.short = true ∧ r.state ≠ .free ∧ r.state ≠ .closing ∧ 0 < s.room then
    let goal := (s.slotProfile i).assured
    let a := r.assured + min (goal - r.assured) s.room
    s.modSlot i fun r => { r with assured := a, short := decide (a < goal) }
  else s

/-- A top-up: short slots in ascending order, the room taken afresh after each (R55). -/
def State.topUp (s : State) : State := s.forSlots (fun i => (s.slot i).short) State.topUpSlot

/-! ### The announcement of a slot's state (R31) -/

/-- The tree port removes the slot's ASSIGN, ECHO and HOLDOFF entries on LOST, BARRED, CLOSING and FREE, and its ECHO
and HOLDOFF entries on a rejoin; the engine disregards those reports (R31, R62). -/
def State.treeOnSlot (s : State) (i : SlotId) (new : SlotState) : State :=
  match new with
  | .lost | .barred | .closing | .free => s.removeQuietly fun e => e.isFor i && e.body.isEnrolment
  | .assigning =>
    if (s.slot i).rejoin then s.removeQuietly fun e => e.isFor i && (e.body.isEcho || e.body.isHoldoff) else s
  | .active | .resuming => s

/-- The echo record ends without a verdict on LOST, BARRED, CLOSING, FREE and a rejoin; the home hold-off of a slot that
is still held is kept. A slot that leaves ACTIVE loses its garbled run and check-pending mark (R62). -/
def State.enrolOnSlot (s : State) (i : SlotId) (old new : SlotState) : State :=
  match new with
  | .free => s.modEcho i fun _ => .absent
  | .lost | .barred | .closing | .assigning => s.modEcho i fun r => { EchoRecord.absent with homeHoldoff := r.homeHoldoff }
  | .resuming => if old = .active then s.modEcho i fun r => { r with garbledRun := 0, checkPending := false } else s
  | .active => s

/-- The slot state each purpose serves (R64). -/
def EchoPurpose.serves : EchoPurpose → SlotState
  | .assign => .assigning
  | .resume => .resuming
  | .check => .active

/-- The planner discards the slot's echo request for another generation or another state than its purpose serves (R64);
the demand state is reset on ASSIGNING and FREE (R70). -/
def State.schedOnSlot (s : State) (i : SlotId) (new : SlotState) : State :=
  let g := (s.slot i).gen
  let s := s.modSched fun d =>
    { d with echoReqs := d.echoReqs.filter fun q => q.slot != i || (q.gen == g && q.purpose.serves == new) }
  match new with
  | .assigning | .free => s.modDemand i fun _ => .reset
  | .active | .lost | .resuming | .barred | .closing => s

/-- The downstream engine is told to flush on LOST, BARRED and CLOSING (R91), and clears the deficit and held-visit mark
of a newly assigned slot (R92). -/
def State.downOnSlot (s : State) (i : SlotId) (new : SlotState) : State :=
  let g := (s.slot i).gen
  match new with
  | .lost | .barred | .closing =>
    s.modDown fun d => { d with flushes := d.flushes ++ [{ slot := i, gen := g, closing := decide (new = .closing) }] }
  | .assigning =>
    if (s.slot i).rejoin then s else s.modQueue i fun q => { q with deficit := 0, held := false }
  | .free | .active | .resuming => s

/-- The watch sets both strike counts to 0 on ASSIGNING and FREE (R100), and a member of the candidate set that enters
BARRED, CLOSING or FREE leaves the search (R113). -/
def State.watchOnSlot (s : State) (i : SlotId) (new : SlotState) : State :=
  match new with
  | .assigning => s.modStrikes i fun _ => { tail := 0, head := 0 }
  | .free => (s.modStrikes i fun _ => { tail := 0, head := 0 }).dropMember i
  | .barred | .closing => s.dropMember i
  | .active | .lost | .resuming => s

/-- The metering engine opens the context of a slot that has become metered without having been so (R122). -/
def State.meterOnSlot (s : State) (i : SlotId) (fresh : Bool) (new : SlotState) : State :=
  match new with
  | .active | .barred => if fresh then s.ensureOpen i else s
  | .free | .assigning | .lost | .resuming | .closing => s

/-- The roster marks a claim due when a slot becomes ACTIVE on a new assignment (R167). -/
def State.rosterOnSlot (s : State) (i : SlotId) (fresh : Bool) (new : SlotState) : State :=
  match new with
  | .active => if fresh then s.setClaimDue i (some (s.slot i).gen) else s
  | .free | .assigning | .lost | .resuming | .barred | .closing => s

/-- A change of state already written to the slot record, announced to the blocks that depend on it (R31). `fresh`
tells that the slot was in ASSIGNING on a new assignment. -/
def State.announce (s : State) (i : SlotId) (old : SlotState) (fresh : Bool) : State :=
  let new := (s.slot i).state
  let s := s.treeOnSlot i new
  let s := s.enrolOnSlot i old new
  let s := s.schedOnSlot i new
  let s := s.downOnSlot i new
  let s := s.watchOnSlot i new
  let s := s.meterOnSlot i fresh new
  let s := s.rosterOnSlot i fresh new
  if new = .free then s.topUp else s

/-- A slot record rewritten with a new state, and the change announced. -/
def State.enter (s : State) (i : SlotId) (f : SlotRecord → SlotRecord) : State :=
  let r := s.slot i
  (s.modSlot i f).announce i r.state r.fresh

/-! ### The manager's orders (R24, R29, R32) -/

/-- A RELEASE offered for the slot at a generation to the normal lane; a refused offer is kept (R32). -/
def State.offerRelease (s : State) (i : SlotId) (g : Gen) : State :=
  let r := s.offerOrder .normal .release (some (i, g))
  match r.2 with
  | .accepted _ => r.1.modOwed i fun o => { o with release := none }
  | .refused => r.1.modOwed i fun o => { o with release := some g }
  | .completed | .abandoned =>
    (r.1.modOwed i fun o => { o with release := none }).modSlot i fun r => { r with releasePending := false }

/-- Release pending set and a RELEASE offered at the slot's present generation (R24, R32). -/
def State.releaseHome (s : State) (i : SlotId) : State :=
  (s.modSlot i fun r => { r with releasePending := true }).offerRelease i (s.slot i).gen

/-- A SEVER offered to the urgent lane; a refused offer is kept (R14, R29). -/
def State.offerSever (s : State) (i : SlotId) (g : Gen) (x : Serial) : State :=
  let r := s.offerOrder .urgent (.sever x) (some (i, g))
  match r.2 with
  | .refused => r.1.modOwed i fun o => { o with sever := some (g, x) }
  | .accepted _ | .completed | .abandoned => r.1.modOwed i fun o => { o with sever := none }

/-- A SEVER of the slot at its generation and serial, unless one is in the urgent lane (R29, R52). -/
def State.severAgain (s : State) (i : SlotId) : State :=
  if s.tree.urgent.any fun e => e.isFor i && e.body.isSever then s
  else s.offerSever i (s.slot i).gen (((s.slot i).serial).getD 0)

/-! ### The roster's lists (R169, R177, R178) -/

/-- A serial placed on the pending release list; on a full list the oldest is removed first (R169). -/
def Roster.placeRelease (r : Roster) (x : Serial) : Roster :=
  if r.releases.contains x then r
  else { r with releases := (if 256 ≤ r.releases.length then r.releases.drop 1 else r.releases) ++ [x] }

/-- A BAR placed on the pending bar list; a serial already there keeps its place and takes the newer values (R178). -/
def Roster.placeBar (r : Roster) (b : PendingBar) : Roster :=
  if r.bars.any (·.serial == b.serial) then
    { r with bars := r.bars.map fun c => if c.serial = b.serial then b else c }
  else { r with bars := (if 192 ≤ r.bars.length then r.bars.drop 1 else r.bars) ++ [b] }

/-- The entry with the earliest bar time, the one added earlier of equals (R177). -/
def earliestBar (qs : List Quarantine) : Option Quarantine :=
  qs.foldl (fun best q => match best with
    | none => some q
    | some b => if q.time.toNat < b.time.toNat then some q else some b) none

/-- The entry that a full quarantine list gives up: the earliest peer entry, else the earliest local one (R177). -/
def evictedBar (station : Byte) (qs : List Quarantine) : Option Quarantine :=
  (earliestBar (qs.filter (·.origin != station))).or (earliestBar (qs.filter (·.origin == station)))

/-- An entry added at the end of the quarantine list, one removed first when it holds 64 (R177). -/
def Roster.quarantineAdd (r : Roster) (station : Byte) (q : Quarantine) : Roster :=
  let room := match evictedBar station r.quarantine with
    | some e => if 64 ≤ r.quarantine.length then r.quarantine.erase e else r.quarantine
    | none => r.quarantine
  { r with quarantine := room ++ [q] }

/-- A freed slot's serial entered with local origin; a peer entry for it is replaced (R34, R178). -/
def State.quarantineLocal (s : State) (x : Serial) (reason : BarReason) : State :=
  let q : Quarantine := { serial := x, reason := reason, origin := s.station, time := s.clock.time }
  let station := s.station
  s.modRoster fun r =>
    if r.quarantine.any (·.serial == x) then
      { r with quarantine := r.quarantine.map fun e => if e.serial = x then q else e }
    else r.quarantineAdd station q

/-! ### Entries to states -/

/-- What FREE leaves of a slot record: the generation and release pending (R34). -/
def SlotRecord.freed (r : SlotRecord) : SlotRecord :=
  { SlotRecord.reset with gen := r.gen, releasePending := r.releasePending }

/-- Whether a freed slot's serial enters quarantine: barred STRAY or OVERRUN and not closed UNBARRED (R34). -/
def SlotRecord.entersQuarantine (r : SlotRecord) : Bool :=
  (r.barReason == some .stray || r.barReason == some .overrun) && r.closeReason != some .unbarred

/-- Entry to FREE (R34): the serial handed for quarantine where it must be, then the record cleared and the change
announced, which tops up short slots. -/
def State.freeSlot (s : State) (i : SlotId) : State :=
  let r := s.slot i
  let s := if r.entersQuarantine then s.quarantineLocal (r.serial.getD 0) (r.barReason.getD .stray) else s
  s.enter i SlotRecord.freed

/-- A new assignment abandoned (R24): straight to FREE, with a RELEASE at the present generation. -/
def State.abandonAssignment (s : State) (i : SlotId) : State := (s.freeSlot i).releaseHome i

/-- Entry to CLOSING (R32): the reason set, the bar reason kept only from BARRED, the rejoin mark cleared, a RELEASE
offered and the serial placed on the roster's pending release list. -/
def State.closeSlot (s : State) (i : SlotId) (reason : CloseReason) : State :=
  let x := ((s.slot i).serial).getD 0
  let s := s.enter i fun r =>
    { r with
      state := .closing, closeReason := some reason, rejoin := false
      barReason := if r.state = .barred then r.barReason else none }
  (s.releaseHome i).modRoster (·.placeRelease x)

/-- Entry to LOST (R27): silent count 4, lost-since kept if present, else the present round number, which is the round
counter and not the upstream round of the burst (log entry 12); a slot lost for 60 s already enters CLOSING at once. -/
def State.loseSlot (s : State) (i : SlotId) : State :=
  let at_ : LostSince := ((s.slot i).lostSince).getD { round := s.now, time := s.clock.time }
  let s := s.enter i fun r => { r with state := .lost, silent := 4, lostSince := some at_ }
  if Config.minuteRounds ≤ since s.now at_.round then s.closeSlot i .lost else s

/-- Entry to ACTIVE: the rejoin mark and lost-since cleared, the silent count 0 (R25 to R27). -/
def SlotRecord.activate (r : SlotRecord) : SlotRecord :=
  { r with state := .active, rejoin := false, silent := 0, lostSince := none }

/-- A bar request STRAY or OVERRUN taken in ASSIGNING, ACTIVE, LOST or RESUMING (R29). -/
def State.barSlot (s : State) (i : SlotId) (reason : BarReason) : State :=
  let now := s.clock.time
  let x := ((s.slot i).serial).getD 0
  let s := s.enter i fun r =>
    { r with
      state := .barred, barReason := some reason, rejoin := false
      claimTime := some (r.claimTime.getD now) }
  let s := s.offerSever i (s.slot i).gen x
  let s := s.raise .homeBarred (be 1 i.val ++ beSerial x ++ be 1 reason.code)
  s.modRoster (·.placeBar { serial := x, reason := reason, time := now })

/-- A bar request by its slot, generation and reason; discarded on another generation and in FREE, BARRED and CLOSING
(R29). -/
def State.barRequest (s : State) (i : SlotId) (g : Gen) (reason : BarReason) : State :=
  if (s.slot i).gen = g then
    match (s.slot i).state with
    | .assigning | .active | .lost | .resuming => s.barSlot i reason
    | .free | .barred | .closing => s
  else s

/-- A new assignment's fields (R24). -/
structure Assignment where
  serial : Serial
  profile : Fin 8
  assured : Nat
  ceiling : Nat
  tariff : Fin 4
  short : Bool
  rtd : Half
deriving DecidableEq, Repr

/-- The hold-off of an RTD: 65,536 less it (R13, R22). -/
def holdoffOf (rtd : Half) : Half := BitVec.ofNat 16 (65536 - rtd.toNat)

/-- A new assignment (R24): the generation raised, the fields written, the marks and flags cleared. Refused, with nothing
changed, when the slot is not available or some slot holds the serial; the second part tells whether it was taken. -/
def State.assignSlot (s : State) (i : SlotId) (a : Assignment) : State × Bool :=
  if (s.slot i).available && (s.holder a.serial).isNone then
    let s := s.enter i fun r =>
      { SlotRecord.reset with
        gen := r.gen + 1, state := .assigning, serial := some a.serial, profile := some a.profile
        ceiling := a.ceiling, tariff := some a.tariff
        rtd := some a.rtd, holdoff := some (holdoffOf a.rtd), releasePending := r.releasePending }
    (s.writeAssured i a.assured a.short, true)
  else (s, false)

/-- A rejoin (R24): a slot in ACTIVE, LOST or RESUMING that holds the serial goes to ASSIGNING with a new RTD; refused
otherwise. -/
def State.rejoinSlot (s : State) (i : SlotId) (x : Serial) (rtd : Half) : State × Bool :=
  match (s.slot i).state with
  | .active | .lost | .resuming =>
    if (s.slot i).serial = some x then
      (s.enter i fun r =>
        { r with state := .assigning, rejoin := true, rtd := some rtd, holdoff := some (holdoffOf rtd) }, true)
    else (s, false)
  | .free | .assigning | .barred | .closing => (s, false)

/-- The RTD, its hold-off and the last-heard round of an echo good (R25). -/
def SlotRecord.echoed (r : SlotRecord) (rtd : Half) (n : Round) : SlotRecord :=
  { r with rtd := some rtd, holdoff := some (holdoffOf rtd), lastHeard := some n }

/-- Echo good (R25): a slot in ASSIGNING, RESUMING or ACTIVE takes the refined RTD and is ACTIVE; a new assignment gets
its claim time. -/
def State.echoGood (s : State) (i : SlotId) (g : Gen) (rtd : Half) (n : Round) : State :=
  if (s.slot i).gen = g then
    let now := s.clock.time
    match (s.slot i).state with
    | .assigning =>
      s.enter i fun r =>
        { (r.echoed rtd n).activate with claimTime := if r.rejoin then r.claimTime else some now }
    | .resuming => s.enter i fun r => (r.echoed rtd n).activate
    | .active => s.modSlot i fun r => (r.echoed rtd n).activate
    | .free | .lost | .barred | .closing => s
  else s

/-- Echo failed (R25): a new assignment is abandoned, any other exchange leaves the slot LOST. -/
def State.echoFailed (s : State) (i : SlotId) (g : Gen) : State :=
  if (s.slot i).gen = g then
    match (s.slot i).state with
    | .assigning => if (s.slot i).rejoin then s.loseSlot i else s.abandonAssignment i
    | .resuming | .active => s.loseSlot i
    | .free | .lost | .barred | .closing => s
  else s

/-! ### Burst classes (R26) -/

/-- The enrolment engine's garbled run of an ACTIVE slot; at 8 it requests a re-echo and the run is 0 (R61). -/
def State.countGarbled (s : State) (i : SlotId) (c : BurstClass) : State :=
  match c with
  | .heard | .silent => s.modEcho i fun r => { r with garbledRun := 0 }
  | .garbled =>
    let run := (s.echo i).garbledRun + 1
    if 8 ≤ run then
      (s.modEcho i fun r => { r with garbledRun := 0 }).modEnrol fun e => { e with reechoes := e.reechoes ++ [i] }
    else s.modEcho i fun r => { r with garbledRun := run }

/-- The class of an ACTIVE slot's burst: HEARD sets the last-heard round and clears the count; SILENT with the hushed
flag clear raises it, and 4 is LOST (R26). The class is passed on to the enrolment engine. -/
def State.activeBurst (s : State) (i : SlotId) (c : BurstClass) (n : Round) : State :=
  let s := s.countGarbled i c
  match c with
  | .heard => s.modSlot i fun r => { r with lastHeard := some n, silent := 0 }
  | .garbled => s
  | .silent =>
    if (s.slot i).hushed then s
    else if 4 ≤ (s.slot i).silent + 1 then s.loseSlot i
    else s.modSlot i fun r => { r with silent := r.silent + 1 }

/-- A burst class applied to its slot, by state; another generation or a FREE slot discards it (R26). A HEARD burst of a
BARRED slot offers SEVER again (R29). -/
def State.applyClass (s : State) (i : SlotId) (g : Gen) (c : BurstClass) (n : Round) : State :=
  if (s.slot i).gen = g then
    match (s.slot i).state, c with
    | .free, _ => s
    | .active, c => s.activeBurst i c n
    | .lost, .heard => s.enter i fun r => { r.activate with lastHeard := some n }
    | .barred, .heard => (s.modSlot i fun r => { r with lastHeard := some n }).severAgain i
    | .assigning, .heard | .resuming, .heard | .closing, .heard => s.modSlot i fun r => { r with lastHeard := some n }
    | _, .garbled | _, .silent => s
  else s

/-! ### Expiry, decisions and commands (R27, R30, R38, R39) -/

/-- LOST_EXPIRY (R27): a slot LOST for 240,000 rounds enters CLOSING with reason LOST. -/
def execLostExpiry (i : SlotId) (s : State) : Result :=
  match (s.slot i).state, (s.slot i).lostSince with
  | .lost, some l => .next (if Config.minuteRounds ≤ since s.now l.round then s.closeSlot i .lost else s)
  | _, _ => .next s

/-- A CLONE decision taken by an ACTIVE slot (R30); the roster raises the CLONE alert with the claiming station (R176): the
one that the decision taken carries, also when another was noted after it (log entry 53). -/
def State.cloneSlot (s : State) (i : SlotId) (station : Byte) : State :=
  let x := ((s.slot i).serial).getD 0
  let s := s.enter i fun r => { r with state := .barred, barReason := some .clone, rejoin := false }
  let s := s.offerSever i (s.slot i).gen x
  s.raise .clone (beSerial x ++ be 1 i.val ++ [station])

/-- A decision applied to the slot holding the serial, by its state; in any other state it is discarded (R30). -/
def State.applyDecision (s : State) (d : Decision) : State :=
  match s.holder d.serial with
  | none => s
  | some i =>
    match d.kind, (s.slot i).state with
    | .moved, .lost | .moved, .resuming =>
      (s.closeSlot i .moved).raise .moved (beSerial d.serial ++ be 1 i.val)
    | .clone p, .active => s.cloneSlot i p
    | .unbar, .barred => s.closeSlot i .unbarred
    | _, _ => s

/-- ROSTER_DECISION (R30): the oldest decision in transit is applied. -/
def execRosterDecision (s : State) : Result :=
  match s.roster.decisions with
  | [] => .next s
  | d :: ds => .next ((s.modRoster fun r => { r with decisions := ds }).applyDecision d)

/-- The action of DEROLL on the slot holding the serial, by its state (R38). -/
def State.derollSlot (s : State) (i : SlotId) : State :=
  match (s.slot i).state with
  | .assigning => if (s.slot i).rejoin then s.closeSlot i .deroll else s.abandonAssignment i
  | .active | .lost | .resuming => s.closeSlot i .deroll
  | .barred => s.closeSlot i .barred
  | .free | .closing => s

/-- The serial a command's first eight argument bytes give (section 12.3). -/
def RxCommand.serial (c : RxCommand) : Serial := BitVec.ofNat 64 (fieldNat c.args 0 8)

/-- DEROLL (R38): acts on the slot holding the serial and replies at once. -/
def execDeroll (s : State) : Result :=
  match s.takeCommand 3 with
  | none => .next s
  | some (c, s) =>
    match s.holder c.serial with
    | none => .next (s.answerCode c .notFound)
    | some i => .next ((s.derollSlot i).answerCode c .done)

/-- The slot a READ_HOME names: by slot id in one byte or by serial in eight; otherwise the reply code (R39). -/
def State.namedSlot (s : State) (c : RxCommand) : Except ReplyCode SlotId :=
  if c.args.length = 1 then
    if h : fieldNat c.args 0 1 < 128 then .ok ⟨fieldNat c.args 0 1, h⟩ else .error .badArgument
  else match s.holder c.serial with
    | none => .error .notFound
    | some i => .ok i

/-- READ_HOME (R39): a snapshot of the slot record as it stands. -/
def execReadHome (s : State) : Result :=
  match s.takeCommand 4 with
  | none => .next s
  | some (c, s) =>
    match s.namedSlot c with
    | .error rc => .next (s.answerCode c rc)
    | .ok i => .next (s.answer c .done (slotSnapshot i (s.slot i) s.now))

end Sys2Proof.Machine
end

