-- ==== Sys2Proof/Machine/Exchange.lean ====
section
/-! DEFINITION. Machine/Exchange.lean: the echo exchanges, HOLDOFF records and roll calls of the enrolment engine, with
the steps that drive them (R46 to R62). -/

namespace Sys2Proof.Machine

/-! ### Requests to the window planner (R64) -/

/-- The later of two earliest rounds; absent is any round (R64). -/
def laterEarliest (a b : Option Round) : Option Round :=
  match a, b with
  | none, x | x, none => x
  | some x, some y => if later y x then some y else some x

/-- An echo request held; a second one for the slot is merged into it (R64). -/
def Scheduler.requestEcho (d : Scheduler) (q : EchoRequest) : Scheduler :=
  if d.echoReqs.any (·.slot == q.slot) then
    { d with echoReqs := d.echoReqs.map fun h =>
        if h.slot = q.slot then { h with earliest := laterEarliest h.earliest q.earliest } else h }
  else { d with echoReqs := d.echoReqs ++ [q] }

/-! ### Echo exchanges (R56) -/

/-- The engine asks the planner for a span; while the slot's hushed flag is set it makes no request and holds it (R56). -/
def State.askSpan (s : State) (i : SlotId) : State :=
  let r := s.echo i
  match r.purpose with
  | none => s
  | some p =>
    if r.spanDue = true ∧ (s.slot i).hushed = false then
      (s.modEcho i fun r => { r with spanDue := false }).modSched (·.requestEcho
        { slot := i, gen := (s.slot i).gen, purpose := p, earliest := r.earliest, arrival := s.now })
    else s

/-- The order of an exchange: ASSIGN with the serial and the home hold-off, or ECHO (R56). -/
def State.exchangeOrder (s : State) (i : SlotId) (p : EchoPurpose) : OrderBody :=
  match p with
  | .assign => .assign (((s.slot i).serial).getD 0) (((s.slot i).holdoff).getD 0)
  | .resume | .check => .echo

/-- An exchange's order offered to the urgent lane for the slot at its present generation; once it is accepted the
engine asks for a span, and a refused offer stays due (R56). -/
def State.offerExchange (s : State) (i : SlotId) : State :=
  let r := s.echo i
  match r.purpose with
  | none => s
  | some p =>
    if r.orderDue then
      let o := s.offerOrder .urgent (s.exchangeOrder i p) (some (i, (s.slot i).gen))
      match o.2 with
      | .accepted _ => (o.1.modEcho i fun r => { r with orderDue := false, spanDue := true }).askSpan i
      | .refused | .completed | .abandoned => o.1
    else s

/-- An echo exchange started for a slot (R56): purpose and phase set, the miss count cleared, and the order offered. For
ASSIGN the home hold-off is the one the ASSIGN carries. -/
def State.startExchange (s : State) (i : SlotId) (p : EchoPurpose) : State :=
  let carried := (s.slot i).holdoff
  (s.modEcho i fun r =>
    { r with
      purpose := some p, phase := some .waiting, misses := 0, orderDue := true, spanDue := false, earliest := none
      homeHoldoff := if p = .assign then carried else r.homeHoldoff }).offerExchange i

/-- A granted span that found no order waiting, or a binding lost unsent, sends the engine back to asking for a span
while the exchange lasts (R56). Log entry 38: the request is held again at once, so the second echo span of the same build
may be granted to it. -/
def State.askAgain (s : State) (i : SlotId) : State :=
  (s.modEcho i fun r =>
    if r.purpose.isSome && r.phase == some .waiting && !r.orderDue then { r with spanDue := true } else r).askSpan i

/-- Misses allowed before echo failed (R56). -/
def EchoPurpose.limit : EchoPurpose → Nat
  | .assign | .check => 3
  | .resume => 2

/-- An exchange ended by its verdict: purpose, phase and misses gone, and the garbled run 0 (R58, R59). -/
def EchoRecord.ended (r : EchoRecord) : EchoRecord :=
  { r with purpose := none, phase := none, misses := 0, garbledRun := 0, orderDue := false, spanDue := false, earliest := none }

/-- The HOLDOFF that an answered echo needs: the new hold-off when it differs from the home hold-off by more than 8 fine
units (R58). -/
def EchoRecord.needsHoldoff (r : EchoRecord) (new : Half) : EchoRecord :=
  match r.homeHoldoff with
  | none => { r with holdoffWaiting := some new }
  | some h => if 8 < ((new.toNat : Int) - h.toNat).natAbs then { r with holdoffWaiting := some new } else r

/-- The refined RTD of an echo answer, in fine units: arrival less home hold-off less 16 (s + 6) (R57). -/
def refinedRtd (a : EchoAnswer) (homeHoldoff : Half) (start : Nat) : Int :=
  ((16 * a.ticks + a.phase : Nat) : Int) - homeHoldoff.toNat - ((16 * (start + 6) : Nat) : Int)

/-- Whether an RTD lies in the accepted range (R13). -/
def rtdAccepted (x : Int) : Bool := decide ((Config.rtdMin : Int) ≤ x ∧ x ≤ (Config.rtdMax : Int))

/-- The answer that makes a span answered (R57): it bears the slot's serial, starts at span offset 0 to 12, and its
refined RTD is accepted. The first handed over is taken (log entry 20). -/
def State.echoAnswerOf (s : State) (i : SlotId) (span : EchoSpan) (n : Round) : Option Int :=
  let home := ((s.echo i).homeHoldoff).getD 0
  (s.enrol.answers.find? fun a =>
      a.round == n && a.start == span.start && some a.serial == (s.slot i).serial
        && decide (4096 + span.start ≤ a.ticks ∧ a.ticks ≤ 4096 + span.start + 12)).bind fun a =>
    if rtdAccepted (refinedRtd a home span.start) then some (refinedRtd a home span.start) else none

/-- An answered echo (R58): the HOLDOFF recorded if needed, echo good reported, the exchange ended. -/
def State.echoAnswered (s : State) (i : SlotId) (rtd : Int) (n : Round) : State :=
  let r := BitVec.ofNat 16 rtd.toNat
  let s := s.modEcho i (·.needsHoldoff (holdoffOf r))
  (s.echoGood i (s.slot i).gen r n).modEcho i (·.ended)

/-- A missed echo (R57, R59): below the limit the engine asks for a span at least 8 rounds after the last send; at the
limit echo failed is reported and the exchange ends. -/
def State.echoMissed (s : State) (i : SlotId) (p : EchoPurpose) (n : Round) : State :=
  let misses := (s.echo i).misses + 1
  if p.limit ≤ misses then (s.modEcho i (·.ended)).echoFailed i (s.slot i).gen
  else (s.modEcho i fun r =>
    { r with misses := misses, phase := some .waiting, spanDue := true, earliest := some (n + 8) }).askSpan i

/-- The engine rules one echo span of upstream round `n` (R57): only an exchange whose order was sent in that round is
ruled, and its verdict goes to the tree port. -/
def State.ruleEcho (s : State) (span : EchoSpan) (n : Round) : State :=
  let i := span.slot
  match (s.echo i).purpose, s.tree.awaiting i span.gen n with
  | some p, some e =>
    if (s.echo i).phase = some .sent ∧ (s.slot i).gen = span.gen then
      match s.echoAnswerOf i span n with
      | some rtd => (s.modTree (·.verdict e true)).echoAnswered i rtd n
      | none => (s.modTree (·.verdict e false)).echoMissed i p n
    else s
  | _, _ => s

/-- A sample of the activity latch in the echo span at `start` gathered for its report (R9). -/
def Issued.noteLight (r : Issued) (start : Nat) (light : Bool) : Issued :=
  if light && !r.echoLight.contains start then { r with echoLight := r.echoLight ++ [start] } else r

/-- ECHO_SPAN_END (R9, R57): the end of the narrow echo span at an offset of the round in reception is reported, once, with
its light finding, and ruled whatever light it held; its answers are done with. The activity latch stands as the sample at
the end of the span found it (log entry 51). -/
def execEchoSpanEnd (report : EchoSpanReport) (s : State) : Result :=
  match s.reception with
  | none => .next s
  | some r =>
    match r.plan.spans.echoes.find? (·.start == report.start.val) with
    | none => .next s
    | some span =>
      if r.echoesEnded.contains span.start then .next s
      else
        let s := (s.modReception fun r =>
          { r.noteLight span.start report.light with echoesEnded := r.echoesEnded ++ [span.start] }).sampleLatch report.light
        let s := s.ruleEcho span r.plan.round
        .next (s.modEnrol fun e =>
          { e with answers := e.answers.filter fun a => a.round != r.plan.round || a.start != span.start })

/-! ### HOLDOFF offers (R60) -/

/-- A waiting HOLDOFF value offered to the normal lane while none is in flight (R60). -/
def State.offerHoldoff (s : State) (i : SlotId) : State :=
  let r := s.echo i
  match r.holdoffWaiting, r.holdoffInFlight with
  | some v, none =>
    let o := s.offerOrder .normal (.holdoff v) (some (i, (s.slot i).gen))
    match o.2 with
    | .accepted _ => o.1.modEcho i fun r => { r with holdoffWaiting := none, holdoffInFlight := some v }
    | .refused => o.1
    | .completed | .abandoned => o.1.modEcho i fun r => { r with holdoffWaiting := none }
  | _, _ => s

/-! ### Re-echo (R61) -/

/-- A re-echo request dealt with by the slot's state and its echo record (R61). -/
def State.reecho (s : State) (i : SlotId) : State :=
  if (s.slot i).state = .active then
    if (s.echo i).purpose.isSome then s
    else if (s.slot i).hushed then s.modEcho i fun r => { r with checkPending := true }
    else s.startExchange i .check
  else s

/-- REECHO_REQUEST (R61): the oldest request in transit is dealt with, by the state of the slot it names (R102: "for the
slot"). That it carries no generation, so that one made for an earlier occupant acts on the present one, is the model's
choice, log entry 54. -/
def execReechoRequest (s : State) : Result :=
  match s.enrol.reechoes with
  | [] => .next s
  | i :: is => .next ((s.modEnrol fun e => { e with reechoes := is }).reecho i)

/-- A pending CHECK starts at the first round start with the hushed flag clear and the slot still ACTIVE (R61). -/
def State.startPending (s : State) (i : SlotId) : State :=
  if (s.echo i).checkPending = true ∧ (s.slot i).hushed = false ∧ (s.slot i).state = .active then
    (s.modEcho i fun r => { r with checkPending := false }).reecho i
  else s

/-! ### Roll call (R46 to R50) -/

/-- A roll call begun (R47): the due mark cleared, the cause set, the phase REQUESTED; the ROLL is offered at the next
round start. -/
def State.beginRoll (s : State) (cause : RollCause) : State :=
  s.modRoll fun r =>
    { r with due := false, cause := some cause, phase := .requested, offerDue := true, followUpAt := none }

/-- A ROLL still due offered to the urgent lane; once accepted the engine asks the planner for a roll-call span (R47). -/
def State.offerRoll (s : State) : State :=
  if s.enrol.roll.phase = .requested ∧ s.enrol.roll.offerDue = true then
    let o := s.offerOrder .urgent .roll none
    match o.2 with
    | .accepted _ => (o.1.modRoll fun r => { r with offerDue := false }).modSched fun d => { d with rollReq := true }
    | .refused => o.1
    | .abandoned | .completed => o.1.rollAbandoned
  else s

/-- The binding of the ROLL was lost: the engine asks the planner for a span again (R47, R68). -/
def State.askRollAgain (s : State) : State :=
  if s.enrol.roll.phase = .requested then s.modSched fun d => { d with rollReq := true } else s

/-- ROLL_CALL_DUE (R46): the counter's reaching 0 sets the due mark, and a periodic roll call begins when the phase is
IDLE. -/
def execRollCallDue (s : State) : Result :=
  if s.enrol.roll.reached then
    let s := s.modRoll fun r => { r with reached := false, due := true }
    .next (if s.enrol.roll.phase = .idle then s.beginRoll .periodic else s)
  else .next s

/-- FOLLOW_UP_DUE (R49): four rounds after the report, a FOLLOW_UP roll call begins if the cause is still FOLLOW_UP, the
phase still IDLE and the tree port LIT; otherwise a cause of FOLLOW_UP becomes absent. -/
def execFollowUpDue (s : State) : Result :=
  match s.enrol.roll.followUpAt with
  | none => .next s
  | some n =>
    if 4 ≤ since s.now n then
      let s := s.modRoll fun r => { r with followUpAt := none }
      let r := s.enrol.roll
      if r.cause = some .followUp ∧ r.phase = .idle ∧ s.tree.state = .lit then .next (s.beginRoll .followUp)
      else if r.cause = some .followUp then .next (s.modRoll fun r => { r with cause := none })
      else .next s
    else .next s

/-- The end of a roll call ruled by its light finding and its answers (R49, R50); the second part tells a light streak. -/
def RollCall.ended (r : RollCall) (light : Bool) (now : Round) : RollCall × Bool :=
  let blind := light && !r.answered
  let streak := if blind then r.streak + 1 else 0
  let r := { r with
    phase := .idle, openRound := none, light := false, answered := false
    streak := if 8 ≤ streak then 0 else streak }
  let follow := light && r.followUps < 8
  ({ r with
      followUps := if follow then r.followUps + 1 else 0
      cause := if follow then some .followUp else none
      followUpAt := if follow then some now else none }, decide (8 ≤ streak))

/-- ROLL_NOW (R48). -/
def execRollNow (s : State) : Result :=
  match s.takeCommand 8 with
  | none => .next s
  | some (c, s) =>
    if s.tree.state = .lit ∧ (s.watch.state = .clear ∨ s.watch.state = .alert) then
      if s.enrol.roll.phase = .idle then
        let keep := s.enrol.roll.cause = some .followUp
        let s := s.modRoll fun r => { r with followUps := if keep then r.followUps else 0 }
        .next ((s.beginRoll .command).answerCode c .done)
      else .next (s.answerCode c .done)
    else .next (s.answerCode c .notNow)

end Sys2Proof.Machine
end

