-- ==== Sys2Proof/Machine/Closes.lean ====
section
/-! DEFINITION. Machine/Closes.lean: the closes of the metering engine: interval, profile, final and owed (R128 to R132),
and the drain that leads from a flush to the FREE slot (R33, R34, R91). -/

namespace Sys2Proof.Machine

/-! ### Final closes (R127, R132) -/

/-- A context on entry to NONE: tallies, carries and marks cleared, except time-stepped (R132, R135). -/
def Context.toNone (c : Context) : Context :=
  { Context.closed with marks := { Marks.clear with stepped := c.marks.stepped } }

/-- The final record appended, the context back in NONE with its accumulator cleared, and the append reported to the
manager, which frees a CLOSING slot (R33, R34, R132). -/
def State.finishClose (s : State) (i : SlotId) : State :=
  let reason := ((s.ctx i).closeReason).getD .deroll
  let s := s.closeWithRecord i reason
  let s := (s.modCtx i Context.toNone).setOver i .zero
  if (s.slot i).state = .closing then s.freeSlot i else s

/-- Whether the consumed count has reached or passed the drain mark (R132). -/
def drainReached (consumed mark : Seq) : Bool := !later mark consumed

/-- DRAIN_COMPLETE (R132): a DRAINING context whose mark is reached folds its accumulator, then closes with an entry at
once or becomes FINAL_OWED. -/
def execDrainComplete (i : SlotId) (s : State) : Result :=
  if (s.ctx i).state = .draining ∧ drainReached s.meter.consumed (s.ctx i).drainMark = true then
    let s := (s.fold i).checkTallies i
    .next (if s.entryAtOnce then s.finishClose i else s.owe i .finalOwed)
  else .next s

/-- A final-close request (R132): a context in NONE is opened, OPEN and OWED become DRAINING with the reason and the
mark, OWED with its overdue mark set; another generation, DRAINING and FINAL_OWED discard it. -/
def State.finalRequest (s : State) (i : SlotId) (g : Gen) (reason : CloseReason) (mark : Seq) : State :=
  if (s.slot i).gen = g then
    match (s.ctx i).state with
    | .draining | .finalOwed => s
    | .none | .opened | .owed =>
      let owed := (s.ctx i).state == .owed
      (s.ensureOpen i).modCtx i fun c =>
        { c with
          state := .draining, closeReason := some reason, drainMark := mark
          marks := { c.marks with overdue := c.marks.overdue || owed } }
  else s

/-- The flush done report of a CLOSING slot (R33): the manager notes the queue's tail as the drain mark and sends the
final-close request. -/
def State.flushDone (s : State) (i : SlotId) (g : Gen) : State :=
  match (s.slot i).state, (s.slot i).closeReason with
  | .closing, some reason => s.finalRequest i g reason s.meter.taken
  | _, _ => s

/-! ### Owed closes (R130, R149) -/

/-- One owed close served with a freed entry: OWED returns to OPEN, FINAL_OWED ends. -/
def State.serveClose (s : State) (i : SlotId) : State :=
  if s.journal.hasFree then
    match (s.ctx i).state with
    | .owed => ((s.checkTallies i).closeWithRecord i .interval).modCtx i fun c => { c with state := .opened }
    | .finalOwed => (s.checkTallies i).finishClose i
    | .none | .opened | .draining => s
  else s

/-- Owed closes served in ascending slot order, one entry to each, while an entry is free (R130). -/
def State.entriesFreed (s : State) : State := s.forSlots (fun i => (s.ctx i).state.isOwed) State.serveClose

/-! ### Interval round (R128, R129) -/

/-- One slot of an interval round: an OPEN context folds its accumulator; without a line its period starts anew, with
one it closes with a record at once or is owed (R129). -/
def State.intervalClose (s : State) (i : SlotId) : State :=
  if (s.ctx i).state = .opened then
    let s := (s.fold i).checkTallies i
    if (s.lineBands i false).isEmpty then
      let now := s.clock.time
      s.modCtx i fun c => { c with periodStart := now }
    else if s.entryAtOnce then s.closeWithRecord i .interval
    else s.owe i .owed
  else s

/-- Whether district time has reached or passed the next boundary (R128). -/
def State.intervalDue (s : State) : Bool :=
  match s.meter.nextBoundary with
  | none => false
  | some b => b ≤ s.clock.time.toNat

/-- INTERVAL_ROUND (R128, R129): every OPEN context closed in ascending slot order, then the next boundary set. -/
def execIntervalRound (s : State) : Result :=
  if s.intervalDue then
    let s := s.forSlots (fun i => (s.ctx i).state == .opened) State.intervalClose
    let b := boundaryAfter s.config s.clock.time
    .next (s.modMeter fun m => { m with nextBoundary := some b })
  else .next s

/-! ### Profile close (R131) -/

/-- A profile-close request and its answer, true for closed (R131). -/
def State.profileClose (s : State) (i : SlotId) (g : Gen) : State × Bool :=
  if (s.slot i).gen = g then
    match (s.ctx i).state with
    | .none | .draining | .finalOwed => (s, true)
    | .owed => (s, false)
    | .opened =>
      if s.anyOwed then (s, false)
      else
        let s := (s.fold i).checkTallies i
        if (s.lineBands i false).isEmpty then
          let now := s.clock.time
          (s.modCtx i fun c => { c with periodStart := now }, true)
        else if s.journal.hasFree then (s.closeWithRecord i .profile, true)
        else (s, false)
  else (s, true)

/-! ### The flush (R91) -/

/-- Blocks of a packet: ceil(length / 256) (R83). -/
def blocksOf (content : List Byte) : Nat := (content.length + 255) / 256

/-- Blocks of a list of packets. -/
def packetBlocks (ps : List (List Byte)) : Nat := (ps.map blocksOf).sum

/-- Content bytes of a list of packets. -/
def packetSum (ps : List (List Byte)) : Nat := (ps.map List.length).sum

/-- Blocks returned to the pool; the pressure mark clears when the free count is then above the high mark (R84). -/
def Downstream.giveBack (d : Downstream) (high b : Nat) : Downstream :=
  { d with free := d.free + b, pressure := d.pressure && decide (d.free + b ≤ high) }

/-- The flush of one slot (R91): its packets' blocks returned, its deficit and held-visit mark cleared, and one DROP
update for the bytes, if any, with the generation announced. -/
def State.flushQueue (s : State) (i : SlotId) (g : Gen) : State :=
  let packets := (s.queue i).packets
  let high := s.config.poolHigh
  let s := s.modQueue i fun _ => { packets := [], deficit := 0, held := false }
  let s := s.modDown (·.giveBack high (packetBlocks packets))
  if packetSum packets = 0 then s else s.offerUpdate i g .drop (packetSum packets) 0

/-- QUEUE_FLUSH (R91, R33): the oldest announcement in transit is acted on; for CLOSING the flush is reported done. -/
def execQueueFlush (s : State) : Result :=
  match s.down.flushes with
  | [] => .next s
  | f :: fs =>
    let s := (s.modDown fun d => { d with flushes := fs }).flushQueue f.slot f.gen
    .next (if f.closing then s.flushDone f.slot f.gen else s)

end Sys2Proof.Machine
end

