-- ==== Sys2Proof/Machine/Enrolment.lean ====
section
/-! DEFINITION. Machine/Enrolment.lean: the enrolment engine's ruling of answers, the strangers list, and the commands
PROVISION, UNPROVISION, READ_STRANGERS and FORGET_STRANGERS (R9, R40 to R45, R51 to R54). -/

namespace Sys2Proof.Machine

/-! ### The strangers list (R44) -/

/-- A known stranger seen again: last-seen time, seen count to 255, present reason (R44). -/
def Stranger.again (e : Stranger) (reason : StrangerReason) (now : DTime) : Stranger :=
  { e with reason := reason, lastSeen := now, seen := min (e.seen + 1) 255 }

/-- The entry with the oldest last-seen time, the earlier-created of equals (R44). -/
def oldestStranger (es : List Stranger) : Option Stranger :=
  es.foldl (fun best e => match best with
    | none => some e
    | some b => if e.lastSeen.toNat < b.lastSeen.toNat then some e else some b) none

/-- A new entry appended; on a full list the oldest is removed first (R44). -/
def appendStranger (es : List Stranger) (e : Stranger) : List Stranger :=
  (match oldestStranger es with
    | some o => if 16 ≤ es.length then es.erase o else es
    | none => es) ++ [e]

/-- The alert a new entry raises (R44). -/
def StrangerReason.alert : StrangerReason → AlertKind
  | .quarantined => .quarantinedSeen
  | .unprovisioned | .tableFull | .tooFar => .stranger

/-- A serial turned away with a reason (R44). -/
def State.stranger (s : State) (x : Serial) (reason : StrangerReason) : State :=
  let now := s.clock.time
  if s.enrol.strangers.any (·.serial == x) then
    s.modEnrol fun e => { e with strangers := e.strangers.map fun k => if k.serial = x then k.again reason now else k }
  else
    let fresh : Stranger := { serial := x, reason := reason, firstSeen := now, lastSeen := now, seen := 1 }
    (s.modEnrol fun e => { e with strangers := appendStranger e.strangers fresh }).raise reason.alert
      (beSerial x ++ be 1 reason.code)

/-! ### Candidate checks (R51 to R54) -/

/-- The lowest-numbered available slot (R53). -/
def State.firstAvailable (s : State) : Option SlotId := allSlots.find? fun i => (s.slot i).available

/-- The RTD of a roll-call answer: 16 (arrival - 6,492 - d) + phase, in fine units; it may be negative (R51). -/
def rollRtd (arrival delay phase : Nat) : Int :=
  16 * ((arrival : Int) - (Config.provisionalTicks : Int) - (delay : Int)) + (phase : Int)

/-- A new assignment in the lowest available slot (R53): admitted, its contested flag set for a foreign claim, its
stranger entry removed, and the ASSIGN exchange started. -/
def State.newAssignment (s : State) (i : SlotId) (x : Serial) (p : Fin 8) (rtd : Half) : State :=
  let f := s.profileOf p
  let a := min f.assured s.room
  let r := s.assignSlot i
    { serial := x, profile := p, assured := a, ceiling := f.ceiling, tariff := f.tariff, short := decide (a < f.assured)
      rtd := rtd }
  if r.2 then
    let s := if r.1.foreignClaim x then r.1.modSlot i fun k => { k with contested := true } else r.1
    let s := s.modEnrol fun e => { e with strangers := e.strangers.filter (·.serial != x) }
    s.startExchange i .assign
  else r.1

/-- Checks 6 to 8 for a serial with a provision entry (R52). -/
def State.checkFarFullNew (s : State) (x : Serial) (p : Fin 8) (rtd : Int) : State :=
  if rtdAccepted rtd then
    match s.firstAvailable with
    | none => s.stranger x .tableFull
    | some i => s.newAssignment i x p (BitVec.ofNat 16 rtd.toNat)
  else s.stranger x .tooFar

/-- Check 2: a rejoin, or TOO_FAR with the slot left as it is (R52). -/
def State.checkRejoin (s : State) (i : SlotId) (x : Serial) (rtd : Int) : State :=
  if rtdAccepted rtd then
    let r := s.rejoinSlot i x (BitVec.ofNat 16 rtd.toNat)
    if r.2 then r.1.startExchange i .assign else r.1
  else s.stranger x .tooFar

/-- The candidate checks in their order (R52). -/
def State.candidate (s : State) (x : Serial) (rtd : Int) : State :=
  match s.holder x with
  | some i =>
    match (s.slot i).state with
    | .barred => s.severAgain i
    | .active | .lost | .resuming => if (s.slot i).hushed then s else s.checkRejoin i x rtd
    | .assigning | .closing | .free => s
  | none =>
    if s.quarantined x then s.stranger x .quarantined
    else match s.entryOf x with
      | none => s.stranger x .unprovisioned
      | some e => s.checkFarFullNew x e.profile rtd

/-- The span of a round in which an answer that begins at an offset lies, all its four ticks: the roll-call span, or a
narrow echo span (R9, R63). The roll-call tail runs on into the head of the next round. -/
inductive SpanAt where
  | roll
  | echo (span : EchoSpan)
deriving DecidableEq, Repr

def spanAt (p : Plan) (offset : Nat) : Option SpanAt :=
  if (p.spans.rollTail && decide (Config.rollTailStart ≤ offset))
      || (p.spans.rollHead && decide (offset + Config.answerTicks ≤ Config.rollHeadEnd)) then
    some .roll
  else (p.spans.echoes.find? fun e =>
    e.start ≤ offset && offset + Config.answerTicks ≤ e.start + Config.echoTicks).map .echo

/-- Arrival in ticks from the start of downstream round `n`, at an offset of upstream round `m` (R9). -/
def arrivalTicks (n m : Round) (offset : Nat) : Nat := Config.roundTicks * (since m n + 2) + offset

/-- A sample of the activity latch in a roll-call span gathered for its report (R9). -/
def State.noteRollLight (s : State) (light : Bool) : State := s.modRoll fun r => { r with light := r.light || light }

/-- The activity latch cleared at the end of a valid answer in a span (R9). -/
def State.clearLatch (s : State) : State := s.modTree fun t => { t with latch := false }

/-- A valid answer in the roll-call span whose ROLL went out in round `n`, arriving at an offset of upstream round `m`: its
sample of the latch gathered and the answer ruled as a candidate (R9, R51). -/
def State.rollAnswer (s : State) (rx : AnswerRx) (a : Identity) (n m : Round) : State :=
  let s := (s.noteRollLight rx.light).modRoll fun k => { k with answered := true }
  s.candidate a.serial (rollRtd (arrivalTicks n m rx.offset.val) a.delay rx.phase.val)

/-- A valid answer in an echo span of upstream round `n`: its sample of the latch gathered and the answer kept for the end
of the span (R9, R57). -/
def State.echoAnswer (s : State) (rx : AnswerRx) (a : Identity) (e : EchoSpan) (n : Round) : State :=
  let answer : EchoAnswer := {
    round := n, start := e.start, serial := a.serial, ticks := arrivalTicks n n rx.offset.val, phase := rx.phase.val }
  (s.modReception (·.noteLight e.start rx.light)).modEnrol fun k => { k with answers := k.answers ++ [answer] }

/-- ANSWER_DECODE (R9, R51): a valid answer inside a span is handed to the enrolment engine, which rules a roll-call answer
at once and keeps an echo answer for the end of its span. Outside every span nothing is decoded, and nothing changes. -/
def execAnswerDecode (rx : AnswerRx) (s : State) : Result :=
  match s.reception, validAnswer rx with
  | some r, some a =>
    match spanAt r.plan rx.offset.val, s.enrol.roll.openRound with
    | some .roll, some n => .next (s.clearLatch.rollAnswer rx a n r.plan.round)
    | some .roll, none => .next s.clearLatch
    | some (.echo e), _ => .next (s.clearLatch.echoAnswer rx a e r.plan.round)
    | none, _ => .next s
  | _, _ => .next s

/-! ### Provisioning (R40 to R43) -/

/-- The provision entry of a serial replaced by new values. -/
def State.writeEntry (s : State) (e : ProvisionEntry) : State :=
  s.modEnrol fun k => { k with provision := k.provision.map fun o => if o.serial = e.serial then e else o }

/-- A held slot's new profile (R42, R54): profile, ceiling and class, A by admission with its own A added back, and a
top-up when A falls. -/
def State.changeProfile (s : State) (i : SlotId) (p : Fin 8) : State :=
  let f := s.profileOf p
  let old := (s.slot i).assured
  let a := min f.assured (s.room + old)
  let s := s.modSlot i fun r => { r with profile := some p, ceiling := f.ceiling, tariff := some f.tariff }
  let s := s.writeAssured i a (decide (a < f.assured))
  if a < old then s.topUp else s

/-- The arguments of PROVISION (section 12.3). -/
structure ProvisionArgs where
  serial : Serial
  profile : Nat
  tag : Half
deriving DecidableEq, Repr

def RxCommand.provisionArgs (c : RxCommand) : ProvisionArgs :=
  { serial := c.serial, profile := fieldNat c.args 8 1, tag := BitVec.ofNat 16 (fieldNat c.args 9 2) }

/-- Whether a home tag is out of range (R41). -/
def badTag (t : Half) : Bool := t == 0 || decide (4095 < t.toNat)

/-- Whether a home tag is held by the entry of a different serial (R41). -/
def State.tagTaken (s : State) (t : Half) (x : Serial) : Bool := s.enrol.provision.any fun e => e.tag == t && e.serial != x

/-- R42 for a held serial whose profile id changes: a change of tariff class of an enrolled slot first asks the metering
engine for a close. -/
def State.changeHeld (s : State) (c : RxCommand) (i : SlotId) (e : ProvisionEntry) : State :=
  if (s.slot i).enrolled = true ∧ (s.slot i).tariff ≠ some (s.profileOf e.profile).tariff then
    let g := (s.slot i).gen
    let r := s.profileClose i g
    let close : ProfileClose := {
      command := c, serial := e.serial, profile := e.profile, tag := e.tag, slot := i, gen := g, closed := r.2 }
    r.1.modEnrol fun k => { k with closes := k.closes ++ [close] }
  else ((s.writeEntry e).changeProfile i e.profile).answerCode c .done

/-- PROVISION for a serial that has an entry (R41). -/
def State.provisionKnown (s : State) (c : RxCommand) (o e : ProvisionEntry) : State :=
  match s.holder e.serial with
  | none => (s.writeEntry e).answerCode c .done
  | some i =>
    if (s.slot i).state = .closing ∨ o.profile = e.profile then (s.writeEntry e).answerCode c .done
    else s.changeHeld c i e

/-- PROVISION (R41, R42): the conditions in the order of R41's table; while a profile close of the serial is outstanding
the reply is BUSY. -/
def State.provisionBy (s : State) (c : RxCommand) : State :=
  let a := c.provisionArgs
  if h : a.profile < 8 then
    let e : ProvisionEntry := { serial := a.serial, profile := ⟨a.profile, h⟩, tag := a.tag }
    if badTag a.tag || s.tagTaken a.tag a.serial then s.answerCode c .badArgument
    else if s.enrol.closes.any (·.serial == a.serial) then s.answerCode c .busy
    else match s.entryOf a.serial with
      | some o => s.provisionKnown c o e
      | none =>
        if 256 ≤ s.enrol.provision.length then s.answerCode c .listFull
        else (s.modEnrol fun k => { k with provision := k.provision ++ [e] }).answerCode c .done
  else s.answerCode c .badArgument

/-- PROVISION: the oldest dispatched one is taken. -/
def execProvision (s : State) : Result :=
  match s.takeCommand 1 with
  | none => .next s
  | some (c, s) => .next (s.provisionBy c)

/-- The change applied when the close was answered closed (R42): the entry takes the new values, and the slot too unless
it is CLOSING, FREE or another occupant's by now. A tag that another serial has taken meanwhile is answered
BAD_ARGUMENT (log entry 17). -/
def State.applyClose (s : State) (p : ProfileClose) : State :=
  if s.tagTaken p.tag p.serial then s.answerCode p.command .badArgument
  else
    let s := s.writeEntry { serial := p.serial, profile := p.profile, tag := p.tag }
    let r := s.slot p.slot
    let s := if r.gen = p.gen ∧ r.state ≠ .closing ∧ r.state ≠ .free then s.changeProfile p.slot p.profile else s
    s.answerCode p.command .done

/-- PROFILE_CLOSE_ANSWER (R42): the oldest outstanding close is answered; no entry gives BUSY and changes nothing. -/
def execProfileCloseAnswer (s : State) : Result :=
  match s.enrol.closes with
  | [] => .next s
  | p :: ps =>
    let s := s.modEnrol fun k => { k with closes := ps }
    .next (if p.closed then s.applyClose p else s.answerCode p.command .busy)

/-- UNPROVISION (R43). -/
def execUnprovision (s : State) : Result :=
  match s.takeCommand 2 with
  | none => .next s
  | some (c, s) =>
    if (s.entryOf c.serial).isNone then .next (s.answerCode c .notFound)
    else if (s.holder c.serial).isSome then .next (s.answerCode c .inUse)
    else
      .next ((s.modEnrol fun k => { k with provision := k.provision.filter (·.serial != c.serial) }).answerCode c .done)

/-- READ_STRANGERS (R45): the number of entries and up to 5 of them from the first index. -/
def execReadStrangers (s : State) : Result :=
  match s.takeCommand 6 with
  | none => .next s
  | some (c, s) =>
    let k := fieldNat c.args 0 1
    if 15 < k then .next (s.answerCode c .badArgument)
    else
      .next (s.answer c .done
        (be 1 s.enrol.strangers.length ++ ((s.enrol.strangers.drop k).take 5).flatMap Stranger.bytes))

/-- FORGET_STRANGERS (R45). -/
def execForgetStrangers (s : State) : Result :=
  match s.takeCommand 7 with
  | none => .next s
  | some (c, s) => .next ((s.modEnrol fun k => { k with strangers := [] }).answerCode c .done)

end Sys2Proof.Machine
end

