-- ==== Sys2Proof/Machine/Grant.lean ====
section
/-! DEFINITION. Machine/Grant.lean: the grant scheduler of chapter 4: the window planner's build for a round, the fill
reports, the stages of the plan builder, and what the planner does when a bound round passes or the watch escalates
(R63 to R81). -/

namespace Sys2Proof.Machine

/-! ### Spans (R63) -/

def Spans.none : Spans := { rollHead := false, rollTail := false, window := false, echoes := [] }

/-- The start offset of the lowest of the two large tail spans, 2,048 without one (R63). -/
def Spans.base (p : Spans) : Nat :=
  if p.rollTail then Config.rollTailStart else if p.window then Config.windowStart else Config.roundTicks

/-- The tail start: the narrow echo spans stand 16 ticks each below the base (R63). -/
def Spans.tailStart (p : Spans) : Nat := p.base - 16 * p.echoes.length

/-- The head end (R63). -/
def Spans.headEnd (p : Spans) : Nat := if p.rollHead then Config.rollHeadEnd else 0

/-- The ticks left for bursts: Q0 (R63, R73). -/
def Spans.freeTicks (p : Spans) : Nat := p.tailStart - p.headEnd

/-- The plan of a round with no burst and no span (R3). -/
def Plan.empty (n : Round) : Plan := { round := n, entries := [], spans := .none }

/-! ### The window planner's build (R65 to R67) -/

/-- The spans already promised to round `n` (R65). -/
def Scheduler.promised (d : Scheduler) (n : Round) : Spans :=
  match d.rollProgress with
  | none => .none
  | some p => { Spans.none with rollTail := p.tail == n, rollHead := p.head == n }

/-- The tree watch states in which windows are granted and roll calls are not (R65, R67). -/
def WatchState.searching : WatchState → Bool
  | .confirming | .locating | .foreignLight => true
  | .clear | .alert => false

/-- The watch told that a window lies in round `n`: assigned to the open test until that has all its windows (R65,
R107). -/
def Watch.window (w : Watch) (n : Round) : Watch :=
  { w with test := w.test.map fun t => if t.rounds.length < t.want then { t with rounds := t.rounds ++ [n] } else t }

/-- The watch window of round `n` reserved, if it can be: the wanted count falls and the request is removed at 0
(R65). -/
def State.reserveWindow (s : State) (n : Round) (p : Spans) : State × Spans :=
  match s.sched.watchReq with
  | none => (s, p)
  | some k =>
    if s.watch.state.searching && !p.rollTail then
      ((s.modSched fun d => { d with watchReq := if k ≤ 1 then none else some (k - 1) }).modWatch (·.window n),
        { p with window := true })
    else (s, p)

/-- The rank of an echo request (R66). -/
def EchoPurpose.rank : EchoPurpose → Nat
  | .assign => 0
  | .resume => 1
  | .check => 2

/-- Whether request `a` is considered before `b`: rank, then the earlier arrival round, then the lower slot (R66). -/
def EchoRequest.before (a b : EchoRequest) : Bool :=
  if a.purpose.rank != b.purpose.rank then a.purpose.rank < b.purpose.rank
  else if a.arrival != b.arrival then later b.arrival a.arrival
  else a.slot < b.slot

/-- The request considered first of a list. -/
def firstRequest (qs : List EchoRequest) : Option EchoRequest :=
  qs.foldl (fun best q => match best with
    | none => some q
    | some b => if q.before b then some q else some b) none

/-- Whether a held request can be granted in the build of round `n` (R66). -/
def State.grantable (s : State) (n : Round) (q : EchoRequest) : Bool :=
  !(s.slot q.slot).hushed && (q.earliest.map fun e => !later e n).getD true

/-- The ASSIGN or ECHO entry of a slot and generation. -/
def OrderEntry.exchangeOf (i : SlotId) (g : Gen) (e : OrderEntry) : Bool :=
  e.target == some (i, g) && e.body.needsSpan && !e.body.isRoll

/-- One narrow echo span granted in round `n`, if a request can take it: the request removed, the waiting order bound or
the requester told that none was waiting (R15, R66). -/
def State.grantEcho (n : Round) (r : State × Spans) : State × Spans :=
  match firstRequest (r.1.sched.echoReqs.filter (r.1.grantable n)) with
  | none => r
  | some q =>
    let start := r.2.tailStart - 16
    let s := r.1.modSched fun d => { d with echoReqs := d.echoReqs.filter (·.slot != q.slot) }
    let b := s.tree.bind (·.exchangeOf q.slot q.gen) n start
    let span : EchoSpan := { slot := q.slot, gen := q.gen, start := start }
    (if b.2 then s.modTree fun _ => b.1 else s.askAgain q.slot, { r.2 with echoes := r.2.echoes ++ [span] })

/-- Whether a roll call is granted in a build (R67). -/
def State.rollGrantable (s : State) : Bool :=
  s.sched.rollReq && s.sched.rollProgress.isNone && s.sched.watchReq.isNone && s.tree.state == .lit
    && !s.watch.state.searching

/-- The engine's ROLL found no entry waiting at the grant: it is offered again (R15, R47). -/
def State.rollUnbound (s : State) : State :=
  s.modRoll fun r => if r.phase = .requested then { r with offerDue := true } else r

/-- The roll-call grant for downstream round `n` (R67): tail and head promised, the request removed, the ROLL bound.
With no ROLL waiting nothing is promised and the engine is told (R15, log entry 32). -/
def State.grantRoll (s : State) (n : Round) : State :=
  if s.rollGrantable then
    let b := s.tree.bind (·.body.isRoll) n Config.rollTailStart
    if b.2 then
      (s.modTree fun _ => b.1).modSched fun d =>
        { d with rollReq := false, rollProgress := some { down := n, tail := n + 1, head := n + 2, sent := false } }
    else (s.modSched fun d => { d with rollReq := false }).rollUnbound
  else s

/-! ### Withdrawals (R15, R68) -/

/-- The grant of an unsent ROLL withdrawn: the promises cancelled, the ROLL unbound, and the engine's request renewed
(R68). -/
def State.withdrawRoll (s : State) : State :=
  match s.sched.rollProgress with
  | none => s
  | some p =>
    if p.sent then s
    else
      ((s.modSched fun d => { d with rollProgress := none }).modTree (·.unbindWhere (·.body.isRoll))).askRollAgain

/-- The slots whose ASSIGN or ECHO is bound to round `n` and was not sent. -/
def TreePort.unsentSlots (t : TreePort) (n : Round) : List SlotId :=
  (t.urgent.filter fun e => e.boundTo n && !e.waiting).filterMap fun e => e.target.map (·.1)

/-- The bindings to round `n` that its order slots did not send are lost, and their requesters ask for a span again
(R15, R47, R56, R68). -/
def State.passBindings (s : State) (n : Round) : State :=
  let slots := s.tree.unsentSlots n
  let s := match s.sched.rollProgress with
    | some p => if p.down = n ∧ p.sent = false then s.withdrawRoll else s
    | none => s
  slots.foldl State.askAgain (s.modTree (·.unbindWhere (·.boundTo n)))

/-! ### Demand (R71, R74) -/

/-- A fill report taken (R71). -/
def State.takeFill (s : State) (i : SlotId) (g : Gen) (fill : Nat) (n : Round) : State :=
  if (s.slot i).gen = g ∧ (((s.demand i).report).map fun r => later n r).getD true = true then
    s.modDemand i fun d => { d with fill := fill, report := some n }
  else s

/-- The payload ticks granted and not yet accounted for: O (R74). -/
def Demand.outstanding (d : Demand) : Nat :=
  match d.report with
  | none => 0
  | some r => ((d.history.filter fun g => later g.round r).map (·.payload)).sum

/-- The demand D of a slot with ceiling M (R74). -/
def Demand.ticks (d : Demand) (ceiling : Nat) : Nat := min ceiling ((d.fill + 15) / 16 - d.outstanding)

/-! ### The burst set and overhead (R73, R75, R76) -/

/-- A burst in the making: its slot, demand D after R77's first sentence, assured rate A, and the ticks given so far. -/
structure Share where
  slot : SlotId
  want : Nat
  rate : Nat
  assured : Nat
  surplus : Nat
deriving DecidableEq, Repr

/-- The slots in the rotation order of a build (R73). -/
def rotationOrder (p : SlotId) : List SlotId :=
  (allSlots.filter fun i => p ≤ i) ++ allSlots.filter fun i => i < p

/-- The poll test (R75). -/
def Demand.pollDue (d : Demand) (poll : Nat) (n : Round) : Bool :=
  match d.lastBurst with
  | none => true
  | some l => poll ≤ since n l

/-- The burst of a slot in the plan of round `n`, if it has one (R75); `want` is 0 for a report-only burst (R77). -/
def State.burstOf (s : State) (n : Round) (i : SlotId) : Option Share :=
  let r := s.slot i
  let want := (s.demand i).ticks r.ceiling
  let due := (s.demand i).pollDue s.config.poll n
  let share : Nat → Share := fun w => { slot := i, want := w, rate := r.assured, assured := 0, surplus := 0 }
  if r.hushed then none
  else
    match r.state with
    | .active => if 0 < want then some (share want) else if due then some (share 0) else none
    | .lost => if due then some (share 0) else none
    | .free | .assigning | .resuming | .barred | .closing => none

/-- Overhead admission: the first floor(Q0 / 3) bursts in rotation order (R76). -/
def admitted (q0 : Nat) (bs : List Share) : List Share := bs.take (q0 / 3)

/-! ### The assured and surplus stages (R77, R78) -/

/-- Ticks `q` shared by `want` (R77, R78): each its want when they fit; else the floor of its part, and what is left
given one tick at a time, in order, to those still below their want. -/
def scale (q total : Nat) (wants : List Nat) : List Nat :=
  if total ≤ q then wants else wants.map fun w => w * q / total

/-- The leftover pass: one tick to each share below its want, in order, until the leftover is used (R77, R78). -/
def leftoverPass : Nat → List (Nat × Nat) → List Nat
  | _, [] => []
  | k, (want, got) :: rest =>
    if 0 < k ∧ got < want then (got + 1) :: leftoverPass (k - 1) rest else got :: leftoverPass k rest

/-- One stage over the wants in rotation order (R77, R78). -/
def stage (q : Nat) (wants : List Nat) : List Nat :=
  let total := wants.sum
  let got := scale q total wants
  leftoverPass (if total ≤ q then 0 else q - got.sum) (wants.zip got)

/-- The assured stage over the admitted bursts: a' (R77). -/
def assuredStage (q1 : Nat) (bs : List Share) : List Share :=
  List.zipWith (fun b a => { b with assured := a }) bs (stage q1 (bs.map fun b => min b.want b.rate))

/-- The surplus stage: e (R78). -/
def surplusStage (q2 : Nat) (bs : List Share) : List Share :=
  List.zipWith (fun b e => { b with surplus := e }) bs (stage q2 (bs.map fun b => b.want - b.assured))

/-- The shares of the admitted bursts of a build with Q0 free ticks (R76 to R78). -/
def shareTicks (q0 : Nat) (bs : List Share) : List Share :=
  let bs := admitted q0 bs
  let q1 := q0 - 3 * bs.length
  let bs := assuredStage q1 bs
  surplusStage (q1 - (bs.map (·.assured)).sum) bs

/-! ### Placement and recording (R72, R79, R81) -/

/-- The admitted bursts laid end to end from an offset (R79). -/
def State.place (s : State) : Nat → List Share → List PlanEntry
  | _, [] => []
  | at_, b :: bs =>
    let payload := b.assured + b.surplus
    { slot := b.slot, gen := (s.slot b.slot).gen, start := at_, payload := payload, assured := b.assured }
      :: s.place (at_ + 3 + payload) bs

/-- A slot's demand state after a build: a history entry whether or not it has a burst, the oldest of four replaced, and
the last burst round (R72). -/
def Demand.planned (d : Demand) (n : Round) (e : Option PlanEntry) : Demand :=
  let g : Grant := { round := n, payload := (e.map (·.payload)).getD 0, assured := (e.map (·.assured)).getD 0 }
  { d with
    history := (if 4 ≤ d.history.length then d.history.drop 1 else d.history) ++ [g]
    lastBurst := if e.isSome then some n else d.lastBurst }

/-- The entries of a build of round `n` with these spans (R73 to R79). -/
def State.planEntries (s : State) (n : Round) (p : Spans) : List PlanEntry :=
  s.place p.headEnd (shareTicks p.freeTicks ((rotationOrder s.sched.rotation).filterMap (s.burstOf n)))

/-- The plan kept for its round, every slot's demand state written and the rotation advanced (R72, R73). -/
def Scheduler.planned (d : Scheduler) (p : Plan) : Scheduler :=
  { d with
    demand := Vector.ofFn fun i : SlotId => (d.demand.get i).planned p.round (p.entries.find? (·.slot == i))
    rotation := d.rotation + 1
    nextPlan := some p }

/-- The build of the plan for upstream round `n` (R73), while the tree port is LIT: the promised spans, the watch window,
up to two echo spans, the roll call, then the bursts. -/
def State.buildPlan (s : State) (n : Round) : State :=
  if s.tree.state = .lit then
    let w := s.reserveWindow n (s.sched.promised n)
    let e := State.grantEcho n (State.grantEcho n w)
    let s := e.1.grantRoll n
    s.modSched (·.planned { round := n, entries := s.planEntries n e.2, spans := e.2 })
  else s

end Sys2Proof.Machine
end

