-- ==== Sys2Proof/Machine/Downstream.lean ====
section
/-! DEFINITION. Machine/Downstream.lean: the downstream engine: ingress, the round payload scheduler, the end of a
transmission, and egress (R82 to R90, R94 to R96). -/

namespace Sys2Proof.Machine

/-! ### Ingress (R82, R83) -/

/-- The slot that a home tag leads to: provision entry, serial, holding slot (R82). -/
def State.slotOfTag (s : State) (tag : Half) : Option SlotId :=
  if badTag tag then none else (s.entryOfTag tag).bind fun e => s.holder e.serial

/-- Whether one of the three tests of R83 refuses a packet of `b` blocks for a slot. -/
def State.queueRefuses (s : State) (i : SlotId) (b : Nat) : Bool :=
  let held := packetBlocks (s.queue i).packets
  (s.slotProfile i).queueLimit < held + b || (s.down.pressure && 32 ≤ held) || s.down.free < b

/-- Blocks taken from the pool; the pressure mark is set when the free count is then below the low mark (R84). -/
def Downstream.allocate (d : Downstream) (low b : Nat) : Downstream :=
  { d with free := d.free - b, pressure := d.pressure || decide (d.free - b < low) }

/-- A packet accepted at the tail of its slot's queue (R83). -/
def State.enqueue (s : State) (i : SlotId) (content : List Byte) : State :=
  let low := s.config.poolLow
  (s.modQueue i fun q => { q with packets := q.packets ++ [content] }).modDown (·.allocate low (blocksOf content))

/-- A DROP update for a packet turned away at ingress, with the slot's present generation (R82, R83). -/
def State.dropPacket (s : State) (i : SlotId) (content : List Byte) : State :=
  s.offerUpdate i (s.slot i).gen .drop content.length 0

/-- PACKET_INGRESS (R82, R83): the packet decided by the first line of R82's table that applies. -/
def execPacketIngress (tag : Half) (content : List Byte) (s : State) : Result :=
  if content.length < 64 ∨ 2048 < content.length then .next s
  else
    match s.slotOfTag tag with
    | none => .next s
    | some i =>
      match (s.slot i).state with
      | .active | .resuming =>
        .next (if s.queueRefuses i (blocksOf content) then s.dropPacket i content else s.enqueue i content)
      | .free | .assigning | .lost | .barred | .closing =>
        .next (if (s.slot i).metered then s.dropPacket i content else s)

/-! ### The round payload scheduler (R86 to R89) -/

/-- A slot is served when it is ACTIVE and its queue is not empty (R86). -/
def State.served (s : State) (i : SlotId) : Bool := (s.slot i).state == .active && !(s.queue i).packets.isEmpty

/-- The quantum of a slot (R86). -/
def State.quantum (s : State) (i : SlotId) : Nat := 2048 * (s.slotProfile i).weight

/-- The served slot whose visit comes next: the first in ascending order from the pointer, wrapping (R87). -/
def State.nextVisit (s : State) : Option SlotId := (rotationOrder s.down.pointer).find? s.served

def State.setPointer (s : State) (i : SlotId) : State := s.modDown fun d => { d with pointer := i }

/-- Step 1 of a visit (R87). -/
def State.openVisit (s : State) (i : SlotId) : State :=
  let q := s.quantum i
  (s.setPointer i).modQueue i fun k => if k.held then { k with held := false } else { k with deficit := k.deficit + q }

/-- One packet taken into the payload: its DOWN update, its length off the deficit, the deficit 0 when it was the last
(R87 step 4, R89). -/
def State.takePacket (s : State) (i : SlotId) (content : List Byte) (rest : List (List Byte)) : State :=
  let s := s.modQueue i fun k =>
    { k with packets := rest, deficit := if rest.isEmpty then 0 else k.deficit - content.length }
  s.offerUpdate i (s.slot i).gen .down content.length 0

/-- The visits of one round (R87, R88): `visit` is the slot being visited. A step opens a visit, takes a packet, or ends
a visit or the round; the budget is tested before the deficit (log entry 33). A round takes at most 1,024 packets in at
most 1,153 visits, so the fuel of 4,096 is enough. -/
def State.visits : Nat → Option SlotId → Nat → State → State × List (SlotId × List Byte)
  | 0, _, _, s => (s, [])
  | fuel + 1, none, budget, s =>
    match s.nextVisit with
    | none => (s, [])
    | some i => State.visits fuel (some i) budget (s.openVisit i)
  | fuel + 1, some i, budget, s =>
    match (s.queue i).packets with
    | [] => State.visits fuel none budget (s.setPointer (i + 1))
    | p :: rest =>
      if budget < p.length then (s.modQueue i fun k => { k with held := true }, [])
      else if (s.queue i).deficit < p.length then State.visits fuel none budget (s.setPointer (i + 1))
      else
        let t := s.takePacket i p rest
        let r := if rest.isEmpty then State.visits fuel none (budget - p.length) (t.setPointer (i + 1))
          else State.visits fuel (some i) (budget - p.length) t
        (r.1, (i, p) :: r.2)

/-- Each maximal run of packets for one slot is one segment (R89). -/
def segmentsOf : List (SlotId × List Byte) → List Segment
  | [] => []
  | (i, p) :: rest =>
    match segmentsOf rest with
    | [] => [{ slot := i, packets := [p] }]
    | g :: gs => if g.slot = i then { g with packets := p :: g.packets } :: gs
      else { slot := i, packets := [p] } :: g :: gs

/-- The payload of a round composed; its blocks stay out of the pool until its transmission ends (R89). -/
def State.composePayload (s : State) : State × List Segment :=
  let r := State.visits 4096 none Config.roundBudget s
  (r.1.modDown fun d => { d with txBlocks := packetBlocks (r.2.map (·.2)) }, segmentsOf r.2)

/-- The blocks of the round in transmission returned, and no round in transmission (R89, R90). -/
def State.endTransmission (s : State) : State :=
  let high := s.config.poolHigh
  let b := s.down.txBlocks
  let s := s.modTree fun t => { t with txRound := none }
  if b = 0 then s else s.modDown fun d => { d.giveBack high b with txBlocks := 0 }

/-- ROUND_TRANSMISSION_END (R89). -/
def execRoundTransmissionEnd (s : State) : Result := .next s.endTransmission

/-! ### Egress (R96) -/

/-- The good packets of a burst sent to the network port with the home tag of the slot's serial (R96). -/
def State.forward (s : State) (i : SlotId) (packets : List (List Byte)) : State :=
  match ((s.slot i).serial).bind s.entryOf with
  | none => s
  | some e => s.modDown fun d => { d with egress := d.egress ++ packets.map fun p => { tag := e.tag, content := p } }

end Sys2Proof.Machine
end

