-- ==== Sys2Proof/Machine/Watch.lean ====
section
/-! DEFINITION. Machine/Watch.lean: the stray-light watch of chapter 6: samples and the baseline, guard and dark strikes,
the tree watch, windows, the locate and its verdicts, foreign light, and the retreat on DARK and TREE_RESTART (R97 to
R118). -/

namespace Sys2Proof.Machine

/-! ### Changes of the tree watch (R104, R105) -/

/-- The tree watch enters a state: the strike history is emptied on a return to CLEAR or ALERT from a search, the watch
request removed in CLEAR and ALERT, and an unsent roll call withdrawn on a search (R64, R68, R103, R104). -/
def State.enterWatch (s : State) (new : WatchState) : State :=
  let now := s.now
  let s := s.modWatch fun w =>
    { w with
      state := new, since := now, retestHeld := false
      history := if w.state.searching && !new.searching then [] else w.history }
  if new.searching then s.withdrawRoll else s.modSched fun d => { d with watchReq := none }

/-- A test of `n` windows opened: the watch request placed (R64, R107). -/
def State.openTest (s : State) (n : Nat) : State :=
  (s.modWatch fun w => { w with test := some { want := n, rounds := [], judged := 0, violated := 0 } }).modSched
    fun d => { d with watchReq := some n }

/-- Into CONFIRMING, with its test of four windows (R108). -/
def State.enterConfirming (s : State) : State := (s.enterWatch .confirming).openTest 4

/-- Evidence in CLEAR or ALERT leads to CONFIRMING, through ALERT from CLEAR (R105, R106). -/
def State.evidence (s : State) : State :=
  match s.watch.state with
  | .clear => (s.enterWatch .alert).enterConfirming
  | .alert => s.enterConfirming
  | .confirming | .locating | .foreignLight => s

/-- Whether some slot's hushed flag is set. -/
def State.anyHushed (s : State) : Bool := allSlots.any fun i => (s.slot i).hushed

/-- Whether some slot's wake-due flag is set. -/
def State.anyWakeDue (s : State) : Bool := allSlots.any fun i => (s.slot i).wakeDue

/-! ### The orders of a search (R110, R112, R115) -/

/-- One order of the watch offered to the urgent lane; the hushed flag is set when a HUSH is accepted (R115). -/
def State.offerWatchOrder (s : State) (w : WatchOrder) : State :=
  match w.seq with
  | some _ => s
  | none =>
    let o := s.offerOrder .urgent (if w.hush then .hush else .wake .watch) (some (w.slot, w.gen))
    match o.2 with
    | .accepted q =>
      let t := o.1.modWatch fun v => { v with orders := replaceFirst w { w with seq := some q } v.orders }
      if w.hush then t.modSlot w.slot fun r => { r with hushed := true } else t
    | .refused | .abandoned => o.1
    | .completed =>
      let t := if w.hush then o.1 else o.1.modSlot w.slot fun r => { r with hushed := false }
      t.modWatch fun v => ({ v with orders := v.orders.erase w }).settleCheck

/-- Every order of the watch not yet accepted offered again (R110). -/
def State.offerWatchOrders (s : State) : State := s.watch.orders.foldl State.offerWatchOrder s

/-- HUSH for each member of a set whose hushed flag is clear (R110). -/
def State.hushOrders (s : State) (members : List (SlotId × Gen)) : List WatchOrder :=
  (members.filter fun c => !(s.slot c.1).hushed).map fun c => { slot := c.1, gen := c.2, hush := true, seq := none }

/-- WAKE for each slot outside a set whose hushed flag is set (R110, R112). That they are offered in ascending slot order,
and after the HUSHes of their step, is the model's choice, log entry 55. -/
def State.wakeOrders (s : State) (members : List (SlotId × Gen)) : List WatchOrder :=
  (allSlots.filter fun i => (s.slot i).hushed && !members.any (·.1 == i)).map fun i =>
    { slot := i, gen := (s.slot i).gen, hush := false, seq := none }

/-- A stage of the locate begun: the hushed set is made equal to `members` (R110, R111). -/
def State.beginStage (s : State) (cands : List (SlotId × Gen)) (stage : LocateStage) (members : List (SlotId × Gen)) :
    State :=
  let orders := s.hushOrders members ++ s.wakeOrders members
  (s.modWatch fun w =>
    ({ w with
      locate := some { cands := cands, stage := stage, settle := none }
      orders := orders }).settleCheck).offerWatchOrders

/-- The next step of a locate, or the final check of its last candidate (R110, R111). -/
def State.search (s : State) (cands : List (SlotId × Gen)) : State :=
  match cands with
  | [c] => s.beginStage cands .check1 [c]
  | _ =>
    let half := cands.take ((cands.length + 1) / 2)
    s.beginStage cands (.step half) half

/-- A locate that waited for the wake-due flags begins its first step or its final check (R109). -/
def State.startLocate (s : State) : State :=
  match s.watch.locate with
  | some l => if l.stage = .waitWakes ∧ s.anyWakeDue = false then s.search l.cands else s
  | none => s

/-! ### Verdicts (R112) -/

/-- UNLOCATED: FOREIGN_LIGHT raised with the last candidate or none, and WAKE for every hushed slot (R112). -/
def State.unlocated (s : State) (last : Option SlotId) : State :=
  let s := s.raise .foreignLight (be 1 ((last.map (·.val)).getD 255))
  let orders := s.wakeOrders []
  ((s.modWatch fun w => { w with locate := none, orders := orders }).enterWatch .foreignLight).offerWatchOrders

/-- LOCATED: a bar request STRAY for the candidate (R112). -/
def State.located (s : State) (c : SlotId × Gen) : State :=
  ((s.modWatch fun w => { w with locate := none, orders := [] }).enterWatch .clear).barRequest c.1 c.2 .stray

/-- INTERMITTENT (R112). -/
def State.intermittent (s : State) : State :=
  (s.modWatch fun w => { w with locate := none, orders := [] }).enterWatch .alert

/-- Entry to LOCATING with the candidate set: every slot in ACTIVE, LOST or ASSIGNING, ascending, each with its
generation; an empty set is UNLOCATED at once (R109). -/
def State.enterLocating (s : State) : State :=
  let cands := (allSlots.filter fun i => match (s.slot i).state with
    | .active | .lost | .assigning => true
    | .free | .resuming | .barred | .closing => false).map fun i => (i, (s.slot i).gen)
  let s := s.enterWatch .locating
  if cands.isEmpty then s.unlocated none
  else (s.modWatch fun w =>
    { w with locate := some { cands := cands, stage := .waitWakes, settle := none }, orders := [] }).startLocate

/-! ### The end of a test (R107, R108, R110, R111, R114) -/

/-- The outcome of the test of CONFIRMING (R108). -/
def State.confirmOutcome (s : State) (violated : Nat) : State :=
  if 3 ≤ violated then (s.raise .strayConfirmed (be 1 violated)).enterLocating else s.enterWatch .clear

/-- The outcome of a retest of FOREIGN_LIGHT (R114). -/
def State.retestOutcome (s : State) (violated : Nat) : State :=
  let now := s.now
  if violated = 0 then (s.enterWatch .clear).raise .lightClear []
  else s.modWatch fun w => { w with since := now }

/-- The candidates left by a step (R110 step 5). -/
def stepResult (cands half : List (SlotId × Gen)) (violated : Nat) : List (SlotId × Gen) :=
  if 0 < violated then cands.filter fun c => !half.contains c else half

/-- The search after a step: UNLOCATED when no candidate is left (R110). -/
def State.afterStep (s : State) (cands : List (SlotId × Gen)) : State :=
  if cands.isEmpty then s.unlocated none else s.search cands

/-- The outcome of a test of two windows in the locate (R110, R111). A final check whose candidate was removed is
UNLOCATED (R113, log entry 19). -/
def State.locateOutcome (s : State) (violated : Nat) : State :=
  match s.watch.locate with
  | none => s
  | some l =>
    match l.stage, l.cands with
    | .waitWakes, _ => s
    | .step half, cands => s.afterStep (stepResult cands half violated)
    | .check1, [c] => if violated = 0 then s.beginStage l.cands .check2 [] else s.unlocated (some c.1)
    | .check2, [c] => if violated = 0 then s.intermittent else s.located c
    | .check1, _ | .check2, _ => s.unlocated none

/-- A test ended, its outcome by the tree watch's state. -/
def State.testOutcome (s : State) (violated : Nat) : State :=
  let s := s.modWatch fun w => { w with test := none }
  match s.watch.state with
  | .confirming => s.confirmOutcome violated
  | .locating => s.locateOutcome violated
  | .foreignLight => s.retestOutcome violated
  | .clear | .alert => s

/-! ### Scoring a round (R101 to R105, R107) -/

/-- Guard samples of a round that are violations. -/
def RoundScore.guardViolations (c : RoundScore) : Nat := c.guards.countP (·.violation)

/-- A round is flooded when 3 or more, and at least half, of its guard samples are violations (R101). -/
def RoundScore.flooded (c : RoundScore) : Bool := 3 ≤ c.guardViolations && c.guards.length ≤ 2 * c.guardViolations

/-- A dark strike: 2 or more quiet violations, or a flooded round (R103). -/
def RoundScore.dark (c : RoundScore) : Bool := 2 ≤ c.quietViolations || c.flooded

/-- A strike count after one guard sample (R101). -/
def strikeCount (violation : Bool) (k : Nat) : Nat := if violation then min (k + 1) 15 else k - 1

/-- One guard sample scored on the slot before it; a rise to 8 is a bar request OVERRUN (R101, R102). -/
def State.strikeTail (s : State) (violation : Bool) (i : SlotId) (g : Gen) : State :=
  if (s.slot i).gen = g then
    let old := (s.strikes i).tail
    let new := strikeCount violation old
    let s := s.modStrikes i fun k => { k with tail := new }
    if old = 7 ∧ new = 8 then s.barRequest i g .overrun else s
  else s

/-- One guard sample scored on the slot after it; a rise to 8 is a re-echo request and the count 0 (R101, R102). -/
def State.strikeHead (s : State) (violation : Bool) (i : SlotId) (g : Gen) : State :=
  if (s.slot i).gen = g then
    let new := strikeCount violation (s.strikes i).head
    if 8 ≤ new then
      (s.modStrikes i fun k => { k with head := 0 }).modEnrol fun e => { e with reechoes := e.reechoes ++ [i] }
    else s.modStrikes i fun k => { k with head := new }
  else s

/-- One guard sample of a scored round (R101). -/
def State.scoreGuard (s : State) (c : GuardSample) : State :=
  let s := match c.before with
    | some (i, g) => s.strikeTail c.violation i g
    | none => s
  match c.after with
  | some (i, g) => s.strikeHead c.violation i g
  | none => s

/-- The newest 16 rounds of the strike history (R103). -/
def strikeHistory (h : List Bool) (dark : Bool) : List Bool := (dark :: h).take 16

/-- The evidence test: 3 or more dark strikes in the history (R105). -/
def Watch.evidenceHolds (w : Watch) : Bool := 3 ≤ w.history.countP id

/-- The round scored in CLEAR or ALERT: guard strikes unless flooded, the strike history, the evidence test (R101, R103,
R105). -/
def State.scoreRound (s : State) (c : RoundScore) : State :=
  let s := if c.flooded then s else c.guards.foldl State.scoreGuard s
  let now := s.now
  let s := s.modWatch fun w =>
    { w with history := strikeHistory w.history c.dark, since := if c.dark then now else w.since }
  if s.watch.evidenceHolds then s.evidence else s

/-- The window of round `n` judged for the open test, if it lies in it; the test ends with its last window (R107). -/
def State.judgeWindow (s : State) (n : Round) (c : RoundScore) : State :=
  match s.watch.test with
  | none => s
  | some t =>
    if t.rounds.contains n then
      let v := t.violated + (decide (2 ≤ c.windowViolations)).toNat
      if t.want ≤ t.judged + 1 then s.testOutcome v
      else s.modWatch fun w => { w with test := some { t with judged := t.judged + 1, violated := v } }
    else s

/-- The issued-plan record of a round discarded as its reception ends; the last eight such rounds are remembered (R7). -/
def TreePort.endReception (t : TreePort) (n : Round) : TreePort :=
  { t with issued := t.issued.drop 1, received := (n :: t.received).take 8 }

/-- ROUND_RECEPTION_END (R7, R101 to R107): the record discarded, the round scored, its window judged. -/
def execRoundReceptionEnd (s : State) : Result :=
  match s.reception with
  | none => .next s
  | some r =>
    let n := r.plan.round
    let c := s.watch.score
    let searching := s.watch.state.searching
    let s := (s.modTree (·.endReception n)).modWatch fun w => { w with score := .empty }
    .next (if searching then s.judgeWindow n c else s.scoreRound c)

/-! ### Samples (R2, R97 to R99) -/

/-- The baseline after a clean or violating sample, and whether it is a violation (R98). -/
def judgeSample (threshold tracking b16 count : Nat) : Nat × Bool :=
  let e : Int := (count : Int) - (b16 / 16 : Nat)
  if (threshold : Int) < e then (b16, true)
  else if e.natAbs ≤ tracking then (b16 - b16 / 16 + count, false)
  else if e < -(tracking : Int) then (((b16 : Int) + 4 * e).toNat, false)
  else (b16, false)

/-- A sample judged against the baseline (R98). -/
def State.judge (s : State) (count : Nat) : State × Bool :=
  let r := judgeSample s.config.threshold s.config.tracking s.watch.b16 count
  (s.modWatch fun w => { w with b16 := r.1 }, r.2)

/-- The offset at which the last planned burst of a plan ends, or the head end without one (R12). -/
def Plan.burstEnd (p : Plan) : Nat :=
  match p.entries.getLast? with
  | none => p.spans.headEnd
  | some e => e.start + e.length

/-- Whether a quiet sample is taken at an offset (R12). -/
def Plan.quietAt (p : Plan) (offset : Nat) : Bool :=
  offset % 32 == 0 && ((p.spans.window && decide (Config.windowStart ≤ offset))
    || (decide (p.burstEnd ≤ offset) && decide (offset < p.spans.tailStart)))

/-- The slot and generation of a plan entry. -/
def PlanEntry.home (e : PlanEntry) : SlotId × Gen := (e.slot, e.gen)

/-- A guard sample on burst `k` of the plan, with the bursts before and after it (R12, R97). -/
def State.guardSample (s : State) (p : Plan) (k : Nat) (count : Nat) : State :=
  match p.entries[k]? with
  | none => s
  | some e =>
    let before := if k = 0 then none else (p.entries[k - 1]?).map PlanEntry.home
    let r := s.judge count
    let sample : GuardSample := { violation := r.2, before := before, after := some e.home }
    r.1.modWatch fun w => { w with score := { w.score with guards := w.score.guards ++ [sample] } }

/-- A quiet sample at an offset; one inside a watch window is a window sample (R12, R97). -/
def State.quietSample (s : State) (p : Plan) (offset : Nat) (count : Nat) : State :=
  if p.quietAt offset then
    let r := s.judge count
    let inWindow := p.spans.window && decide (Config.windowStart ≤ offset)
    r.1.modWatch fun w =>
      { w with
        score :=
          { w.score with
            quietViolations := w.score.quietViolations + r.2.toNat
            windowViolations := w.score.windowViolations + (r.2 && inWindow).toNat } }
  else s

/-- LIGHT_SAMPLE (R12, R97, R98): a guard or quiet sample of the round in reception. -/
def execLightSample (place : SamplePlace) (count : BitVec 12) (s : State) : Result :=
  match s.reception with
  | none => .next s
  | some r =>
    match place with
    | .guard k => .next (s.guardSample r.plan k count.toNat)
    | .quiet offset => .next (s.quietSample r.plan offset.val count.toNat)

/-! ### Times of the watch (R105, R110, R114) -/

/-- LOCATE_ORDERS_SETTLED (R110): the 4 round starts have passed, and a test of two windows is opened. -/
def execLocateOrdersSettled (s : State) : Result :=
  match s.watch.locate with
  | none => .next s
  | some l => .next (if l.settle = some 0 ∧ s.watch.test = none then s.openTest 2 else s)

/-- ALERT_EXPIRY (R105): 240,000 rounds since the entry to ALERT or the last dark strike. -/
def execAlertExpiry (s : State) : Result :=
  .next (if s.watch.state = .alert ∧ Config.minuteRounds ≤ since s.now s.watch.since then s.enterWatch .clear else s)

/-- FOREIGN_LIGHT_RETEST (R114): 120,000 rounds after the entry or the last retest's end a retest begins; with a hushed
flag then set it is held for the first round start after the last flag clears. -/
def execForeignLightRetest (s : State) : Result :=
  .next (if s.watch.state = .foreignLight ∧ s.watch.test = none ∧ s.watch.retestHeld = false
      ∧ Config.retestRounds ≤ since s.now s.watch.since then
    if s.anyHushed then s.modWatch fun w => { w with retestHeld := true } else s.openTest 4
  else s)

/-- A held retest begun at a round start that finds no hushed flag set (R114). -/
def State.beginHeldRetest (s : State) : State :=
  if s.watch.retestHeld = true ∧ s.anyHushed = false then
    (s.modWatch fun w => { w with retestHeld := false }).openTest 4
  else s

/-- The round starts still to be let pass in a stage (R110 step 3). -/
def Watch.countSettle (w : Watch) : Watch :=
  { w with locate := w.locate.map fun l => { l with settle := l.settle.map (· - 1) } }

/-! ### Wake-due (R117) -/

/-- A WAKE offered to the normal lane for a slot whose wake-due flag is set and that has no such WAKE in a lane (R117). -/
def State.offerWakeDue (s : State) (i : SlotId) : State :=
  if s.tree.normal.any fun e => e.isFor i && e.body == .wake .wakeDue then s
  else
    let o := s.offerOrder .normal (.wake .wakeDue) (some (i, (s.slot i).gen))
    match o.2 with
    | .completed => o.1.modSlot i fun r => { r with wakeDue := false }
    | .accepted _ | .refused | .abandoned => o.1

/-! ### DARK and TREE_RESTART (R118) -/

/-- A slot's hushed flag turned into wake-due (R118). -/
def State.hushedToWake (s : State) (i : SlotId) : State := s.modSlot i fun r => { r with hushed := false, wakeDue := true }

/-- The watch on entry to DARK and on TREE_RESTART: search and test ended, hushed flags turned into wake-due, counts and
history emptied, CLEAR without an alert (R118). -/
def State.watchRetreat (s : State) : State :=
  let s := s.forSlots (fun i => (s.slot i).hushed) State.hushedToWake
  (s.modWatch fun w =>
    { w with
      locate := none, test := none, orders := [], score := .empty, history := []
      counts := Vector.replicate 128 { tail := 0, head := 0 } }).enterWatch .clear

end Sys2Proof.Machine
end

