-- ==== Sys2Proof/Machine/Metering.lean ====
section
/-! DEFINITION. Machine/Metering.lean: the consumption of meter updates, the scrub pass, and what the metering engine does
at a step of district time and a change of the time state (R121, R124, R125, R128, R135). -/

namespace Sys2Proof.Machine

/-- Whether a consumed entry is discarded: another generation, FINAL_OWED, or NONE while the slot is not metered (R121). -/
def State.updateDiscarded (s : State) (u : MeterUpdate) : Bool :=
  (s.slot u.slot).gen != u.gen || (s.ctx u.slot).state == .finalOwed
    || ((s.ctx u.slot).state == .none && !(s.slot u.slot).metered)

/-- An entry credited to the tally of its band, and the overflow accumulator folded after it (R121, log entry 28). -/
def State.creditUpdate (s : State) (u : MeterUpdate) : State :=
  if s.updateDiscarded u then s
  else ((s.ensureOpen u.slot).credit u.slot u.band (updateCounts u.kind u.bytes u.assured)).fold u.slot

/-- METER_UPDATE_CONSUME (R121): the oldest entry leaves the queue, the consumed count rises, and it is credited. -/
def execMeterUpdateConsume (s : State) : Result :=
  match s.meter.queue with
  | [] => .next s
  | u :: us => .next ((s.modMeter fun m => { m with queue := us, consumed := m.consumed + 1 }).creditUpdate u)

/-- Whether the scrub pass reads a context (R124). -/
def CtxState.scrubbed : CtxState → Bool
  | .opened | .owed | .draining => true
  | .none | .finalOwed => false

/-- SCRUB_PASS (R124): once a second every tally of the contexts in OPEN, OWED and DRAINING is read, slots and bands
ascending. -/
def execScrubPass (s : State) : Result :=
  if Config.secondRounds ≤ s.meter.scrubCount then
    let s := s.modMeter fun m => { m with scrubCount := m.scrubCount % Config.secondRounds }
    .next (s.forSlots (fun i => (s.ctx i).state.scrubbed) State.checkTallies)
  else .next s

/-- A context with marks rewritten. -/
def Context.marked (c : Context) (f : Marks → Marks) : Context := { c with marks := f c.marks }

/-- Every slot's time-stepped mark set (R135). -/
def Meter.stepMarks (m : Meter) : Meter := { m with ctx := m.ctx.map (·.marked fun k => { k with stepped := true }) }

/-- The provisional mark of every context not in NONE set, on entry of time to COASTING (R135). -/
def Meter.coastMarks (m : Meter) : Meter :=
  { m with ctx := m.ctx.map fun c => if c.state = .none then c else c.marked fun k => { k with provisional := true } }

/-- A step of district time to a new value: the marks of all slots, the band, and after a step back the next boundary
(R125, R128, R135, R193). A step is back when the new count is below the old, so that a step forward which wraps past 2^48
counts as one back: the model's choice, log entry 58. -/
def State.stepTime (s : State) (t : DTime) : State :=
  let back := t.toNat < s.clock.time.toNat
  let s := ((s.modClock fun c => { c with time := t }).modMeter Meter.stepMarks).reevaluateBand
  let b := boundaryAfter s.config t
  if back then s.modMeter fun m => { m with nextBoundary := m.nextBoundary.map fun _ => b } else s

end Sys2Proof.Machine
end

