-- ==== Sys2Proof/Machine/Publish.lean ====
section
/-! DEFINITION. Machine/Publish.lean: the journal manager's publication, acknowledgement and go-back (R142 to R150). -/

namespace Sys2Proof.Machine

/-- The record of entry P, the oldest UNSENT one (R138). -/
def Journal.nextRecord (j : Journal) : Option UsageRecord := if 0 < j.unsent then j.records[j.sent]? else none

/-- The USAGE frame of entry P offered; when it is taken the frame in hand is P (R142). -/
def State.offerUsage (s : State) : State :=
  match s.journal.inHand, s.journal.nextRecord with
  | none, some r =>
    match s.link.offer (.usage r) with
    | (l, true) => (s.modLink fun _ => l).modJournal fun j => { j with inHand := some j.publish }
    | (_, false) => s
  | _, _ => s

/-- The pacing tick, when it falls: once every pacing interval from the end of start-up the frame of P is offered (R142). -/
def State.pacingTick (s : State) : State :=
  if s.clock.phase = .running ∧ 4 * s.config.pacing ≤ s.journal.pacing then
    let interval := 4 * s.config.pacing
    (s.modJournal fun j => { j with pacing := j.pacing % interval }).offerUsage
  else s

/-- PACING_TICK (R142). -/
def execPacingTick (s : State) : Result := .next s.pacingTick

/-- The sent report of a USAGE frame (R143): the frame in hand cleared, and P advanced when it matches, with the ack
timer started from a sent count of 0 (R147). -/
def Journal.reportSent (j : Journal) (q : Seq) : Journal :=
  let j := { j with inHand := none }
  if q = j.publish then
    { j with publish := j.publish + 1, ackTimer := if j.sent = 0 then some 0 else j.ackTimer }
  else j

/-- The abandoned report of a USAGE frame (R143). -/
def Journal.reportAbandoned (j : Journal) : Journal := { j with inHand := none }

/-- Whether the manager takes a USAGE_ACK (R144). -/
def State.takesAck (s : State) (a : AckFrame) : Bool :=
  a.source == BitVec.ofNat 8 s.config.collector && a.dest == s.station && a.runMark == s.journal.runMark

/-- How many entries an acknowledgement of `q` frees (R145). -/
def Journal.ackFrees (j : Journal) (q : Seq) : Nat :=
  let d := (q - j.oldest).toInt
  if d < 0 then 0 else min (d.toNat + 1) j.sent

/-- The oldest `k` entries freed, with the ack timer and the near-full mark (R145). -/
def Journal.free (j : Journal) (k : Nat) : Journal :=
  let oldest := j.oldest + BitVec.ofNat 32 k
  let j := { j with records := j.records.drop k, oldest := oldest }
  { j with
    ackTimer := if j.sent = 0 then none else some 0
    nearFull := j.nearFull && decide (Config.nearFull ≤ j.held) }

/-- A USAGE_ACK that is taken (R145): entries freed are reported to the metering engine, which serves owed closes
(R130, R149). -/
def State.acknowledge (s : State) (q : Seq) : State :=
  let k := s.journal.ackFrees q
  if k = 0 then s else (s.modJournal (·.free k)).entriesFreed

/-- USAGE_ACK (R144, R145): the oldest one handed over is taken or ignored. -/
def execUsageAck (s : State) : Result :=
  match s.journal.acks with
  | [] => .next s
  | a :: as =>
    let s := s.modJournal fun j => { j with acks := as }
    .next (if s.takesAck a then s.acknowledge a.seq else s)

/-- ACK_TIMEOUT (R147): the timer of 2 s has run out with SENT entries: P is set to O and the timer stopped. -/
def execAckTimeout (s : State) : Result :=
  match s.journal.ackTimer with
  | none => .next s
  | some k =>
    .next (if Config.ackRounds ≤ k ∧ 0 < s.journal.sent then
        s.modJournal fun j => { j with publish := j.oldest, ackTimer := none }
      else s)

end Sys2Proof.Machine
end

