-- ==== Sys2Proof/Machine/Claims.lean ====
section
/-! DEFINITION. Machine/Claims.lean: the district roster and quarantine: the frames it takes, the contest rule, its timers
and the frames it offers (R167 to R180). -/

namespace Sys2Proof.Machine

/-! ### Claims of this station (R167, R168) -/

/-- A slot is heard when it is ACTIVE and its last-heard round is one of the last 8 upstream rounds whose reception has
ended (R167, log entry 30). -/
def State.heard (s : State) (i : SlotId) : Bool :=
  (s.slot i).state == .active && ((s.slot i).lastHeard.map s.tree.received.contains).getD false

/-- The claim-due mark of a slot set at its present generation (R167). -/
def State.markClaim (s : State) (i : SlotId) : State := s.setClaimDue i (some (s.slot i).gen)

/-- The slot states that claim (R167, R168). -/
def SlotState.claims : SlotState → Bool
  | .active | .lost | .barred => true
  | .free | .assigning | .resuming | .closing => false

/-- CLAIM_REFRESH (R168): every 60 s the claim-due mark of every slot in ACTIVE, LOST or BARRED is set. -/
def execClaimRefresh (s : State) : Result :=
  if Config.minuteRounds ≤ s.roster.refresh then
    let s := s.modRoster fun r => { r with refresh := r.refresh % Config.minuteRounds }
    .next (s.forSlots (fun i => (s.slot i).state.claims) State.markClaim)
  else .next s

/-! ### The roster (R171 to R174) -/

/-- The contested flag of the slot that holds a serial, written on an insert or removal of an entry (R174). -/
def State.updateContested (s : State) (x : Serial) : State :=
  match s.holder x with
  | none => s
  | some i =>
    let c := s.foreignClaim x
    s.modSlot i fun r => { r with contested := c }

/-- The entry with the oldest last-heard time, the one inserted earlier of equals (R172). -/
def oldestClaim (now : Round) (cs : List Claim) : Option Claim :=
  cs.foldl (fun best c => match best with
    | none => some c
    | some b => if since now b.lastHeard < since now c.lastHeard then some c else some b) none

/-- One entry removed when the roster holds 1,024, with its effect on the contested flag (R172, R174). -/
def State.evictClaim (s : State) : State :=
  if 1024 ≤ s.roster.claims.length then
    match oldestClaim s.now s.roster.claims with
    | none => s
    | some c => (s.modRoster fun r => { r with claims := r.claims.erase c }).updateContested c.serial
  else s

/-- A CLAIM recorded: refreshed or inserted; the second part tells an insert (R172). -/
def State.recordClaim (s : State) (x : Serial) (p : Byte) (t : DTime) : State × Bool :=
  let now := s.now
  if s.roster.claims.any fun c => c.serial == x && c.holder == p then
    (s.modRoster fun r =>
      { r with claims := r.claims.map fun c =>
          if c.serial = x ∧ c.holder = p then { c with time := t, lastHeard := now } else c }, false)
  else
    let c : Claim := { serial := x, holder := p, time := t, lastHeard := now }
    ((s.evictClaim.modRoster fun r => { r with claims := r.claims ++ [c] }).updateContested x, true)

/-- Whether the local pair loses: the later claim time, and of equal times the higher station number (R175). -/
def localLoses (localTime foreignTime : DTime) (localStation foreignStation : Byte) : Bool :=
  foreignTime.toNat < localTime.toNat || (foreignTime == localTime && foreignStation.toNat < localStation.toNat)

/-- A decision sent to the home table manager (R176). -/
def State.decide (s : State) (d : Decision) : State := s.modRoster fun r => { r with decisions := r.decisions ++ [d] }

/-- The contest rule for a recorded CLAIM and the slot that holds its serial (R175). -/
def State.contest (s : State) (i : SlotId) (x : Serial) (p : Byte) (t : DTime) (standing inserted : Bool) : State :=
  match (s.slot i).state with
  | .lost | .resuming => s.decide { serial := x, kind := .moved }
  | .active =>
    if s.heard i then
      if standing && localLoses (((s.slot i).claimTime).getD 0) t s.station p then
        s.decide { serial := x, kind := .clone p }
      else if inserted then s.markClaim i
      else s
    else s
  | .free | .assigning | .closing | .barred => s

/-- A CLAIM taken from a peer (R172, R175). -/
def State.takeClaim (s : State) (p : Byte) (x : Serial) (t : DTime) (standing : Bool) : State :=
  let r := s.recordClaim x p t
  match r.1.holder x with
  | none => r.1
  | some i => r.1.contest i x p t standing r.2

/-- A RELEASE taken from a peer (R173). -/
def State.takeRelease (s : State) (p : Byte) (x : Serial) : State :=
  if s.roster.claims.any fun c => c.serial == x && c.holder == p then
    (s.modRoster fun r =>
      { r with claims := r.claims.filter fun c => !(c.serial == x && c.holder == p) }).updateContested x
  else s

/-- Whether an entry has aged out (R173). -/
def Claim.aged (c : Claim) (now : Round) : Bool := Config.ageingRounds ≤ since now c.lastHeard

/-- ROSTER_AGEING (R173): every entry of 180 s or more is removed, with its effect on the contested flag (R174). -/
def execRosterAgeing (s : State) : Result :=
  let now := s.now
  let gone := s.roster.claims.filter (·.aged now)
  .next (gone.foldl (fun s c => s.updateContested c.serial)
    (s.modRoster fun r => { r with claims := r.claims.filter fun c => !c.aged now }))

/-! ### Quarantine (R177 to R180) -/

/-- A BAR taken from a peer (R179). -/
def State.takeBar (s : State) (p : Byte) (x : Serial) (reason : BarReason) (t : DTime) : State :=
  let q : Quarantine := { serial := x, reason := reason, origin := p, time := t }
  let own := s.station
  if (s.holder x).isSome then s
  else
    s.modRoster fun r =>
      match r.quarantine.find? (·.serial == x) with
      | none => r.quarantineAdd own q
      | some e =>
        if e.origin = own then r
        else { r with quarantine := r.quarantine.map fun k => if k.serial = x then q else k }

/-- An UNBAR from the controller (R180). -/
def State.takeUnbar (s : State) (x : Serial) : State :=
  (s.modRoster fun r =>
    { r with
      quarantine := r.quarantine.filter (·.serial != x)
      bars := r.bars.filter (·.serial != x) }).decide { serial := x, kind := .unbar }

/-- The BAR of a quarantine entry (R178). -/
def Quarantine.bar (q : Quarantine) : PendingBar := { serial := q.serial, reason := q.reason, time := q.time }

/-- BAR_REBROADCAST (R178): every 300 s every local entry is placed on the pending bar list, in the order of the quarantine
list (log entry 44). -/
def execBarRebroadcast (s : State) : Result :=
  if Config.rebroadcastRounds ≤ s.roster.rebroadcast then
    let own := s.station
    .next (s.modRoster fun r =>
      (r.quarantine.filter (·.origin == own)).foldl (fun r q => r.placeBar q.bar)
        { r with rebroadcast := r.rebroadcast % Config.rebroadcastRounds })
  else .next s

/-! ### Offers (R170) -/

/-- Messages offered oldest first until one is refused: what is left, and the link (R170). -/
def offerAll {α : Type} (frame : α → Message) : List α → Link → List α × Link
  | [], l => ([], l)
  | a :: as, l =>
    match l.offer (frame a) with
    | (l', true) => offerAll frame as l'
    | (_, false) => (a :: as, l)

/-- The BAR frame of a pending bar. -/
def PendingBar.frame (b : PendingBar) : Message := .bar b.serial b.reason b.time

/-- The pending BARs offered; whether all were taken. -/
def State.offerBars (s : State) : State × Bool :=
  let r := offerAll PendingBar.frame s.roster.bars s.link
  ((s.modLink fun _ => r.2).modRoster fun k => { k with bars := r.1 }, r.1.isEmpty)

/-- The pending RELEASEs offered; whether all were taken. -/
def State.offerReleases (s : State) : State × Bool :=
  let r := offerAll Message.release s.roster.releases s.link
  ((s.modLink fun _ => r.2).modRoster fun k => { k with releases := r.1 }, r.1.isEmpty)

/-- The CLAIM of a marked slot, if it passes the check of R167. -/
def State.claimOf (s : State) (i : SlotId) : Option Message :=
  if (s.slot i).state.claims && s.claimDue i == some (s.slot i).gen then
    some (.claim (((s.slot i).serial).getD 0) (((s.slot i).claimTime).getD 0) (s.heard i))
  else none

/-- The CLAIMs of marked slots offered in ascending order; a mark whose slot fails the check is cleared, and the first
refusal stops (R167, R170). A refused CLAIM is kept as its mark and composed anew at the next offer (log entry 43). -/
def State.offerClaims : List SlotId → State → State
  | [], s => s
  | i :: is, s =>
    match s.claimOf i with
    | none => State.offerClaims is (s.setClaimDue i none)
    | some m =>
      match s.link.offer m with
      | (l, true) => State.offerClaims is ((s.modLink fun _ => l).setClaimDue i none)
      | (_, false) => s

/-- The roster's offers at a round start: BARs, RELEASEs, then CLAIMs (R170). -/
def State.offerRoster (s : State) : State :=
  let b := s.offerBars
  if b.2 then
    let r := b.1.offerReleases
    if r.2 then State.offerClaims (allSlots.filter fun i => (r.1.claimDue i).isSome) r.1 else r.1
  else b.1

end Sys2Proof.Machine
end

