-- ==== Sys2Proof/Machine/District.lean ====
section
/-! DEFINITION. Machine/District.lean: district time: its advance, the time state, beacons, peer offsets and the second
tick (R189 to R193). -/

namespace Sys2Proof.Machine

/-- One round of district time: the fraction advances by 250,000 ns plus the trim, and each whole million carried out
adds 1 to the count (R189). -/
def Clock.advance (c : Clock) : Clock :=
  let f := (250000 + c.trim + (c.frac : Int)).toNat
  { c with time := c.time + BitVec.ofNat 48 (f / 1000000), frac := f % 1000000 }

/-- District time advanced by a round; a change of the minute of day re-evaluates the band (R125, R189, R193). -/
def State.advanceTime (s : State) : State :=
  let t := s.modClock Clock.advance
  if minuteOf t.clock.time = minuteOf s.clock.time then t else t.reevaluateBand

/-- A change of the time state, told to the metering engine (R125, R190). -/
def State.enterTime (s : State) (new : TimeState) : State :=
  let s := s.modClock fun c => { c with state := new, trim := if new = .coasting then 0 else c.trim }
  (if new = .coasting then s.modMeter Meter.coastMarks else s).reevaluateBand

/-! ### Beacons (R191) -/

/-- A beacon offered to the transmit queue with the time state of the offer, which the frame keeps once it is taken;
refused, it waits (R191, log entry 49). -/
def State.offerBeacon (s : State) : State :=
  match s.link.offer (.time s.clock.state) with
  | (l, true) => (s.modLink fun _ => l).modClock fun c => { c with beacon := .queued }
  | (_, false) => s.modClock fun c => { c with beacon := .waiting }

/-- A waiting beacon offered again at a round start, composed anew with the present time state (R191, log entry 49). -/
def State.offerWaitingBeacon (s : State) : State := if s.clock.beacon = .waiting then s.offerBeacon else s

/-! ### Corrections (R192, R193) -/

/-- An integer put in its place in an ascending list. -/
def insertAscending (x : Int) : List Int → List Int
  | [] => [x]
  | y :: ys => if x ≤ y then x :: y :: ys else y :: insertAscending x ys

/-- Offsets sorted ascending. -/
def ascending (xs : List Int) : List Int := xs.foldl (fun l x => insertAscending x l) []

/-- The median: index floor((k - 1) / 2) of the sorted offsets (R193). -/
def median (xs : List Int) : Int := ((ascending xs)[(xs.length - 1) / 2]?).getD 0

/-- Whether an entry of the peer offset table is stale (R192). -/
def PeerOffset.stale (p : PeerOffset) (now : Round) : Bool := Config.staleRounds ≤ since now p.round

/-- A step of district time by `m` (R193): the count moved and the fraction kept, both 0 when the result would be
negative; the trim 0, and every offset reduced by `m`. -/
def State.stepBy (s : State) (m : Int) : State :=
  let t : Int := (s.clock.time.toNat : Int) + m
  (s.modClock fun c =>
    { c with
      frac := if t < 0 then 0 else c.frac
      trim := 0
      peers := c.peers.map fun p => { p with offset := p.offset - m } }).stepTime (BitVec.ofNat 48 t.toNat)

/-- The correction of a second tick in SET: stale entries removed, then a slew or a step by the median (R193). -/
def State.correct (s : State) : State :=
  let now := s.now
  let s := s.modClock fun c => { c with peers := c.peers.filter fun p => !p.stale now }
  let m := median (0 :: s.clock.peers.map (·.offset))
  if m.natAbs ≤ 500 then s.modClock fun c => { c with trim := 250 * max (-2) (min 2 m) } else s.stepBy m

/-- The second tick, when it falls: every 4,000 rounds a SET station corrects district time, and a SET or COASTING station
offers a beacon unless one is in hand (R191, R193). -/
def State.secondTick (s : State) : State :=
  if Config.secondRounds ≤ s.clock.secondCount then
    let s := s.modClock fun c => { c with secondCount := c.secondCount % Config.secondRounds }
    let s := if s.clock.state = .set then s.correct else s
    if s.clock.state ≠ .unset ∧ s.clock.beacon = .none then s.offerBeacon else s
  else s

/-- SECOND_TICK (R191, R193). -/
def execSecondTick (s : State) : Result := .next s.secondTick

/-- TIME_SET_EXPIRY (R190): 40,000 rounds without a TIME frame take SET to COASTING with trim 0. -/
def execTimeSetExpiry (s : State) : Result :=
  .next (if s.clock.state = .set ∧ Config.coastRounds ≤ since s.now s.clock.lastTime then s.enterTime .coasting else s)

/-- The peer offset table after an offset from a station (R192). -/
def recordOffset (ps : List PeerOffset) (p : PeerOffset) : List PeerOffset :=
  if ps.any (·.station == p.station) then ps.map fun q => if q.station = p.station then p else q else ps ++ [p]

/-- A TIME frame taken (R190, R192): its offset recorded; in UNSET it is adopted with a step; the state becomes SET. A
frame of an UNSET sender is disregarded. -/
def State.takeTime (s : State) (source : Byte) (sender : TimeState) (t : DTime) : State :=
  if sender = .unset then s
  else
    let now := s.now
    let p : PeerOffset :=
      { station := source, offset := (t.toNat : Int) - (s.link.noted.toNat : Int), round := now }
    let s := s.modClock fun c => { c with peers := recordOffset c.peers p, lastTime := now }
    match s.clock.state with
    | .unset => (s.stepBy (median (s.clock.peers.map (·.offset)))).enterTime .set
    | .set => s
    | .coasting => s.enterTime .set

end Sys2Proof.Machine
end

