-- ==== Sys2Proof/Machine/Shelf.lean ====
section
/-! DEFINITION. Machine/Shelf.lean: the shelf link controller: frames received and dispatched, commands, READ_STATUS and
CLEAR_FLAGS, and the transmitter (R151 to R165). -/

namespace Sys2Proof.Machine

/-! ### Reception (R152, R153, R183) -/

/-- An accepted frame handed to the block that owns its kind (R153). While LOADING no COMMAND is kept; UNBAR and
USAGE_ACK are taken only once the configuration is in force; under CONFIG FAULT no TIME frame is taken (R183). -/
def State.dispatchFrame (s : State) : RxFrame → State
  | .time p st t => if s.clock.phase = .configFault then s else s.takeTime p st t
  | .claim p x t heard => s.takeClaim p x t heard
  | .release p x => s.takeRelease p x
  | .bar p x r t => s.takeBar p x r t
  | .unbar p x =>
    if s.clock.phase = .running ∧ p = BitVec.ofNat 8 s.config.controller then s.takeUnbar x else s
  | .usageAck a => if s.clock.phase = .running then s.modJournal fun j => { j with acks := j.acks ++ [a] } else s
  | .command dest c =>
    if s.clock.phase ≠ .loading ∧ dest = s.station then s.modLink fun l => { l with inbox := l.inbox ++ [c] } else s

/-- Whether a frame is the one the part is itself sending, used for read-back (R152). -/
def Link.ownFrame (l : Link) (bytes : List Byte) : Bool :=
  match l.phase with
  | .sending _ => bytes == l.wire
  | .idle | .backoff _ => false

/-- FRAME_RECEIVE (R152): the frame the part is itself sending is used for read-back; any other is tested, and dispatched
if accepted. One that arrives between the last bit of the part's own frame and its sent report is taken (R146). -/
def execFrameReceive (bytes : List Byte) (s : State) : Result :=
  if s.link.ownFrame bytes then .next s
  else match receivedFrame s.station bytes with
    | none => .next s
    | some f => .next (s.dispatchFrame f)

/-! ### Commands (R160 to R162) -/

/-- Whether a command's argument bytes have the length its layout requires (R162, section 12.3); the codes are those of
section 12.2. -/
def RxCommand.wellFormed (c : RxCommand) : Bool :=
  match c.code.toNat with
  | 1 => c.args.length == 11
  | 2 | 3 => c.args.length == 8
  | 4 => c.args.length == 1 || c.args.length == 8
  | 5 => c.args.length == 0
  | 6 => c.args.length == 1
  | 7 | 8 | 9 => c.args.length == 0
  | 10 => c.args.length == 2
  | _ => false

/-- The code of READ_STATUS (section 12.2). -/
def readStatusCode : Byte := 5

/-- Whether a command's source may command the part (R161). -/
def State.authorised (s : State) (c : RxCommand) : Bool :=
  s.clock.phase == .configFault || c.source == BitVec.ofNat 8 s.config.controller

/-- The last command record replaced by a command, with no stored reply (R160). -/
def State.rememberCommand (s : State) (c : RxCommand) : State :=
  s.modLink fun l => { l with lastCommand := some { tag := c.tag, code := c.code, args := c.args, reply := none } }

/-- A command that is not a repeat: answered NOT_NOW under CONFIG FAULT, checked for form, or dispatched to its owner
(R160 to R162). -/
def State.dispatchCommand (s : State) (c : RxCommand) : State :=
  let s := s.rememberCommand c
  if s.clock.phase = .configFault ∧ c.code ≠ readStatusCode then s.answerCode c .notNow
  else if c.wellFormed then s.modLink fun l => { l with dispatched := l.dispatched ++ [c] }
  else s.answerCode c .badArgument

/-- A command counted in flight (R161). -/
def State.countFlight (s : State) : State := s.modLink fun l => { l with inFlight := l.inFlight + 1 }

/-- An authorised command compared with the last command record (R160). -/
def State.compareCommand (s : State) (c : RxCommand) : State :=
  match s.link.lastCommand with
  | none => s.countFlight.dispatchCommand c
  | some r =>
    if r.names c then
      match r.reply with
      | some (rc, results) => s.countFlight.answerPlain c rc results
      | none => s
    else s.countFlight.dispatchCommand c

/-- A COMMAND taken: discarded while 4 are in flight, answered REFUSED when it is not authorised (R161). -/
def State.takeCommandFrame (s : State) (c : RxCommand) : State :=
  if 4 ≤ s.link.inFlight then s
  else if s.authorised c then s.compareCommand c
  else s.countFlight.answerPlain c .refused []

/-- COMMAND_RECEIVE: the oldest COMMAND handed over is taken. -/
def execCommandReceive (s : State) : Result :=
  match s.link.inbox with
  | [] => .next s
  | c :: cs => .next ((s.modLink fun l => { l with inbox := cs }).takeCommandFrame c)

/-! ### READ_STATUS and CLEAR_FLAGS (R163, R165) -/

/-- The seven slot states in code order (section 12.2). -/
def slotStates : List SlotState := [.free, .assigning, .active, .lost, .resuming, .barred, .closing]

/-- The status snapshot (R163, section 12.3). -/
def State.statusSnapshot (s : State) : List Byte :=
  [s.station] ++ be 1 s.tree.state.code ++ be 1 s.watch.state.code
    ++ slotStates.flatMap (fun t => be 1 (s.countState t))
    ++ be32 s.journal.oldest ++ be32 s.journal.publish ++ be32 s.journal.append ++ be16 s.journal.runMark
    ++ be 1 s.clock.state.code ++ be16 (BitVec.ofInt 16 s.clock.trim) ++ be 1 s.clock.cause.code
    ++ be 2 s.down.free ++ be 2 s.link.flags.toNat

/-- READ_STATUS (R163). -/
def execReadStatus (s : State) : Result :=
  match s.takeCommand readStatusCode with
  | none => .next s
  | some (c, s) => .next (s.answer c .done s.statusSnapshot)

/-- CLEAR_FLAGS (R165): each selected flag cleared; the reply carries all fourteen after the clearing. Bits 14 and 15 of
the selection name no flag and are disregarded (log entry 42). -/
def execClearFlags (s : State) : Result :=
  match s.takeCommand 10 with
  | none => .next s
  | some (c, s) =>
    let selection := BitVec.ofNat 14 (fieldNat c.args 0 2)
    let s := s.modLink fun l => { l with flags := l.flags &&& ~~~ selection }
    .next (s.answer c .done (be 2 s.link.flags.toNat))

/-! ### The transmitter (R155 to R157) -/

/-- The silence at which a frame of a class may start (R155). -/
def classWait (txClass : Nat) : Nat := 12 + 4 * txClass

/-- FRAME_TRANSMIT_START (R155): the head frame starts when the silence reaches its class's wait outside backoff.
The bit times since the silence last began to count come with the command (log entry 10), and so do the rival of the
frame's leaving (log entry 45) and the bit at which a collision would stop it (log entry 52). -/
def execFrameTransmitStart (start : TransmitStart) (s : State) : Result :=
  match s.link.phase, s.link.head with
  | .idle, some e =>
    if s.link.active = false ∧ classWait e.message.txClass ≤ s.link.silence + start.elapsed then
      let bytes := frameBytes s.link.station s.config.collector s.clock.time e.message
      .next (s.modLink fun l =>
        { l with
          phase := .sending e.age, rival := start.rival, mismatch := start.mismatch, silence := 0, wire := bytes
          cut := none })
    else .next s
  | _, _ => .next s

/-- How a frame that left the queue went (R157). -/
inductive SendReport where
  | sent | abandoned
deriving DecidableEq, Repr

/-- The report to the source block of a frame (R143, R157, R191). -/
def State.reportFrame (s : State) (m : Message) (o : SendReport) : State :=
  match m with
  | .usage r =>
    s.modJournal fun j => match o with
      | .sent => j.reportSent r.seq
      | .abandoned => j.reportAbandoned
  | .time _ => s.modClock fun c => { c with beacon := .none }
  | .claim _ _ _ | .release _ | .bar _ _ _ | .alert _ _ _ _ | .reply _ _ _ _ _ => s

/-- The offers of another source that reach the transmit queue as a frame leaves it (R142, R159, R170, R191, log
entry 45). -/
def State.rivalOffer (s : State) : RivalOffer → State
  | .roundStart => s.offerRoster.offerWaitingBeacon
  | .secondTick => s.secondTick
  | .pacingTick => s.pacingTick

/-- A frame gone from the queue and its source told, the silence counted afresh (R157). -/
def State.releaseFrame (s : State) (e : TxEntry) (o : SendReport) : State :=
  (s.modLink fun l =>
    { l with queue := l.queue.filter (·.age != e.age), phase := .idle, rival := none, silence := 0 }).reportFrame
      e.message o

/-- A frame removed from the queue, and the backlog offered, after another source's offer when that one comes first
(R157, R159). -/
def State.removeFrame (s : State) (e : TxEntry) (o : SendReport) : State :=
  let t := s.releaseFrame e o
  (match s.link.rival with
    | some r => t.rivalOffer r
    | none => t).modLink Link.drainBacklog

/-- The entry being sent. -/
def Link.sendingEntry (l : Link) : Option TxEntry :=
  match l.phase with
  | .sending age => l.queue.find? (·.age == age)
  | .idle | .backoff _ => none

/-- The frame on the pair stopped at its first bit that did not match, and the 8-bit jam sent after it (R156). A bit number
beyond the frame stands for its last bit (log entry 52). -/
def Link.stopAndJam (l : Link) : Link :=
  { l with
    wire := l.wire.take (l.mismatch / 8 + 1)
    cut := some { bits := min (l.mismatch + 1) (8 * l.wire.length), jam := Config.jamBits } }

/-- COLLISION (R156, R157): the frame is stopped at the bit that did not match and the jam is sent. The attempt count rises;
at 16 the frame is abandoned, else the transmitter backs off for (station + 1) x 16 x attempts bit times. The step ends with
the jam: the backoff, and the silence after an abandonment, count from there. -/
def execCollision (s : State) : Result :=
  match s.link.sendingEntry with
  | none => .next s
  | some e =>
    let attempts := e.attempts + 1
    let s := s.modLink Link.stopAndJam
    if 16 ≤ attempts then .next ((s.modLink (·.setFlag sendAbandonedBit)).removeFrame e .abandoned)
    else
      .next (s.modLink fun l =>
        { l with
          queue := l.queue.map fun k => if k.age = e.age then { k with attempts := attempts } else k
          phase := .backoff ((l.station.toNat + 1) * 16 * attempts)
          rival := none })

/-- BACKOFF_END (R156): the silence is counted again. -/
def execBackoffEnd (s : State) : Result :=
  match s.link.phase with
  | .backoff _ => .next (s.modLink fun l => { l with phase := .idle, silence := 0 })
  | .idle | .sending _ => .next s

/-- FRAME_SENT (R156, R157): the frame went out complete. -/
def execFrameSent (s : State) : Result :=
  match s.link.sendingEntry with
  | none => .next s
  | some e => .next (s.removeFrame e .sent)

/-- LINK_ACTIVITY (R155, R192): activity of another station sets the silence to 0 as it begins and as it ends; at a start
delimiter the present count of milliseconds is noted. -/
def execLinkActivity (event : LinkEvent) (s : State) : Result :=
  let now := s.clock.time
  match event with
  | .begins => .next (s.modLink fun l => { l with active := true, silence := 0 })
  | .delimiter => .next (s.modLink fun l => { l with active := true, silence := 0, noted := now })
  | .ends => .next (s.modLink fun l => { l with active := false, silence := 0 })

end Sys2Proof.Machine
end

