-- ==== Sys2Proof/Machine/Port.lean ====
section
/-! DEFINITION. Machine/Port.lean: the tree port's states with what the other blocks do at LIT, DARK and TREE_RESTART,
start-up, the clock monitor, resets, the receive path's bursts and spans, and the round boundary (chapters 1 and 11). -/

namespace Sys2Proof.Machine

/-! ### Entry to LIT, DARK and CALIBRATING (R1 to R4, R28, R46, R62, R69, R70, R90, R118) -/

/-- Entry to LIT: the roll-call counter set to 16, and a RESUME exchange started for each RESUMING slot (R46, R62). -/
def State.enterLit (s : State) : State :=
  let s := (s.modTree fun t => { t with state := .lit, holdStart := none, sampling := false }).modRoll fun r =>
    { r with counter := 16 }
  s.forSlots (fun i => (s.slot i).state == .resuming) fun s i => s.startExchange i .resume

/-- Entry to CALIBRATING: the dark hold begins (R2). -/
def State.enterCalibrating (s : State) : State :=
  let now := s.now
  s.modTree fun t => { t with state := .calibrating, holdStart := some now, sampling := false }

/-- What the manager does with a slot on entry to DARK (R28). -/
def State.darkSlot (s : State) (i : SlotId) : State :=
  match (s.slot i).state with
  | .active | .lost => s.enter i fun r => { r with state := .resuming }
  | .assigning => if (s.slot i).rejoin then s.loseSlot i else s.abandonAssignment i
  | .free | .resuming | .barred | .closing => s

/-- An echo record ended by DARK or TREE_RESTART; the home hold-off is kept (R62). -/
def EchoRecord.lost (r : EchoRecord) : EchoRecord := { EchoRecord.absent with homeHoldoff := r.homeHoldoff }

/-- The roll call ended without a ruling: IDLE, both counts 0, no pending cause (R47, R49). -/
def RollCall.lost (r : RollCall) : RollCall :=
  { r with
    phase := .idle, cause := none, followUps := 0, streak := 0, offerDue := false, openRound := none, light := false
    answered := false, followUpAt := none }

/-- The enrolment engine on entry to DARK and on TREE_RESTART (R47, R49, R62). -/
def Enrolment.lost (e : Enrolment) : Enrolment :=
  { e with roll := e.roll.lost, echoes := e.echoes.map EchoRecord.lost, answers := [] }

/-- The grant histories emptied (R70). -/
def Scheduler.darkened (d : Scheduler) : Scheduler :=
  { d.emptied with demand := d.demand.map fun k => { k with history := [] } }

/-- Entry to DARK (R4, R28, R49, R62, R69, R70, R90, R118). Log entry 37: the order port, watch, slots ascending, enrolment
engine, scheduler is the model's choice. -/
def State.enterDark (s : State) : State :=
  let s := s.endTransmission.modTree fun t => { t with state := .dark, issued := [] }
  let s := (s.abandonWhere fun e => e.body.leavesInDark).watchRetreat
  let s := s.forSlots (fun i => (s.slot i).state != .free) State.darkSlot
  (s.modEnrol Enrolment.lost).modSched Scheduler.darkened

/-! ### Calibration (R2, R99) -/

/-- DARK_HOLD_END (R2): 12,000 rounds after CALIBRATING began, the calibration round follows. -/
def execDarkHoldEnd (s : State) : Result :=
  match s.tree.state, s.tree.holdStart with
  | .calibrating, some n =>
    .next (if Config.darkHold ≤ since s.now n then s.modTree fun t => { t with sampling := true } else s)
  | _, _ => .next s

/-- CALIBRATION_SAMPLE (R2, R99): a sample gathered; the 64th writes the baseline and moves the tree port to LIT. -/
def execCalibrationSample (count : BitVec 12) (s : State) : Result :=
  if s.tree.state = .calibrating ∧ s.tree.sampling = true then
    let samples := s.watch.calib ++ [count.toNat]
    if 64 ≤ samples.length then
      .next (s.modWatch fun w => { w with calib := [], b16 := 16 * (samples.sum / 64) }).enterLit
    else .next (s.modWatch fun w => { w with calib := samples })
  else .next s

/-! ### The clock monitor (R186, R187) -/

/-- A count begun again from 0 (R187). -/
def Clock.restartCount (c : Clock) : Clock := { c with edges := 0, edgeLatch := false }

/-- The tree port's change on a line clock failure (R1); samples gathered in CALIBRATING are discarded (R99). -/
def State.failTree (s : State) : State :=
  match s.tree.state with
  | .calibrating =>
    (s.modTree fun t => { t with state := .starting, holdStart := none, sampling := false }).modWatch fun w =>
      { w with calib := [] }
  | .lit => s.enterDark
  | .off | .starting | .dark => s

/-- CLOCK_FAIL raised once for an episode (R186). -/
def State.noteFailure (s : State) : State :=
  if s.clock.failed then s else (s.modClock fun c => { c with failed := true }).raise .clockFail []

/-- LINE_CLOCK_FAILURE (R186): found in every tree port state but OFF. -/
def execLineClockFailure (s : State) : Result :=
  if s.tree.state = .off then .next s
  else .next ((s.modClock fun c => { c.restartCount with osc := .internal }).failTree.noteFailure)

/-- The line oscillator switched in at the boundary after a completed count, the failed mark cleared with
CLOCK_RESTORED (R187). -/
def State.switchIn (s : State) : State :=
  let s := s.modClock fun c => { c with osc := .line, edges := Config.countEdges, edgeLatch := true }
  if s.clock.failed then (s.modClock fun c => { c with failed := false }).raise .clockRestored [] else s

/-- START_COUNT_COMPLETE (R187): STARTING becomes CALIBRATING. -/
def execStartCountComplete (s : State) : Result :=
  if s.tree.state = .starting then .next s.switchIn.enterCalibrating else .next s

/-- RESTORE_COUNT_COMPLETE (R1, R187): DARK becomes LIT, or CALIBRATING with the recalibration-due mark cleared. -/
def execRestoreCountComplete (s : State) : Result :=
  if s.tree.state = .dark then
    if s.tree.recalDue then .next (s.switchIn.modTree fun t => { t with recalDue := false }).enterCalibrating
    else .next s.switchIn.enterLit
  else .next s

/-! ### Start-up (R183, R185) -/

/-- POWER_ON_RESET (R183, R194). -/
def execPowerOnReset (straps : BitVec 5) (s : State) : Result := .next (State.afterReset .power straps s.pending)

/-- PIN_RESET (R183, R194). -/
def execPinReset (straps : BitVec 5) (s : State) : Result := .next (State.afterReset .pin straps s.pending)

/-- TIME frames dropped from the transmit queue on entry to CONFIG FAULT, one in transmission stopped, and the backlog
offered the room (R159, R183, log entry 46). -/
def Link.dropBeacons (l : Link) : Link :=
  let queue := l.queue.filter fun e => !e.message.isTime
  let stopped := match l.phase with
    | .sending age => !queue.any (·.age == age)
    | .idle | .backoff _ => false
  Link.drainBacklog { l with
    queue := queue
    phase := if stopped then .idle else l.phase
    rival := if stopped then none else l.rival
    silence := if stopped then 0 else l.silence }

/-- Entry to CONFIG FAULT (R163, R183): time is UNSET with trim 0, no beacon is in hand or sent, and the CONFIG_FAULT alert
is raised. A TIME frame taken in LOADING is undone by it but for the count and the table (log entry 46). -/
def State.configFault (s : State) : State :=
  ((s.modClock fun c => { c with phase := .configFault, state := .unset, trim := 0, beacon := .none }).modLink
    Link.dropBeacons).raise .configFault []

/-- CONFIG_READ_ATTEMPT (R183, R184): a good image is clamped and kept; the third failure is CONFIG FAULT. -/
def execConfigReadAttempt (answer : Option (List Byte)) (s : State) : Result :=
  if s.clock.phase = .loading ∧ s.clock.image = none then
    match imageRead answer with
    | some bs => .next (s.modClock fun c => { c with image := some (imageOf bs) })
    | none =>
      let s := s.modClock fun c => { c with reads := c.reads + 1 }
      .next (if 3 ≤ s.clock.reads then s.configFault else s)
  else .next s

/-- The hand-over at the end of start-up (R128, R139, R142, R185): the configuration in force, the run mark, RUNNING, the
band and the next boundary, and the tree port in STARTING with its count begun. -/
def State.handOver (s : State) (c : Configuration) (mark : Half) : State :=
  let s := { s with config := c }
  let s := s.modJournal fun j => { j with runMark := mark, pacing := 0 }
  let s := (s.modClock fun k => { k.restartCount with phase := .running }).reevaluateBand
  let b := boundaryAfter c s.clock.time
  (s.modMeter fun m => { m with nextBoundary := some b }).modTree fun t => { t with state := .starting }

/-- START_COUNT_WRITE_BACK (R185, R197): the start count plus 1 written at its two addresses and read back; the third
attempt not confirmed is CONFIG FAULT. -/
def execStartCountWriteBack (readBack : Option Half) (s : State) : Result :=
  match s.clock.phase, s.clock.image with
  | .loading, some im =>
    let mark := im.startCount + 1
    let s := s.modClock fun c => { c with startWritten := startCountWrites mark }
    if readBack = some mark then .next (s.handOver im.config mark)
    else
      let s := s.modClock fun c => { c with writes := c.writes + 1 }
      .next (if 3 ≤ s.clock.writes then s.configFault else s)
  | _, _ => .next s

/-! ### TREE_RESTART (R5, R37, R62, R64, R70, R73, R118, R162, R194) -/

/-- The tree port takes TREE_RESTART (R1, R5, R90). -/
def State.restartPort (s : State) : State :=
  let s := s.abandonWhere fun _ => true
  match s.tree.state with
  | .off | .starting => s
  | .calibrating => s.enterCalibrating.modWatch fun w => { w with calib := [] }
  | .lit => (s.endTransmission.modTree fun t => { t with issued := [] }).enterCalibrating
  | .dark => s.modTree fun t => { t with recalDue := true }

/-- What the manager does with a slot on TREE_RESTART (R37). -/
def State.restartSlot (s : State) (i : SlotId) : State :=
  match (s.slot i).state with
  | .free | .closing => s
  | .assigning => if (s.slot i).rejoin then s.closeSlot i .restart else s.abandonAssignment i
  | .active | .lost | .resuming | .barred => s.closeSlot i .restart

/-- The manager takes TREE_RESTART: every slot in ascending order (R37). -/
def State.restartManager (s : State) : State := s.forSlots (fun i => (s.slot i).state != .free) State.restartSlot

/-- The planner emptied, the demand states reset and the rotation pointer 0 (R64, R70, R73). -/
def Scheduler.restarted (d : Scheduler) : Scheduler :=
  { d.emptied with demand := Vector.replicate 128 Demand.reset, rotation := 0 }

/-- TREE_RESTART handed to its blocks, the tree port and the watch before or after the manager (log entry 6). A WAKE abandoned
before the watch has it leaves the hushed flag to the watch (log entry 56). -/
def State.restart (s : State) (o : RestartOrder) : State :=
  let s := if o.portFirst then s.restartPort else s
  let s := if o.watchFirst then s.watchRetreat else s
  let s := s.restartManager
  let s := if o.watchFirst then s else s.watchRetreat
  let s := if o.portFirst then s else s.restartPort
  ((s.modEnrol Enrolment.lost).modSched Scheduler.restarted).modClock fun c => { c with cause := .restart }

/-- TREE_RESTART (R162): answered DONE when every block has it. -/
def execTreeRestart (o : RestartOrder) (s : State) : Result :=
  match s.takeCommand 9 with
  | none => .next s
  | some (c, s) => .next ((s.restart o).answerCode c .done)

/-! ### The receive path (R8 to R11) -/

/-- The class of a burst (R10). -/
def classOf (e : PlanEntry) (rx : BurstRx) : BurstClass :=
  match burstHeader rx.header with
  | some h => if h.slot = e.slot.val then .heard else if rx.light then .garbled else .silent
  | none => if rx.light then .garbled else .silent

/-- A slot in ACTIVE or LOST at the generation of the record: the condition of egress and metering (R11). -/
def State.takesUpstream (s : State) (e : PlanEntry) : Bool :=
  (s.slot e.slot).gen == e.gen && ((s.slot e.slot).state == .active || (s.slot e.slot).state == .lost)

/-- Good packets forwarded and metered as UP (R11, R81, R96). -/
def State.upstream (s : State) (e : PlanEntry) (packets : List (List Byte)) : State :=
  if s.takesUpstream e then
    let b := payloadBytes packets
    let s := s.forward e.slot packets
    if 0 < b then s.offerUpdate e.slot e.gen .up b (min b (16 * e.assured)) else s
  else s

/-- The hand-offs of a HEARD burst of upstream round `n` (R11). -/
def State.heardBurst (s : State) (e : PlanEntry) (n : Round) (rx : BurstRx) : State :=
  match burstHeader rx.header with
  | none => s
  | some h =>
    ((s.upstream e (burstPackets e.payload rx.payload)).takeFill e.slot e.gen h.fill n).holdoffSequence e.slot e.gen n
      h.lastOrder

/-- BURST_CLASSIFY (R10, R11, R26): the next burst of the plan in reception is classified and its class applied. -/
def execBurstClassify (rx : BurstRx) (s : State) : Result :=
  match s.reception with
  | none => .next s
  | some r =>
    match r.plan.entries[r.classified]? with
    | none => .next s
    | some e =>
      let n := r.plan.round
      let s := (s.modReception fun k => { k with classified := k.classified + 1 }).sampleLatch rx.light
      let c := classOf e rx
      let s := if c = .heard then s.heardBurst e n rx else s
      .next (s.applyClass e.slot e.gen c n)

/-- Whether the round in reception carries the head part of the open roll call (R9, R49). -/
def State.rollHeadHere (s : State) : Bool :=
  match s.reception, s.enrol.roll.openRound with
  | some r, some n => s.enrol.roll.phase == .opened && r.plan.spans.rollHead && r.plan.round == n + 2
  | _, _ => false

/-- ROLL_CALL_SPAN_REPORT (R9, R49, R50, R67): the span is reported at the end of its head part; the roll call ends and
the planner's roll call in progress is removed. The activity latch stands as the sample at the end of the span found it (log
entry 51). -/
def execRollCallSpanReport (light : Bool) (s : State) : Result :=
  if s.rollHeadHere then
    let now := s.now
    let r := s.enrol.roll.ended (s.enrol.roll.light || light) now
    let s := ((s.sampleLatch light).modRoll fun _ => r.1).modSched fun d => { d with rollProgress := none }
    .next (if r.2 then s.evidence else s)
  else .next s

/-! ### The round boundary (R181, R189 and the round-start work of every chapter) -/

/-- A tally's bit error joined to the one it already holds (R123). -/
def Tally.upsetBy (t : Tally) (k : Upset) : Tally :=
  { t with upset := some (match t.upset with
    | none => k
    | some _ => .double) }

/-- Bit errors of the tally memory (log entry 8). -/
def State.applyUpsets (s : State) (us : List TallyUpset) : State :=
  us.foldl (fun s u => s.modTally u.slot u.band (·.upsetBy u.kind)) s

/-- The roll-call counter counts down and stops at 0 (R46). -/
def RollCall.countDown (r : RollCall) : RollCall :=
  { r with counter := r.counter - 1, reached := r.reached || r.counter == 1 }

/-- The round counter and every count of rounds (R124, R142, R147, R168, R178, R181, R189). -/
def State.countRound (s : State) : State :=
  let running := s.clock.phase = .running
  let s := s.modClock fun c => { c with round := c.round + 1, secondCount := c.secondCount + 1 }
  let s := s.modMeter fun m => { m with scrubCount := m.scrubCount + 1 }
  let s := s.modRoster fun r => { r with refresh := r.refresh + 1, rebroadcast := r.rebroadcast + 1 }
  let s := s.modJournal fun j =>
    { j with pacing := if running then j.pacing + 1 else j.pacing, ackTimer := j.ackTimer.map (· + 1) }
  (s.modRoll RollCall.countDown).modWatch Watch.countSettle

/-- What the manager owes a slot offered again (R14, R32). -/
def State.offerOwed (s : State) (i : SlotId) : State :=
  let s := match (s.owed i).sever with
    | some (g, x) => s.offerSever i g x
    | none => s
  match (s.owed i).release with
  | some g => s.offerRelease i g
  | none => s

/-- Whether a slot's echo record has something to offer or to ask at a round start (R56, R60, R61). -/
def EchoRecord.busy (r : EchoRecord) : Bool := r.orderDue || r.spanDue || r.checkPending || r.holdoffWaiting.isSome

/-- What the enrolment engine offers for a slot at a round start: its exchange's order or span request, a pending CHECK,
a waiting HOLDOFF (R56, R60, R61). -/
def State.offerEnrolment (s : State) (i : SlotId) : State :=
  (((s.offerExchange i).askSpan i).startPending i).offerHoldoff i

/-- Every offer made at a round start (R14, R47, R56, R60, R110, R117, R170, R191). -/
def State.roundOffers (s : State) : State :=
  let s := s.forSlots (fun i => (s.owed i).sever.isSome || (s.owed i).release.isSome) State.offerOwed
  let s := s.offerRoll
  let s := s.forSlots (fun i => (s.echo i).busy) State.offerEnrolment
  let s := s.offerWatchOrders
  let s := s.forSlots (fun i => (s.slot i).wakeDue) State.offerWakeDue
  s.offerRoster.offerWaitingBeacon

/-- A sent round's issued-plan record kept; at most three are held (R7, log entry 23). -/
def keepIssued (rs : List Issued) (r : Issued) : List Issued := (if 3 ≤ rs.length then rs.drop 1 else rs) ++ [r]

/-- The plan of round `n`: the one built a round before, or the empty plan (R3, R6). -/
def State.planFor (s : State) (n : Round) : Plan :=
  match s.sched.nextPlan with
  | some p => if p.round = n then p else .empty n
  | none => .empty n

/-- The downstream round composed as it begins: order slots, plan, payload (R6, R16, R87), with the record of its plan
(R7). A round still in transmission is over (log entry 24). -/
def State.composeRound (s : State) (n : Round) : State :=
  let o := s.endTransmission.selectOrders n
  let s := o.1.passBindings n
  let plan := s.planFor n
  let p := s.composePayload
  let round : DownRound :=
    { round := n, check := headerCheck n o.2 plan p.2.length, slots := o.2, plan := plan, segments := p.2 }
  let record : Issued := { plan := plan, classified := 0, echoesEnded := [], echoLight := [] }
  p.1.modTree fun t => { t with txRound := some round, issued := keepIssued t.issued record }

/-- A periodic roll call begun at a round start: IDLE with the due mark set (R46). -/
def State.beginPeriodic (s : State) : State :=
  if s.enrol.roll.phase = .idle ∧ s.enrol.roll.due = true then s.beginRoll .periodic else s

/-- ROUND_BOUNDARY (R181): the counters, district time, the round-start offers before or after the round is composed (log
entry 5), a held retest, the downstream round and the plan of the next while LIT, a periodic roll call, a waiting locate.
The watch request of a held retest reaches the planner before the plan of this round start is built (log entry 47). A band
change at this boundary comes before the DOWN updates of the round composed (R136), which is the model's choice, log
entry 57. -/
def execRoundBoundary (offersFirst : Bool) (upsets : List TallyUpset) (s : State) : Result :=
  let s := ((s.countRound.advanceTime).applyUpsets upsets).beginHeldRetest
  let s := if offersFirst then s.roundOffers else s
  let s := if s.tree.state = .lit then (s.composeRound s.now).buildPlan (s.now + 1) else s
  let s := if offersFirst then s else s.roundOffers
  .next s.beginPeriodic.startLocate

end Sys2Proof.Machine
end

