-- ==== Sys2Proof/Machine/Dispatch.lean ====
section
/-! DEFINITION. Machine/Dispatch.lean: the meaning of each command, one arm per constructor of `Instr`. -/

namespace Sys2Proof.Machine

/-- The effect of a command on everything but the queue of waiting commands. -/
def exec (i : Instr) (s : State) : Host.Outcome State Fault Refusal :=
  match i with
  | .powerOnReset straps => Sys2Proof.Machine.execPowerOnReset straps s
  | .pinReset straps => Sys2Proof.Machine.execPinReset straps s
  | .configReadAttempt answer => Sys2Proof.Machine.execConfigReadAttempt answer s
  | .startCountWriteBack readBack => Sys2Proof.Machine.execStartCountWriteBack readBack s
  | .roundBoundary offersFirst upsets => Sys2Proof.Machine.execRoundBoundary offersFirst upsets s
  | .rollCallDue => Sys2Proof.Machine.execRollCallDue s
  | .followUpDue => Sys2Proof.Machine.execFollowUpDue s
  | .darkHoldEnd => Sys2Proof.Machine.execDarkHoldEnd s
  | .calibrationSample count => Sys2Proof.Machine.execCalibrationSample count s
  | .lineClockFailure => Sys2Proof.Machine.execLineClockFailure s
  | .startCountComplete => Sys2Proof.Machine.execStartCountComplete s
  | .restoreCountComplete => Sys2Proof.Machine.execRestoreCountComplete s
  | .burstClassify rx => Sys2Proof.Machine.execBurstClassify rx s
  | .holdoffTimeout slot => Sys2Proof.Machine.execHoldoffTimeout slot s
  | .answerDecode rx => Sys2Proof.Machine.execAnswerDecode rx s
  | .rollCallSpanReport light => Sys2Proof.Machine.execRollCallSpanReport light s
  | .echoSpanEnd report => Sys2Proof.Machine.execEchoSpanEnd report s
  | .reechoRequest => Sys2Proof.Machine.execReechoRequest s
  | .lightSample place count => Sys2Proof.Machine.execLightSample place count s
  | .roundReceptionEnd => Sys2Proof.Machine.execRoundReceptionEnd s
  | .locateOrdersSettled => Sys2Proof.Machine.execLocateOrdersSettled s
  | .alertExpiry => Sys2Proof.Machine.execAlertExpiry s
  | .foreignLightRetest => Sys2Proof.Machine.execForeignLightRetest s
  | .lostExpiry slot => Sys2Proof.Machine.execLostExpiry slot s
  | .queueFlush => Sys2Proof.Machine.execQueueFlush s
  | .packetIngress tag content => Sys2Proof.Machine.execPacketIngress tag content s
  | .roundTransmissionEnd => Sys2Proof.Machine.execRoundTransmissionEnd s
  | .meterUpdateConsume => Sys2Proof.Machine.execMeterUpdateConsume s
  | .drainComplete slot => Sys2Proof.Machine.execDrainComplete slot s
  | .scrubPass => Sys2Proof.Machine.execScrubPass s
  | .intervalRound => Sys2Proof.Machine.execIntervalRound s
  | .pacingTick => Sys2Proof.Machine.execPacingTick s
  | .usageAck => Sys2Proof.Machine.execUsageAck s
  | .ackTimeout => Sys2Proof.Machine.execAckTimeout s
  | .frameReceive bytes => Sys2Proof.Machine.execFrameReceive bytes s
  | .rosterDecision => Sys2Proof.Machine.execRosterDecision s
  | .commandReceive => Sys2Proof.Machine.execCommandReceive s
  | .provision => Sys2Proof.Machine.execProvision s
  | .profileCloseAnswer => Sys2Proof.Machine.execProfileCloseAnswer s
  | .unprovision => Sys2Proof.Machine.execUnprovision s
  | .deroll => Sys2Proof.Machine.execDeroll s
  | .readHome => Sys2Proof.Machine.execReadHome s
  | .readStatus => Sys2Proof.Machine.execReadStatus s
  | .readStrangers => Sys2Proof.Machine.execReadStrangers s
  | .forgetStrangers => Sys2Proof.Machine.execForgetStrangers s
  | .rollNow => Sys2Proof.Machine.execRollNow s
  | .treeRestart order => Sys2Proof.Machine.execTreeRestart order s
  | .clearFlags => Sys2Proof.Machine.execClearFlags s
  | .frameTransmitStart start => Sys2Proof.Machine.execFrameTransmitStart start s
  | .collision => Sys2Proof.Machine.execCollision s
  | .backoffEnd => Sys2Proof.Machine.execBackoffEnd s
  | .frameSent => Sys2Proof.Machine.execFrameSent s
  | .secondTick => Sys2Proof.Machine.execSecondTick s
  | .timeSetExpiry => Sys2Proof.Machine.execTimeSetExpiry s
  | .claimRefresh => Sys2Proof.Machine.execClaimRefresh s
  | .barRebroadcast => Sys2Proof.Machine.execBarRebroadcast s
  | .rosterAgeing => Sys2Proof.Machine.execRosterAgeing s
  | .linkActivity event => Sys2Proof.Machine.execLinkActivity event s

end Sys2Proof.Machine
end

