-- ==== Sys2Proof/Safety.lean ====
section
/-! DEFINITION. Safety.lean: what every state of a run has: the capacities, counts and ranges the rules give, as properties
of one block or of the state, for the statements that every step keeps them. -/

namespace Sys2Proof

/-- A profile in the ranges of R184. -/
def Profile.InRange (p : Profile) : Prop :=
  p.assured ≤ 256 ∧ p.assured ≤ p.ceiling ∧ p.ceiling ≤ 1024 ∧ 16 ≤ p.queueLimit ∧ p.queueLimit ≤ 1024
    ∧ 1 ≤ p.weight ∧ p.weight ≤ 8

/-- Prices in the range of R184. -/
def Prices.InRange (p : Prices) : Prop := p.assured ≤ 65535 ∧ p.surplus ≤ 65535 ∧ p.down ≤ 65535

/-- A configuration with every item in its range (R184). -/
structure Configuration.InRange (c : Configuration) : Prop where
  stations : c.controller ≤ 31 ∧ c.collector ≤ 31
  budget : c.budget ≤ 1900
  poll : 1 ≤ c.poll ∧ c.poll ≤ 64
  rollPeriod : 64 ≤ c.rollPeriod ∧ c.rollPeriod ≤ 4096
  threshold : 1 ≤ c.threshold ∧ c.threshold ≤ 4095
  tracking : if c.threshold = 1 then c.tracking = 0 else 1 ≤ c.tracking ∧ c.tracking ≤ c.threshold - 1
  poolLow : c.poolLow ≤ 8190
  poolHigh : c.poolLow + 1 ≤ c.poolHigh ∧ c.poolHigh ≤ 8191
  profiles : ∀ p : Fin 8, (c.profiles.get p).InRange
  prices : ∀ j : Fin 16, (c.prices.get j).InRange
  switchPoints : c.switchPoints.length ≤ 8 ∧ ∀ p ∈ c.switchPoints, p.minute ≤ 1439
  interval : c.interval = 5 ∨ c.interval = 10 ∨ c.interval = 15 ∨ c.interval = 30 ∨ c.interval = 60
  pacing : 1 ≤ c.pacing ∧ c.pacing ≤ 255

namespace Machine

/-- The configuration in force, and a good image waiting for its write-back, are in range (R184). -/
def State.ConfigInRange (s : State) : Prop :=
  s.config.InRange ∧ ∀ im, s.clock.image = some im → im.config.InRange

/-- The lanes, the issued-plan records and the remembered receptions hold no more than they have room for (R7, R14). -/
def State.LanesFit (s : State) : Prop :=
  s.tree.urgent.length ≤ Config.urgentLane ∧ s.tree.normal.length ≤ Config.normalLane ∧ s.tree.issued.length ≤ 3
    ∧ s.tree.received.length ≤ 8

/-- The transmit queue and the ALERT backlog hold at most 16 frames, the queue at most one USAGE (R154, R159). -/
def State.LinkFits (s : State) : Prop :=
  s.link.queue.length ≤ Config.queueFrames ∧ s.link.queue.countP (·.message.isUsage) ≤ 1
    ∧ s.link.backAlerts.length ≤ Config.queueFrames

/-- The meter update queue holds at most 64 entries, as many as the taken count less the consumed count (R119). -/
def State.MeterCounted (s : State) : Prop :=
  s.meter.queue.length ≤ Config.meterEntries ∧ (s.meter.taken - s.meter.consumed).toNat = s.meter.queue.length

/-- The journal's pointers stand in order with at most 512 entries held, each held record at its sequence number, the one
USAGE frame of the transmit queue bearing the number of an UNSENT entry, and no USAGE frame in the backlog (R137, R138,
R142, R143, R159). -/
structure State.JournalOrdered (s : State) : Prop where
  held : s.journal.held = s.journal.records.length
  capacity : s.journal.held ≤ Config.journalEntries
  sent : s.journal.sent ≤ s.journal.held
  numbered : ∀ k, (h : k < s.journal.records.length) →
    s.journal.records[k].seq = s.journal.oldest + BitVec.ofNat 32 k
  oneUsage : s.link.queue.countP (·.message.isUsage) ≤ 1
  inQueue : ∀ e ∈ s.link.queue, ∀ r, e.message = .usage r →
    s.journal.sent ≤ (r.seq - s.journal.oldest).toNat ∧ (r.seq - s.journal.oldest).toNat < s.journal.held
  backlog : ∀ m ∈ s.link.backAlerts ++ s.link.backReplies, m.isUsage = false

/-- Blocks held in the queue of one slot (R83). -/
def State.queueBlocks (s : State) (i : SlotId) : Nat := packetBlocks (s.queue i).packets

/-- The blocks in all queues, the blocks of the round payload in transmission and the free count are 8,192 (R85). -/
def State.PoolConserved (s : State) : Prop :=
  (allSlots.map s.queueBlocks).sum + s.down.txBlocks + s.down.free = Config.poolBlocks

/-- The baseline within 0 to 65,520, fewer than 64 calibration samples gathered, the history of at most 16 rounds, and
every strike count at most 15 (R98 to R100, R103). -/
structure State.WatchBounded (s : State) : Prop where
  baseline : s.watch.b16 ≤ 65520
  samples : s.watch.calib.length < 64 ∧ ∀ c ∈ s.watch.calib, c ≤ 4095
  history : s.watch.history.length ≤ 16
  strikes : ∀ i, (s.strikes i).tail ≤ 15 ∧ (s.strikes i).head ≤ 15

/-- Under CONFIG FAULT time is UNSET with trim 0, and no beacon is in hand (R163, R183). -/
def State.FaultTimeUnset (s : State) : Prop :=
  s.clock.phase = .configFault → s.clock.state = .unset ∧ s.clock.trim = 0 ∧ s.clock.beacon = .none

/-- No two slots hold one serial (R23). -/
def State.SerialHeldOnce (s : State) : Prop :=
  ∀ i j x, (s.slot i).holds x = true → (s.slot j).holds x = true → i = j

/-- The silent count is at most 4 (R22). -/
def State.SilentBounded (s : State) : Prop := ∀ i, (s.slot i).silent ≤ 4

/-! ### How a statement speaks of a command and its reply -/

/-- The first dispatched command of a code, in transit to its owner (R162). -/
def State.Dispatched (s : State) (code : Byte) (c : RxCommand) : Prop :=
  s.link.dispatched.find? (·.code == code) = some c

/-- The reply of a command as a frame (R162). -/
def RxCommand.replyWith (c : RxCommand) (rc : ReplyCode) (results : List Byte) : Message :=
  .reply c.source c.tag c.code rc results

/-- The link once a command taken by its owner has left the list of commands in transit (R162, log entry 7). -/
def Link.without (l : Link) (c : RxCommand) : Link := { l with dispatched := l.dispatched.erase c }

/-- The link after a command was answered: the reply taken into the transmit queue with the next age, or placed in the
backlog when that is full; stored in the last command record when it names the command by tag, code and arguments, a later
command equal in all three included (log entry 48); everything else of the link as it was (R154, R159, R160, R162). -/
structure Link.Answered (l l' : Link) (c : RxCommand) (rc : ReplyCode) (results : List Byte) : Prop where
  taken : l.queue.length < Config.queueFrames →
    l'.queue = l.queue ++ [{ message := c.replyWith rc results, attempts := 0, age := l.nextAge }]
      ∧ l'.nextAge = l.nextAge + 1 ∧ l'.backReplies = l.backReplies ∧ l'.inFlight = l.inFlight - 1
  backlogged : Config.queueFrames ≤ l.queue.length →
    l'.queue = l.queue ∧ l'.nextAge = l.nextAge
      ∧ l'.backReplies = l.backReplies ++ [c.replyWith rc results] ∧ l'.inFlight = l.inFlight
  stored : l'.lastCommand = l.lastCommand.map fun r => if r.names c then { r with reply := some (rc, results) } else r
  kept : l'.station = l.station ∧ l'.phase = l.phase ∧ l'.rival = l.rival ∧ l'.silence = l.silence
    ∧ l'.active = l.active ∧ l'.wire = l.wire ∧ l'.cut = l.cut ∧ l'.mismatch = l.mismatch
    ∧ l'.noted = l.noted ∧ l'.backAlerts = l.backAlerts ∧ l'.flags = l.flags ∧ l'.inbox = l.inbox
    ∧ l'.dispatched = l.dispatched

/-- An alert raised, and nothing else of the link changed: its event flag is set whatever the alert mask says. A kind the
mask disables gives no frame; an enabled one, and every one while no configuration is in force, gives one ALERT frame with
the time state, the district time and the details, taken by the transmit queue, or placed in the backlog when that is full,
which gives up its oldest for a 17th (R158, R159, R164, R183). -/
structure State.Raised (s t : State) (k : AlertKind) (details : List Byte) : Prop where
  flag : t.link.flags = s.link.flags ||| BitVec.ofNat 14 (2 ^ k.code)
  masked : s.clock.phase = .running → s.config.alertMask.getLsbD k.code = false →
    t.link = { s.link with flags := t.link.flags }
  queued : (s.clock.phase = .running → s.config.alertMask.getLsbD k.code = true) →
    s.link.queue.length < Config.queueFrames →
    t.link = { s.link with
      flags := t.link.flags
      queue := s.link.queue ++
        [{ message := .alert k s.clock.state s.clock.time details, attempts := 0, age := s.link.nextAge }]
      nextAge := s.link.nextAge + 1 }
  backlogged : (s.clock.phase = .running → s.config.alertMask.getLsbD k.code = true) →
    Config.queueFrames ≤ s.link.queue.length → s.link.backAlerts.length < Config.queueFrames →
    t.link = { s.link with
      flags := t.link.flags, backAlerts := s.link.backAlerts ++ [.alert k s.clock.state s.clock.time details] }
  displaced : (s.clock.phase = .running → s.config.alertMask.getLsbD k.code = true) →
    Config.queueFrames ≤ s.link.queue.length →
    ∀ oldest rest, s.link.backAlerts = oldest :: rest → Config.queueFrames ≤ s.link.backAlerts.length →
      t.link = { s.link with
        flags := t.link.flags, backAlerts := rest ++ [.alert k s.clock.state s.clock.time details] }

/-- The link on entry to CONFIG FAULT at a district time: the event flag set, its ALERT frame with time UNSET in the
transmit queue or the backlog, and no TIME frame left in the queue unless the backlog, which holds ALERT and REPLY frames,
held one (R158, R159, R183). -/
structure Link.FaultEntered (l l' : Link) (time : DTime) : Prop where
  flag : l'.flags = l.flags ||| 0x1000
  alerted : .alert .configFault .unset time [] ∈ l'.queue.map (·.message) ++ l'.backAlerts
  beaconsDropped : (∀ m ∈ l.backAlerts ++ l.backReplies, m.isTime = false) →
    ∀ e ∈ l'.queue, e.message.isTime = false

/-- A serial turned away with a reason (R44, R52): no slot and no exchange changes. Its entry is seen again without an
alert; without one it is appended to the strangers list, the alert raised, and on a full list the entry with the
oldest last-seen time, the earlier-created of equals, goes first. -/
structure State.TurnedAway (s t : State) (x : Serial) (why : StrangerReason) : Prop where
  kept : t.home = s.home ∧ t.enrol.echoes = s.enrol.echoes ∧ t.enrol.provision = s.enrol.provision
  again : (∃ e ∈ s.enrol.strangers, e.serial = x) →
    t.link = s.link
      ∧ t.enrol.strangers = s.enrol.strangers.map fun e =>
        if e.serial = x then { e with reason := why, lastSeen := s.clock.time, seen := min (e.seen + 1) 255 } else e
  appended : (∀ e ∈ s.enrol.strangers, e.serial ≠ x) →
    s.Raised t (if why = .quarantined then .quarantinedSeen else .stranger) (be 8 x.toNat ++ be 1 why.code)
      ∧ (s.enrol.strangers.length < 16 →
        t.enrol.strangers = s.enrol.strangers ++
          [{ serial := x, reason := why, firstSeen := s.clock.time, lastSeen := s.clock.time, seen := 1 }])
      ∧ ∀ (pre post : List Stranger) (o : Stranger), 16 ≤ s.enrol.strangers.length →
        s.enrol.strangers = pre ++ o :: post → (∀ e ∈ pre, o.lastSeen.toNat < e.lastSeen.toNat) →
        (∀ e ∈ post, o.lastSeen.toNat ≤ e.lastSeen.toNat) →
        t.enrol.strangers = pre ++ post ++
          [{ serial := x, reason := why, firstSeen := s.clock.time, lastSeen := s.clock.time, seen := 1 }]

/-- An update as the meter queue takes it: appended with the current band while it has room, with the taken count up
(R120). -/
def Meter.TakesUpdate (m m' : Meter) (i : SlotId) (g : Gen) (kind : MeterKind) (bytes assured : Nat) : Prop :=
  m.queue.length < Config.meterEntries →
    m'.queue = m.queue ++ [{ slot := i, gen := g, kind := kind, bytes := bytes, assured := assured, band := m.band }]
      ∧ m'.taken = m.taken + 1

end Machine

end Sys2Proof
end

