-- ==== Sys2Proof/Certificates/Slice0/Obligations.lean ====
section
/-! DEFINITION. Certificates/Slice0/Obligations.lean: the statements for the provers, chapter by chapter, and the
invariants that every step keeps. A statement about a command says what the next state is, by an equation of states
wherever the command writes few fields: what an equation does not name is unchanged. -/

section

open Sys2Proof Sys2Proof.Machine

/-! ### The queue of commands -/

/-- A step takes the command at the front of the queue and answers with its effect on the state with the queue's rest.
On an empty queue the part idles: the model's choice, log entry 4. -/
def Obligations.StepTakesFront : Prop :=
  (∀ (c : Instr) (rest : List Instr) (s : State), step { s with pending := c :: rest } = exec c { s with pending := rest }) ∧
  (∀ s : State, s.pending = [] → step s = .next s)

/-! ### Reset and start-up (R181, R183 to R185, R194, and the reset values of every chapter) -/

/-- The reset values the rules give, block by block (R1, R7, R14, R22, R40, R44, R46, R64, R73, R84 to R86, R98, R103,
R118, R119, R125, R138 to R142, R147, R154, R159 to R161, R164, R168 to R171, R177, R178, R181, R186, R189 to R192).
Power-on and pin reset put the whole part back, with the straps read and the cause recorded (R183, R194); the values
the rules do not give are log entries 1 and 2. -/
def Obligations.ResetValues : Prop :=
  (let s := State.reset
   (s.tree.state = .off ∧ s.tree.recalDue = false ∧ s.tree.urgent = [] ∧ s.tree.normal = [] ∧ s.tree.orderSeq = 0
       ∧ s.tree.issued = [])
     ∧ (∀ i, s.slot i = SlotRecord.reset)
     ∧ (s.enrol.provision = [] ∧ s.enrol.strangers = [] ∧ s.enrol.roll.phase = .idle ∧ s.enrol.roll.due = false
       ∧ s.enrol.roll.cause = none ∧ s.enrol.roll.followUps = 0 ∧ s.enrol.roll.streak = 0
       ∧ ∀ i, s.echo i = EchoRecord.absent)
     ∧ (s.sched.rollReq = false ∧ s.sched.echoReqs = [] ∧ s.sched.watchReq = none ∧ s.sched.rollProgress = none
       ∧ s.sched.rotation = 0 ∧ ∀ i, s.demand i = { fill := 0, report := none, history := [], lastBurst := none })
     ∧ (s.down.free = 8192 ∧ s.down.pressure = false ∧ s.down.pointer = 0
       ∧ ∀ i, s.queue i = { packets := [], deficit := 0, held := false })
     ∧ (s.watch.state = .clear ∧ s.watch.b16 = 0 ∧ s.watch.history = [] ∧ s.watch.test = none ∧ s.watch.locate = none
       ∧ ∀ i, s.strikes i = { tail := 0, head := 0 })
     ∧ (s.meter.queue = [] ∧ s.meter.taken = 0 ∧ s.meter.consumed = 0 ∧ s.meter.band = 0 ∧ s.meter.nextBoundary = none
       ∧ ∀ i, (s.ctx i).state = .none ∧ (s.ctx i).marks = Marks.clear ∧ s.spill i = ByteCounts.zero)
     ∧ (s.journal.records = [] ∧ s.journal.oldest = 1 ∧ s.journal.publish = 1 ∧ s.journal.append = 1
       ∧ s.journal.runMark = 0 ∧ s.journal.nearFull = false ∧ s.journal.inHand = none ∧ s.journal.ackTimer = none)
     ∧ (s.link.queue = [] ∧ s.link.backAlerts = [] ∧ s.link.backReplies = [] ∧ s.link.flags = 0
       ∧ s.link.lastCommand = none ∧ s.link.inFlight = 0)
     ∧ (s.roster.claims = [] ∧ s.roster.quarantine = [] ∧ s.roster.releases = [] ∧ s.roster.bars = []
       ∧ s.roster.refresh = 0 ∧ s.roster.rebroadcast = 0 ∧ ∀ i, s.claimDue i = none)
     ∧ s.clock.phase = .loading ∧ s.clock.cause = .power ∧ s.clock.osc = .internal ∧ s.clock.edgeLatch = false
     ∧ s.clock.failed = false ∧ s.clock.round = 0 ∧ s.clock.time = 0 ∧ s.clock.frac = 0 ∧ s.clock.trim = 0
     ∧ s.clock.state = .unset ∧ s.clock.peers = [] ∧ s.clock.beacon = .none) ∧
  (∀ (straps : BitVec 5) (s : State),
     exec (.powerOnReset straps) s = .next { State.reset with
       link := { State.reset.link with station := straps }, pending := s.pending } ∧
     exec (.pinReset straps) s = .next { State.reset with
       link := { State.reset.link with station := straps }, clock := { State.reset.clock with cause := .pin }
       pending := s.pending })

/-- A read attempt while LOADING (R183 to R185, R197): a whole image with its checksum is kept, every item in range; a
failed attempt is counted, and the third is CONFIG FAULT with its event flag, time UNSET with trim 0, no beacon in hand and
no TIME frame left to send (R163, R183).
The write-back of the start count while LOADING (R185, R197): the two bytes at addresses 207 and 208 are written, most
significant first, and no others; confirmed, the configuration and the run mark are handed over,
the part is RUNNING and the tree port STARTING with its count begun; the third write not confirmed is CONFIG FAULT.
What CONFIG FAULT does with time that a TIME frame had set in LOADING is the model's choice, log entry 46. -/
def Obligations.StartUpRuns : Prop :=
  (∀ s : State, s.clock.phase = .loading → s.clock.image = none →
     (∀ bs : List Byte, bs.length = 209 → fieldNat bs 205 2 = (check16 (field bs 0 205)).toNat →
       ∃ im : Image,
         exec (.configReadAttempt (some bs)) s = .next { s with clock := { s.clock with image := some im } }
           ∧ im.startCount = BitVec.ofNat 16 (fieldNat bs 207 2) ∧ im.config.InRange
           ∧ im.config.controller = min (fieldNat bs 0 1) 31 ∧ im.config.collector = min (fieldNat bs 1 1) 31
           ∧ im.config.budget = min (fieldNat bs 2 2) 1900 ∧ im.config.poll = max 1 (min 64 (fieldNat bs 4 1))
           ∧ im.config.rollPeriod = max 64 (min 4096 (fieldNat bs 5 2))
           ∧ im.config.threshold = max 1 (min 4095 (fieldNat bs 7 2))
           ∧ im.config.poolLow = min (fieldNat bs 11 2) 8190 ∧ im.config.pacing = max 1 (fieldNat bs 202 1)
           ∧ im.config.alertMask = BitVec.ofNat 16 (fieldNat bs 203 2)) ∧
     (∀ answer : Option (List Byte),
       (∀ bs, answer = some bs → bs.length < 209 ∨ fieldNat bs 205 2 ≠ (check16 (field bs 0 205)).toNat) →
       (s.clock.reads < 2 →
         exec (.configReadAttempt answer) s = .next { s with clock := { s.clock with reads := s.clock.reads + 1 } }) ∧
       (2 ≤ s.clock.reads →
         ∃ t, exec (.configReadAttempt answer) s = .next t
           ∧ t = { s with
               clock := { s.clock with
                 reads := s.clock.reads + 1, phase := .configFault, state := .unset, trim := 0, beacon := .none }
               link := t.link }
           ∧ s.link.FaultEntered t.link s.clock.time))) ∧
  (∀ (s : State) (im : Image), s.clock.phase = .loading → s.clock.image = some im →
     let written : List Host.Cell :=
       [(207, BitVec.ofNat 8 ((im.startCount + 1).toNat / 256)), (208, BitVec.ofNat 8 (im.startCount + 1).toNat)]
     (let step := 60000 * im.config.interval;
       exec (.startCountWriteBack (some (im.startCount + 1))) s = .next { s with
         config := im.config
         journal := { s.journal with runMark := im.startCount + 1, pacing := 0 }
         clock := { s.clock with
           startWritten := written, phase := .running, edges := 0, edgeLatch := false }
         meter := { s.meter with
           band := bandAt im.config s.clock.state s.clock.time
           nextBoundary := some ((s.clock.time.toNat / step + 1) * step) }
         tree := { s.tree with state := .starting } }) ∧
     (∀ readBack, readBack ≠ some (im.startCount + 1) →
       (s.clock.writes < 2 →
         exec (.startCountWriteBack readBack) s = .next { s with
           clock := { s.clock with startWritten := written, writes := s.clock.writes + 1 } }) ∧
       (2 ≤ s.clock.writes →
         ∃ t, exec (.startCountWriteBack readBack) s = .next t
           ∧ t = { s with
               clock := { s.clock with
                 startWritten := written, writes := s.clock.writes + 1, phase := .configFault
                 state := .unset, trim := 0, beacon := .none }
               link := t.link }
           ∧ s.link.FaultEntered t.link s.clock.time)))

/-! ### The clock monitor, DARK and calibration (R1, R2, R4, R28, R99, R186, R187) -/

/-- A line clock failure (R1, R186): the line oscillator out, the count begun again, the failed mark set with CLOCK_FAIL
once, and the tree port moved by R1's table; in OFF the monitor does not run.
A count complete (R1, R187): the line oscillator in, the failed mark cleared with CLOCK_RESTORED if it was set; STARTING
goes to CALIBRATING, DARK to LIT or, with the recalibration-due mark, to CALIBRATING. That a completed count stands at
4,096 edges with the edge latch set is the model's choice, log entry 9. -/
def Obligations.ClockMonitorMoves : Prop :=
  (∀ s : State,
     (s.tree.state = .off → exec .lineClockFailure s = .next s) ∧
     (s.tree.state ≠ .off →
       ∃ t, exec .lineClockFailure s = .next t
         ∧ t.clock = { s.clock with osc := .internal, edges := 0, edgeLatch := false, failed := true }
         ∧ (s.clock.failed = true → t.link = s.link) ∧ (s.clock.failed = false → s.Raised t .clockFail [])
         ∧ (s.tree.state = .calibrating ∨ s.tree.state = .starting → t.tree.state = .starting)
         ∧ (s.tree.state = .lit ∨ s.tree.state = .dark → t.tree.state = .dark)
         ∧ (s.tree.state = .calibrating → t.watch = { s.watch with calib := [] })
         ∧ (s.tree.state ≠ .lit → t.home = s.home ∧ t.enrol = s.enrol ∧ t.sched = s.sched ∧ t.down = s.down)
         ∧ t.meter = s.meter ∧ t.journal = s.journal ∧ t.config = s.config ∧ t.pending = s.pending)) ∧
  (∀ s : State,
     let clock : Clock := { s.clock with osc := .line, failed := false, edges := 4096, edgeLatch := true }
     let told : State → Prop := fun t =>
       (s.clock.failed = true → s.Raised t .clockRestored []) ∧ (s.clock.failed = false → t.link = s.link)
     (s.tree.state = .starting →
       ∃ t, exec .startCountComplete s = .next t
         ∧ t = { s with
             clock := clock, link := t.link
             tree := { s.tree with state := .calibrating, holdStart := some s.clock.round, sampling := false } }
         ∧ told t) ∧
     (s.tree.state = .dark → s.tree.recalDue = true →
       ∃ t, exec .restoreCountComplete s = .next t
         ∧ t = { s with
             clock := clock, link := t.link
             tree := { s.tree with
               state := .calibrating, recalDue := false, holdStart := some s.clock.round, sampling := false } }
         ∧ told t) ∧
     (s.tree.state = .dark → s.tree.recalDue = false →
       ∃ t, exec .restoreCountComplete s = .next t
         ∧ t.clock = clock ∧ told t ∧ t.tree.state = .lit ∧ t.enrol.roll.counter = 16 ∧ t.home = s.home
         ∧ t.watch = s.watch ∧ t.down = s.down ∧ t.meter = s.meter ∧ t.journal = s.journal ∧ t.roster = s.roster
         ∧ (∀ i, (s.slot i).state = .resuming →
           (t.echo i).purpose = some .resume ∧ (t.echo i).phase = some .waiting ∧ (t.echo i).misses = 0)
         ∧ ∀ i, (s.slot i).state ≠ .resuming → t.echo i = s.echo i))

/-- Entry to DARK out of LIT (R4, R28, R49, R69, R70, R90, R118): no plan and no round is left in hand, the planner is
empty, the watch is CLEAR with its counts at 0, the roll call has ended, ACTIVE and LOST slots resume, a new assignment is
abandoned, a rejoin is LOST (or, lost for 240,000 rounds already, CLOSING at once), every hushed flag is clear and has set
its slot's wake-due flag (R117), and exactly ROLL, ASSIGN, ECHO, HOLDOFF and HUSH orders leave the lanes. That an absent
lost-since takes the round counter is the model's reading of R27, log entry 12. -/
def Obligations.DarkEntryClears : Prop :=
  ∀ s : State, s.tree.state = .lit →
    ∃ t, exec .lineClockFailure s = .next t
      ∧ (t.tree.issued = [] ∧ t.tree.txRound = none ∧ t.down.txBlocks = 0 ∧ t.down.free = s.down.free + s.down.txBlocks)
      ∧ (t.sched.rollReq = false ∧ t.sched.echoReqs = [] ∧ t.sched.watchReq = none ∧ t.sched.rollProgress = none)
      ∧ (∀ i, (t.demand i).history = [])
      ∧ (t.watch.state = .clear ∧ t.watch.b16 = s.watch.b16 ∧ t.watch.history = [] ∧ t.watch.test = none
        ∧ t.watch.locate = none ∧ ∀ i, t.strikes i = { tail := 0, head := 0 })
      ∧ (t.enrol.roll.phase = .idle ∧ t.enrol.roll.cause = none ∧ t.enrol.roll.followUps = 0 ∧ t.enrol.roll.streak = 0)
      ∧ (∀ i, (s.slot i).state = .active ∨ (s.slot i).state = .lost →
        (t.slot i).state = .resuming ∧ (t.slot i).serial = (s.slot i).serial ∧ (t.slot i).gen = (s.slot i).gen
          ∧ (t.slot i).lostSince = (s.slot i).lostSince)
      ∧ (∀ i, (s.slot i).state = .assigning → (s.slot i).rejoin = false →
        (t.slot i).state = .free ∧ (t.slot i).gen = (s.slot i).gen ∧ (t.slot i).releasePending = true)
      ∧ (∀ i, (s.slot i).state = .assigning → (s.slot i).rejoin = true →
        (t.slot i).serial = (s.slot i).serial ∧ (t.slot i).gen = (s.slot i).gen
          ∧ ((s.slot i).lostSince = none →
            (t.slot i).state = .lost ∧ (t.slot i).silent = 4
              ∧ (t.slot i).lostSince = some { round := s.clock.round, time := s.clock.time })
          ∧ ∀ l, (s.slot i).lostSince = some l → (t.slot i).lostSince = some l
            ∧ ((s.clock.round - l.round).toNat < 240000 → (t.slot i).state = .lost ∧ (t.slot i).silent = 4)
            ∧ (240000 ≤ (s.clock.round - l.round).toNat →
              (t.slot i).state = .closing ∧ (t.slot i).closeReason = some .lost))
      ∧ (∀ i, (s.slot i).state = .free ∨ (s.slot i).state = .resuming ∨ (s.slot i).state = .barred
          ∨ (s.slot i).state = .closing → (t.slot i).state = (s.slot i).state)
      ∧ (∀ i, (t.slot i).hushed = false)
      ∧ (∀ i, (t.slot i).state ≠ .free → (t.slot i).wakeDue = ((s.slot i).wakeDue || (s.slot i).hushed))
      ∧ (∀ e ∈ t.tree.urgent ++ t.tree.normal, e.body.leavesInDark = false)
      ∧ (∀ e ∈ s.tree.urgent, e.body.leavesInDark = false → e ∈ t.tree.urgent)
      ∧ ∀ e ∈ s.tree.normal, e.body.leavesInDark = false → e ∈ t.tree.normal

/-- The dark hold (R2): after 12,000 rounds the calibration round begins, and not before.
A calibration sample (R2, R46, R99): the 64th writes the baseline and takes the tree port to LIT with the roll-call
counter at 16. -/
def Obligations.CalibrationRuns : Prop :=
  (∀ (s : State) (n : Round), s.tree.state = .calibrating → s.tree.holdStart = some n →
     (12000 ≤ (s.clock.round - n).toNat →
       exec .darkHoldEnd s = .next { s with tree := { s.tree with sampling := true } }) ∧
     ((s.clock.round - n).toNat < 12000 → exec .darkHoldEnd s = .next s)) ∧
  (∀ (s : State) (count : BitVec 12), s.tree.state = .calibrating → s.tree.sampling = true →
     (s.watch.calib.length < 63 →
       exec (.calibrationSample count) s =
         .next { s with watch := { s.watch with calib := s.watch.calib ++ [count.toNat] } }) ∧
     (s.watch.calib.length = 63 →
       ∃ t, exec (.calibrationSample count) s = .next t
         ∧ t.watch = { s.watch with calib := [], b16 := 16 * ((s.watch.calib.sum + count.toNat) / 64) }
         ∧ t.tree.state = .lit ∧ t.enrol.roll.counter = 16
         ∧ t = { s with tree := t.tree, enrol := t.enrol, sched := t.sched, watch := t.watch }))

/-! ### The round boundary (R6, R16, R73 to R79, R87 to R89, R181, R189) -/

/-- A round boundary in every state of the part (R181, R189): the round number rises by 1, district time advances by
250,000 ns plus the trim, and the tree port's state, the configuration and the time state stand. While RUNNING a change of
the minute of day evaluates the current band again; until then, and in CONFIG FAULT, the band stands (R125).
The band of a configuration at a time state and a district time (R125): the fallback band while UNSET and without a switch
point; else that of the switch point with the greatest minute at or before the minute of day, or, with none there, of the
greatest minute of all, the one given later where two share a minute. -/
def Obligations.RoundBoundaryAdvances : Prop :=
  (∀ (c : Configuration) (st : TimeState) (time : DTime),
     let m := time.toNat / 60000 % 1440
     (st = .unset ∨ c.switchPoints = [] → bandAt c st time = c.fallback) ∧
     (st ≠ .unset → ∀ (pre post : List SwitchPoint) (p : SwitchPoint), c.switchPoints = pre ++ p :: post →
       (p.minute ≤ m → (∀ q ∈ pre, q.minute ≤ m → q.minute ≤ p.minute) → (∀ q ∈ post, q.minute ≤ m → q.minute < p.minute) →
         bandAt c st time = p.band) ∧
       ((∀ q ∈ c.switchPoints, m < q.minute) → (∀ q ∈ pre, q.minute ≤ p.minute) → (∀ q ∈ post, q.minute < p.minute) →
         bandAt c st time = p.band))) ∧
  (∀ (s : State) (offersFirst : Bool) (upsets : List TallyUpset),
     let f := (250000 + s.clock.trim + (s.clock.frac : Int)).toNat
     ∃ t, exec (.roundBoundary offersFirst upsets) s = .next t
       ∧ t.clock = { s.clock with
           round := s.clock.round + 1, secondCount := s.clock.secondCount + 1
           time := s.clock.time + BitVec.ofNat 48 (f / 1000000), frac := f % 1000000, beacon := t.clock.beacon }
       ∧ t.meter.band = (if s.clock.phase = .running
             ∧ t.clock.time.toNat / 60000 % 1440 ≠ s.clock.time.toNat / 60000 % 1440 then
           bandAt s.config s.clock.state t.clock.time else s.meter.band)
       ∧ t.tree.state = s.tree.state ∧ t.config = s.config ∧ t.pending = s.pending
       ∧ t.journal.records = s.journal.records ∧ (∀ i, (t.slot i).state = (s.slot i).state)
       ∧ (s.tree.state ≠ .lit → t.down = s.down ∧ t.tree.txRound = s.tree.txRound ∧ t.tree.issued = s.tree.issued))

/-- A round composed while LIT (R3, R6, R7, R16, R88, R89): its number, four order slots, the plan built for it or the
empty plan, at most 65,536 payload bytes, whose blocks stay out of the pool, and the issued-plan record kept last. -/
def Obligations.RoundComposedWhileLit : Prop :=
  ∀ (s : State) (offersFirst : Bool) (upsets : List TallyUpset), s.tree.state = .lit →
    ∃ t r, exec (.roundBoundary offersFirst upsets) s = .next t ∧ t.tree.txRound = some r
      ∧ r.round = s.clock.round + 1 ∧ r.slots.length = 4
      ∧ (∀ p, s.sched.nextPlan = some p → p.round = s.clock.round + 1 → r.plan = p)
      ∧ (s.sched.nextPlan = none →
        r.plan = { round := s.clock.round + 1, entries := []
                   spans := { rollHead := false, rollTail := false, window := false, echoes := [] } })
      ∧ ((r.segments.flatMap (·.packets)).map List.length).sum ≤ 65536
      ∧ t.down.txBlocks = ((r.segments.flatMap (·.packets)).map fun p => (p.length + 255) / 256).sum
      ∧ r.check = headerCheck r.round r.slots r.plan r.segments.length
      ∧ t.tree.issued.getLast? = some { plan := r.plan, classified := 0, echoesEnded := [], echoLight := [] }

/-- The order queue (R4, R5, R14, R16, R17). An offer is reported at once where R4 and R5 say so, refused by a full lane or a
normal lane that holds an entry for the slot, and else takes the next sequence at the end of its lane.
The four order slots of a round, with the round-start offers made after it (the order is log entry 5): entries bound to the
round, urgent repeats, urgent first sends, normal repeats, normal first sends, each class oldest first, those of another
generation passed over, the unused slots empty (their sequence and target are log entry 34, and the order of several bound
entries log entry 35).
A send: HUSH, WAKE, SEVER and RELEASE stay for two more rounds and leave at the third, which clears release pending or
wake-due; ASSIGN, ECHO and HOLDOFF wait; a ROLL is done, the roll call OPEN with its counter set. -/
def Obligations.OrdersOfferedAndSent : Prop :=
  (∀ (s : State) (lane : Lane) (body : OrderBody) (target : Option (SlotId × Gen)),
     let full := match lane with
       | .urgent => 8 ≤ s.tree.urgent.length
       | .normal => 24 ≤ s.tree.normal.length ∨ ∃ i g, target = some (i, g) ∧ ∃ e ∈ s.tree.normal, e.isFor i = true
     let entry : OrderEntry := {
       body := body, target := target, seq := s.tree.orderSeq + 1, tries := 0, lastSent := none, bound := none
       waiting := false }
     let open_ := s.tree.state = .lit ∨ (s.tree.state = .dark ∧ body.needsSpan = false)
     (body.needsSpan = true → s.tree.state ≠ .lit → s.offerOrder lane body target = (s, .abandoned)) ∧
     (body.needsSpan = false → s.tree.state = .off ∨ s.tree.state = .starting ∨ s.tree.state = .calibrating →
       s.offerOrder lane body target = (s, if body.isHoldoff then .abandoned else .completed)) ∧
     (open_ → full → s.offerOrder lane body target = (s, .refused)) ∧
     (open_ → ¬ full → s.offerOrder lane body target =
       ({ s with tree := match lane with
          | .urgent => { s.tree with orderSeq := s.tree.orderSeq + 1, urgent := s.tree.urgent ++ [entry] }
          | .normal => { s.tree with orderSeq := s.tree.orderSeq + 1, normal := s.tree.normal ++ [entry] } },
        .accepted (s.tree.orderSeq + 1)))) ∧
  (∀ (s : State) (upsets : List TallyUpset), s.tree.state = .lit →
     let n := s.clock.round + 1
     let bound := s.tree.urgent.filter fun e => (e.bound.map (·.round)) == some n && !e.waiting
     let again : List OrderEntry → List OrderEntry := fun es =>
       es.filter fun e => !e.body.needsSpan && !e.waiting && decide (0 < e.tries) && e.lastSent != some n
     let fresh : List OrderEntry → List OrderEntry := fun es =>
       es.filter fun e => !e.body.needsSpan && !e.waiting && e.tries == 0
     let candidates := bound ++ again s.tree.urgent ++ fresh s.tree.urgent ++ again s.tree.normal ++ fresh s.tree.normal
     let chosen := (candidates.filter fun e => match e.target with
       | none => true
       | some (i, g) => (s.slot i).gen == g).take 4
     ∃ t r, exec (.roundBoundary false upsets) s = .next t ∧ t.tree.txRound = some r
       ∧ r.slots = chosen.map OrderEntry.slotOf ++
         List.replicate (4 - chosen.length) { kind := 0, seq := 0, target := 0, args := List.replicate 12 0 }) ∧
  (∀ (s : State) (n : Round) (e : OrderEntry),
     let t := s.sendOrder n e
     let sent := { e with tries := e.tries + 1, lastSent := some n }
     (e.body = .hush ∨ (∃ w, e.body = .wake w) ∨ (∃ x, e.body = .sever x) ∨ e.body = .release →
       (e.tries < 2 → t = { s with tree := { s.tree with
         urgent := replaceFirst e sent s.tree.urgent, normal := replaceFirst e sent s.tree.normal } }) ∧
       (2 ≤ e.tries → t.tree = { s.tree with urgent := s.tree.urgent.erase e, normal := s.tree.normal.erase e }
         ∧ (∀ i g, e.body = .release → e.target = some (i, g) →
           t.slot i = { s.slot i with releasePending := false })
         ∧ (∀ i g, e.body = .wake .wakeDue → e.target = some (i, g) →
           t.slot i = { s.slot i with wakeDue := false }))) ∧
     ((∃ x h, e.body = .assign x h) ∨ e.body = .echo ∨ (∃ h, e.body = .holdoff h) →
       t.tree = { s.tree with
         urgent := replaceFirst e { sent with waiting := true } s.tree.urgent
         normal := replaceFirst e { sent with waiting := true } s.tree.normal }) ∧
     (e.body = .roll →
       t.tree = { s.tree with urgent := s.tree.urgent.erase e, normal := s.tree.normal.erase e }
         ∧ t.enrol.roll.phase = .opened ∧ t.enrol.roll.openRound = some n
         ∧ t.enrol.roll.counter = s.config.rollPeriod))

/-- The visits of the round payload scheduler (R86 to R89), where packets have a length the port accepts and weights are in
range. Each slot gives packets from the head of its queue, only ACTIVE slots give any, and the first served slot from the
pointer is visited first. What a slot with packets left gained in deficit and sent is a whole number of quanta, and an
emptied queue keeps no deficit. The round ends on the slot at the pointer, held, whose head packet exceeds the budget left,
or when no ACTIVE slot has a packet left. Every packet taken makes one DOWN update while the meter queue has room; that it
bears the band of after a change at this boundary is the model's choice, log entry 57. -/
def Obligations.PayloadVisited : Prop :=
  ∀ (s : State) (offersFirst : Bool) (upsets : List TallyUpset), s.tree.state = .lit →
    (∀ i, ∀ p ∈ (s.queue i).packets, 64 ≤ p.length ∧ p.length ≤ 2048) →
    (∀ p : Fin 8, 1 ≤ (s.config.profiles.get p).weight) →
    ∃ t r, exec (.roundBoundary offersFirst upsets) s = .next t ∧ t.tree.txRound = some r
      ∧ (let taken : SlotId → List (List Byte) := fun i => (r.segments.filter (·.slot == i)).flatMap (·.packets)
        let packets := r.segments.flatMap (·.packets)
        let budget := 65536 - (packets.map List.length).sum
        (∀ i, taken i ++ (t.queue i).packets = (s.queue i).packets)
          ∧ (∀ i, (s.slot i).state ≠ .active → t.queue i = s.queue i)
          ∧ (∀ (i : SlotId), (s.slot i).state = .active → (s.queue i).packets ≠ [] → (s.queue i).held = false →
            (∀ j : SlotId, (j - s.down.pointer).val < (i - s.down.pointer).val →
              (s.slot j).state ≠ .active ∨ (s.queue j).packets = []) →
            (r.segments.head?.map (·.slot)) = some i)
          ∧ (∀ i, (t.queue i).packets ≠ [] →
            ∃ k, (t.queue i).deficit + ((taken i).map List.length).sum =
              (s.queue i).deficit + k * (2048 * (s.slotProfile i).weight))
          ∧ (∀ i, (s.slot i).state = .active → (s.queue i).packets ≠ [] → (t.queue i).packets = [] →
            t.queue i = { packets := [], deficit := 0, held := false })
          ∧ ((∃ p rest, (s.slot t.down.pointer).state = .active ∧ (t.queue t.down.pointer).held = true
              ∧ (t.queue t.down.pointer).packets = p :: rest ∧ budget < p.length)
            ∨ ∀ i, (s.slot i).state = .active → (t.queue i).packets = [])
          ∧ (s.meter.queue.length + packets.length ≤ 64 →
            t.meter.queue = s.meter.queue ++ r.segments.flatMap fun g => g.packets.map fun p =>
              { slot := g.slot, gen := (s.slot g.slot).gen, kind := .down, bytes := p.length, assured := 0
                band := t.meter.band }))

/-- The plan built at a round start while LIT (R7, R73 to R79): it is for the round after the one that begins; its bursts
stand end to end from the head end and fit the free interval; every burst is of an ACTIVE slot, or a LOST slot's without
payload.
Its bursts are those of the slots that may send, none with its hushed flag set as the build finds it, in rotation order and
as many as the overhead leaves room for (R75, R76). The assured ticks serve each demand up to the slot's rate, and the
surplus ticks what of the demand is unmet: each in full where they fit, else each the whole part of its proportion, and what
is left one tick at a time in rotation order until it is used (R77, R78).
The build finds the hushed flags as the orders offered and sent before it leave them: as they stood, where the watch has no
order in hand. That the offers come before or after it is the operand of log entry 5; "later" is log entry 39. -/
def Obligations.PlanFitsRound : Prop :=
  ∀ (s : State) (offersFirst : Bool) (upsets : List TallyUpset), s.tree.state = .lit →
    let begun := ((s.countRound.advanceTime).applyUpsets upsets).beginHeldRetest
    let found := (if offersFirst then begun.roundOffers else begun).composeRound (s.clock.round + 1)
    ∃ t p, exec (.roundBoundary offersFirst upsets) s = .next t ∧ t.sched.nextPlan = some p
      ∧ p.round = s.clock.round + 2
      ∧ (s.watch.orders = [] → ∀ i, (found.slot i).hushed = (s.slot i).hushed)
      ∧ (∀ e ∈ p.entries, (found.slot e.slot).hushed = false ∧ e.gen = (s.slot e.slot).gen)
      ∧ (let demand : SlotId → Nat := fun i =>
          let d := s.demand i
          let granted := match d.report with
            | none => 0
            | some r => ((d.history.filter fun g => 0 < (g.round - r).toInt).map (·.payload)).sum
          min (s.slot i).ceiling ((d.fill + 15) / 16 - granted)
        let due : SlotId → Bool := fun i => match (s.demand i).lastBurst with
          | none => true
          | some l => decide (s.config.poll ≤ (p.round - l).toNat)
        let sends : SlotId → Bool := fun i => !(found.slot i).hushed
          && ((s.slot i).state == .active && (decide (0 < demand i) || due i) || (s.slot i).state == .lost && due i)
        let free := p.spans.tailStart - p.spans.headEnd
        let left := free - 3 * p.entries.length
        let want : PlanEntry → Nat := fun e => if (s.slot e.slot).state = .active then demand e.slot else 0
        let shared : Nat → (PlanEntry → Nat) → (PlanEntry → Nat) → Prop := fun q wants got =>
          let total := (p.entries.map wants).sum
          (total ≤ q → ∀ e ∈ p.entries, got e = wants e) ∧
          (q < total →
            (p.entries.map got).sum = q
              ∧ (∀ e ∈ p.entries, wants e * q / total ≤ got e ∧ got e ≤ wants e * q / total + 1 ∧ got e ≤ wants e)
              ∧ p.entries.Pairwise fun e f =>
                got f = wants f * q / total + 1 → wants e * q / total < wants e → got e = wants e * q / total + 1)
        p.entries.map (·.slot) =
            ((allSlots.map (s.sched.rotation + ·)).filter sends).take (free / 3)
          ∧ shared left (fun e => min (want e) (s.slot e.slot).assured) (·.assured)
          ∧ shared (left - (p.entries.map (·.assured)).sum) (fun e => want e - e.assured) (fun e => e.payload - e.assured))
      ∧ p.spans.headEnd + (p.entries.map fun e => 3 + e.payload).sum ≤ max p.spans.headEnd p.spans.tailStart
      ∧ (∀ e, p.entries[0]? = some e → e.start = p.spans.headEnd)
      ∧ (∀ (k : Nat) a b, p.entries[k]? = some a → p.entries[k + 1]? = some b → b.start = a.start + (3 + a.payload))
      ∧ (∀ e ∈ p.entries, e.assured ≤ e.payload
        ∧ ((s.slot e.slot).state = .active ∨ ((s.slot e.slot).state = .lost ∧ e.payload = 0)))

/-! ### Bursts, answers and exchanges (R8 to R11, R18, R19, R26, R51 to R61) -/

/-- A planned burst whose header does not pass, or names another slot (R10, R11, R26, R27, R61): GARBLED by a set latch,
SILENT by a clear one; nothing is forwarded, metered or reported; a SILENT burst of an ACTIVE slot that is not hushed raises
its count, and the fourth makes it LOST; a GARBLED one counts toward the re-echo at 8. That lost-since takes the round
counter at that moment, and not the upstream round of the burst, is the model's reading of R27, log entry 12. -/
def Obligations.BurstNotHeard : Prop :=
  ∀ (s : State) (rx : BurstRx) (r : Issued) (e : PlanEntry),
    s.reception = some r → r.plan.entries[r.classified]? = some e →
    (∀ h, burstHeader rx.header = some h → h.slot ≠ e.slot.val) →
    ∃ t, exec (.burstClassify rx) s = .next t
      ∧ t.down.egress = s.down.egress ∧ t.down.queues = s.down.queues ∧ t.down.free = s.down.free
      ∧ t.sched.demand = s.sched.demand ∧ t.meter = s.meter ∧ t.journal = s.journal ∧ t.link = s.link
      ∧ t.clock = s.clock ∧ t.config = s.config ∧ t.pending = s.pending
      ∧ (∀ j, j ≠ e.slot → t.slot j = s.slot j)
      ∧ (rx.light = true → t.home = s.home)
      ∧ ((s.slot e.slot).gen ≠ e.gen ∨ (s.slot e.slot).state ≠ .active → t.home = s.home ∧ t.enrol = s.enrol)
      ∧ ((s.slot e.slot).gen = e.gen → (s.slot e.slot).state = .active → rx.light = false →
        (if (s.slot e.slot).hushed then t.slot e.slot = s.slot e.slot
          else if (s.slot e.slot).silent < 3 then
            t.slot e.slot = { s.slot e.slot with silent := (s.slot e.slot).silent + 1 }
          else (s.slot e.slot).lostSince = none →
            t.slot e.slot = { s.slot e.slot with
              state := .lost, silent := 4, lostSince := some { round := s.clock.round, time := s.clock.time } }))
      ∧ ((s.slot e.slot).gen = e.gen → (s.slot e.slot).state = .active → rx.light = true →
        (if (s.echo e.slot).garbledRun < 7 then
            (t.echo e.slot).garbledRun = (s.echo e.slot).garbledRun + 1 ∧ t.enrol.reechoes = s.enrol.reechoes
          else (t.echo e.slot).garbledRun = 0 ∧ t.enrol.reechoes = s.enrol.reechoes ++ [e.slot]))

/-- A HEARD burst of the slot and generation planned (R10, R11, R26, R71, R81, R96): an ACTIVE or LOST slot is ACTIVE and
heard, its good packets leave with its home tag and are metered as UP, split at 16 bytes a tick of the assured ticks; any
other slot that is not FREE only takes the last-heard round, and its packets are discarded unbilled. -/
def Obligations.BurstHeard : Prop :=
  ∀ (s : State) (rx : BurstRx) (r : Issued) (e : PlanEntry) (h : BurstHeader),
    s.reception = some r → r.plan.entries[r.classified]? = some e →
    burstHeader rx.header = some h → h.slot = e.slot.val → (s.slot e.slot).gen = e.gen →
    let packets := burstPackets e.payload rx.payload
    let b := (packets.map List.length).sum
    ∃ t, exec (.burstClassify rx) s = .next t
      ∧ (∀ j, j ≠ e.slot → t.slot j = s.slot j)
      ∧ t = { s with
          tree := t.tree, home := t.home, enrol := t.enrol, sched := t.sched, meter := t.meter
          down := { s.down with egress := t.down.egress } }
      ∧ ((s.slot e.slot).state = .active ∨ (s.slot e.slot).state = .lost →
        t.slot e.slot = { s.slot e.slot with
            state := .active, lastHeard := some r.plan.round, silent := 0
            rejoin := if (s.slot e.slot).state = .lost then false else (s.slot e.slot).rejoin
            lostSince := if (s.slot e.slot).state = .lost then none else (s.slot e.slot).lostSince }
          ∧ (∀ x pe, (s.slot e.slot).serial = some x → s.entryOf x = some pe →
            t.down.egress = s.down.egress ++ packets.map fun p => { tag := pe.tag, content := p })
          ∧ (0 < b → s.meter.TakesUpdate t.meter e.slot e.gen .up b (min b (16 * e.assured)))
          ∧ (b = 0 → t.meter = s.meter))
      ∧ ((s.slot e.slot).state = .assigning ∨ (s.slot e.slot).state = .resuming ∨ (s.slot e.slot).state = .barred
          ∨ (s.slot e.slot).state = .closing →
        t.slot e.slot = { s.slot e.slot with lastHeard := some r.plan.round }
          ∧ t.down.egress = s.down.egress ∧ t.meter = s.meter)
      ∧ ((s.slot e.slot).state = .free → t.home = s.home ∧ t.down.egress = s.down.egress ∧ t.meter = s.meter)
      ∧ ((∀ m, (s.demand e.slot).report = some m → 0 < (r.plan.round - m).toInt) →
        t.demand e.slot = { s.demand e.slot with fill := h.fill, report := some r.plan.round })

/-- A valid answer that lies whole in a narrow echo span (R9, R57) is kept for the end of the span with its arrival counted
from its downstream round, the activity latch cleared at its end, and light that its sample found noted for the span's
report. An answer that is not valid, or that lies in no span, is not decoded: nothing changes. -/
def Obligations.EchoAnswerKept : Prop :=
  ∀ (s : State) (rx : AnswerRx) (r : Issued), s.reception = some r →
    (∀ (a : Identity) (e : EchoSpan), validAnswer rx = some a →
      (r.plan.spans.rollTail = true → rx.offset.val < 348) → (r.plan.spans.rollHead = true → 64 < rx.offset.val) →
      r.plan.spans.echoes = [e] → e.start ≤ rx.offset.val → rx.offset.val + 4 ≤ e.start + 16 →
      exec (.answerDecode rx) s = .next { s with
        tree := { s.tree with
          latch := false
          issued := { r with
            echoLight := if rx.light = true ∧ e.start ∉ r.echoLight then r.echoLight ++ [e.start] else r.echoLight }
            :: s.tree.issued.tail }
        enrol := { s.enrol with
          answers := s.enrol.answers ++
            [{ round := r.plan.round, start := e.start, serial := a.serial, ticks := 4096 + rx.offset.val
               phase := rx.phase.val }] } }) ∧
    (validAnswer rx = none → exec (.answerDecode rx) s = .next s) ∧
    ((r.plan.spans.rollTail = true → rx.offset.val < 348) → (r.plan.spans.rollHead = true → 64 < rx.offset.val) →
      (∀ e ∈ r.plan.spans.echoes, rx.offset.val < e.start ∨ e.start + 12 < rx.offset.val) →
      exec (.answerDecode rx) s = .next s)

/-- A valid answer in the roll-call span from a serial that no slot holds (R9, R44, R51 to R54): in quarantine, without a
provision entry, out of range or without room it is turned away, on the strangers list for the first time, again, or in the
place of the oldest entry of a full list, and no slot changes; otherwise the lowest available slot takes it in ASSIGNING at
the next generation with an ASSIGN exchange, and every other slot stands. -/
def Obligations.RollAnswerOfNewHome : Prop :=
  ∀ (s : State) (rx : AnswerRx) (r : Issued) (a : Identity) (n : Round),
    s.reception = some r → validAnswer rx = some a → s.enrol.roll.openRound = some n →
    spanAt r.plan rx.offset.val = some .roll → s.holder a.serial = none →
    let ticks := 2048 * ((r.plan.round - n).toNat + 2) + rx.offset.val
    let rtd : Int := 16 * ((ticks : Int) - 6492 - a.delay) + rx.phase.val
    ∃ t, exec (.answerDecode rx) s = .next t ∧ t.tree.latch = false
      ∧ t.enrol.roll = { s.enrol.roll with answered := true, light := s.enrol.roll.light || rx.light }
      ∧ t.enrol.provision = s.enrol.provision ∧ t.journal = s.journal ∧ t.roster = s.roster ∧ t.clock = s.clock
      ∧ t.config = s.config ∧ t.pending = s.pending
      ∧ (s.quarantined a.serial = true → s.TurnedAway t a.serial .quarantined)
      ∧ (s.quarantined a.serial = false → s.entryOf a.serial = none → s.TurnedAway t a.serial .unprovisioned)
      ∧ (∀ pe, s.quarantined a.serial = false → s.entryOf a.serial = some pe →
        (rtd < 16 ∨ 27200 < rtd → s.TurnedAway t a.serial .tooFar)
        ∧ (16 ≤ rtd → rtd ≤ 27200 → (∀ i, (s.slot i).available = false) → s.TurnedAway t a.serial .tableFull)
        ∧ (∀ i, 16 ≤ rtd → rtd ≤ 27200 → (s.slot i).available = true → (∀ j, j < i → (s.slot j).available = false) →
          let f := s.profileOf pe.profile
          t.slot i = { SlotRecord.reset with
              gen := (s.slot i).gen + 1, state := .assigning, serial := some a.serial, profile := some pe.profile
              assured := min f.assured s.room, ceiling := f.ceiling, tariff := some f.tariff
              short := decide (min f.assured s.room < f.assured)
              rtd := some (BitVec.ofInt 16 rtd), holdoff := some (BitVec.ofInt 16 (65536 - rtd))
              contested := s.foreignClaim a.serial }
            ∧ (∀ j, j ≠ i → t.slot j = s.slot j)
            ∧ (t.echo i).purpose = some .assign ∧ (t.echo i).phase = some .waiting ∧ (t.echo i).misses = 0
            ∧ (t.echo i).homeHoldoff = some (BitVec.ofInt 16 (65536 - rtd))
            ∧ ∀ k ∈ t.enrol.strangers, k.serial ≠ a.serial))

/-- A valid answer in the roll-call span from a serial that a slot holds (R14, R24, R52): for a BARRED slot a SEVER goes to
the urgent lane unless one of the slot is there, kept for the next round start when the lane is full, and nothing else
happens; an ACTIVE, LOST or RESUMING slot not hushed rejoins at its generation when the RTD is in range, and out of range
the serial is turned away as TOO_FAR with the slot as it was; one in ASSIGNING or CLOSING, or hushed, ignores it. -/
def Obligations.RollAnswerOfHeldHome : Prop :=
  ∀ (s : State) (rx : AnswerRx) (r : Issued) (a : Identity) (n : Round) (i : SlotId),
    s.reception = some r → validAnswer rx = some a → s.enrol.roll.openRound = some n →
    spanAt r.plan rx.offset.val = some .roll → s.holder a.serial = some i →
    let ticks := 2048 * ((r.plan.round - n).toNat + 2) + rx.offset.val
    let rtd : Int := 16 * ((ticks : Int) - 6492 - a.delay) + rx.phase.val
    let takesRejoin := (s.slot i).state = .active ∨ (s.slot i).state = .lost ∨ (s.slot i).state = .resuming
    ∃ t, exec (.answerDecode rx) s = .next t ∧ t.tree.latch = false
      ∧ t.enrol.roll = { s.enrol.roll with answered := true, light := s.enrol.roll.light || rx.light }
      ∧ t.enrol.provision = s.enrol.provision ∧ t.journal = s.journal ∧ t.roster = s.roster ∧ t.clock = s.clock
      ∧ t.config = s.config ∧ t.pending = s.pending
      ∧ ((s.slot i).state = .barred →
        t.home.slots = s.home.slots ∧ t.enrol.strangers = s.enrol.strangers ∧ t.enrol.echoes = s.enrol.echoes
          ∧ ((∃ e ∈ s.tree.urgent, e.isFor i = true ∧ e.body.isSever = true) →
            t.home = s.home ∧ t.tree.urgent = s.tree.urgent)
          ∧ ((∀ e ∈ s.tree.urgent, ¬ (e.isFor i = true ∧ e.body.isSever = true)) →
            (s.tree.urgent.length < 8 →
              t.tree.urgent = s.tree.urgent ++
                [{ body := .sever a.serial, target := some (i, (s.slot i).gen), seq := s.tree.orderSeq + 1, tries := 0
                   lastSent := none, bound := none, waiting := false }])
            ∧ (8 ≤ s.tree.urgent.length →
              t.tree.urgent = s.tree.urgent ∧ (t.owed i).sever = some ((s.slot i).gen, a.serial))))
      ∧ ((s.slot i).state = .assigning ∨ (s.slot i).state = .closing
          ∨ ((s.slot i).state ≠ .barred ∧ (s.slot i).hushed = true) →
        t.home = s.home ∧ t.enrol.strangers = s.enrol.strangers ∧ t.enrol.echoes = s.enrol.echoes)
      ∧ (takesRejoin → (s.slot i).hushed = false → 16 ≤ rtd → rtd ≤ 27200 →
        t.slot i = { s.slot i with
            state := .assigning, rejoin := true
            rtd := some (BitVec.ofInt 16 rtd), holdoff := some (BitVec.ofInt 16 (65536 - rtd)) }
          ∧ (∀ j, j ≠ i → t.slot j = s.slot j) ∧ t.ctx i = s.ctx i
          ∧ (t.echo i).purpose = some .assign ∧ (t.echo i).phase = some .waiting)
      ∧ (takesRejoin → (s.slot i).hushed = false → rtd < 16 ∨ 27200 < rtd → s.TurnedAway t a.serial .tooFar)

/-- The roll-call span reported at the end of its head part (R9, R49, R50, R67): the phase is IDLE, light without a valid
answer leads to a follow-up up to the eighth, and a streak of 8 blind roll calls brings a watch in CLEAR or ALERT to
CONFIRMING. That the activity latch stands as its sample found it is the model's choice, log entry 51. -/
def Obligations.RollCallReported : Prop :=
  ∀ (s : State) (r : Issued) (n : Round) (reported : Bool),
    s.reception = some r → s.enrol.roll.openRound = some n → s.enrol.roll.phase = .opened →
    r.plan.spans.rollHead = true → r.plan.round = n + 2 →
    let c := s.enrol.roll
    let light := c.light || reported
    let blind := light && !c.answered
    let follow := light && decide (c.followUps < 8)
    ∃ t, exec (.rollCallSpanReport reported) s = .next t
      ∧ t.enrol = { s.enrol with roll := { c with
          phase := .idle, openRound := none, light := false, answered := false
          followUps := if follow then c.followUps + 1 else 0
          cause := if follow then some .followUp else none
          followUpAt := if follow then some s.clock.round else none
          streak := if blind then (if c.streak < 7 then c.streak + 1 else 0) else 0 } }
      ∧ t.sched.rollProgress = none
      ∧ t = { s with
          tree := { s.tree with latch := reported }, enrol := t.enrol, sched := t.sched, watch := t.watch }
      ∧ (blind = false ∨ c.streak < 7 → t.watch = s.watch)
      ∧ (blind = true → 7 ≤ c.streak → s.watch.state = .clear ∨ s.watch.state = .alert →
        t.watch.state = .confirming ∧ t.watch.test = some { want := 4, rounds := [], judged := 0, violated := 0 }
          ∧ t.sched.watchReq = some 4)

/-- What makes a narrow echo span answered (R57): the first answer of the span that bears the slot's serial and starts at
span offset 0 to 12, if its refined RTD, arrival less home hold-off less 16 (s + 6), lies within 16 to 27,200; without
such an answer the span is missed. That of several the first is taken is log entry 20.
The end of a narrow echo span whose order was sent in its round (R9, R18, R25, R27, R57 to R59): the span is reported once
with its light finding, and ruled whatever light it held; answered, the slot is ACTIVE with the refined RTD and the exchange
is over; missed below the limit, the slot stands and the exchange waits for another span. Missed at the limit, a new
assignment is FREE, and a rejoin, a RESUME and a CHECK leave the slot LOST: a lost-since that is present is kept, and a slot
lost for 240,000 rounds by it is CLOSING at once. That an absent lost-since takes the round counter, and not the upstream
round, is the model's reading of R27, log entry 12; that the activity latch stands as the sample at the span's end found it
is log entry 51. -/
def Obligations.EchoSpanRuled : Prop :=
  (∀ (s : State) (i : SlotId) (span : EchoSpan) (n : Round) (home : Half), (s.echo i).homeHoldoff = some home →
     let fits : EchoAnswer → Prop := fun a => a.round = n ∧ a.start = span.start ∧ (s.slot i).serial = some a.serial
       ∧ 4096 + span.start ≤ a.ticks ∧ a.ticks ≤ 4096 + span.start + 12
     ((∀ a ∈ s.enrol.answers, ¬ fits a) → s.echoAnswerOf i span n = none) ∧
     (∀ (pre post : List EchoAnswer) (a : EchoAnswer), s.enrol.answers = pre ++ a :: post → (∀ b ∈ pre, ¬ fits b) →
       fits a →
       let rtd : Int := (16 * a.ticks + a.phase : Nat) - (home.toNat : Int) - (16 * (span.start + 6) : Nat)
       s.echoAnswerOf i span n = if 16 ≤ rtd ∧ rtd ≤ 27200 then some rtd else none)) ∧
  (∀ (s : State) (start : Fin 2048) (light : Bool) (r : Issued) (span : EchoSpan) (p : EchoPurpose) (e : OrderEntry),
     s.reception = some r → r.plan.spans.echoes.find? (·.start == start.val) = some span →
     r.echoesEnded.contains span.start = false → (s.echo span.slot).purpose = some p →
     (s.echo span.slot).phase = some .sent → s.tree.awaiting span.slot span.gen r.plan.round = some e →
     (s.slot span.slot).gen = span.gen →
     let i := span.slot
     ∃ t, exec (.echoSpanEnd { start := start, light := light }) s = .next t
       ∧ t.reception = some { r with
           echoesEnded := r.echoesEnded ++ [start.val]
           echoLight := if light = true ∧ start.val ∉ r.echoLight then r.echoLight ++ [start.val] else r.echoLight }
       ∧ t.tree.latch = light
       ∧ t.clock = s.clock ∧ t.journal = s.journal ∧ t.link = s.link ∧ t.config = s.config ∧ t.pending = s.pending
       ∧ (∀ rtd : Int, s.echoAnswerOf i span r.plan.round = some rtd →
         (s.slot i).state = .assigning ∨ (s.slot i).state = .resuming ∨ (s.slot i).state = .active →
         t.slot i = { s.slot i with
             state := .active, rejoin := false, silent := 0, lostSince := none, lastHeard := some r.plan.round
             rtd := some (BitVec.ofInt 16 rtd), holdoff := some (BitVec.ofInt 16 (65536 - rtd))
             claimTime := if (s.slot i).fresh then some s.clock.time else (s.slot i).claimTime }
           ∧ (∀ j, j ≠ i → t.slot j = s.slot j)
           ∧ (t.echo i).purpose = none ∧ (t.echo i).phase = none ∧ (t.echo i).misses = 0
           ∧ ((s.slot i).fresh = true → t.claimDue i = some (s.slot i).gen
             ∧ ((s.ctx i).state = .none → (t.ctx i).state = .opened)))
       ∧ (s.echoAnswerOf i span r.plan.round = none → (s.echo i).misses + 1 < p.limit →
         t.home = s.home ∧ (t.echo i).purpose = some p ∧ (t.echo i).misses = (s.echo i).misses + 1
           ∧ (t.echo i).phase = some .waiting ∧ (t.echo i).earliest = some (r.plan.round + 8))
       ∧ (s.echoAnswerOf i span r.plan.round = none → p.limit ≤ (s.echo i).misses + 1 →
         ((s.slot i).fresh = true →
           (t.slot i).state = .free ∧ (t.slot i).gen = (s.slot i).gen ∧ (t.slot i).serial = none
             ∧ (t.slot i).releasePending = true)
         ∧ ((s.slot i).state = .resuming ∨ (s.slot i).state = .active
             ∨ (s.slot i).state = .assigning ∧ (s.slot i).rejoin = true →
           (t.echo i).purpose = none ∧ (t.echo i).phase = none ∧ (∀ j, j ≠ i → t.slot j = s.slot j)
             ∧ ((s.slot i).lostSince = none →
               t.slot i = { s.slot i with
                 state := .lost, silent := 4, lostSince := some { round := s.clock.round, time := s.clock.time } })
             ∧ (∀ since_, (s.slot i).lostSince = some since_ →
               ((s.clock.round - since_.round).toNat < 240000 →
                 t.slot i = { s.slot i with state := .lost, silent := 4 })
               ∧ (240000 ≤ (s.clock.round - since_.round).toNat →
                 (t.slot i).state = .closing ∧ (t.slot i).closeReason = some .lost
                   ∧ (t.slot i).lostSince = some since_)))))

/-- A HOLDOFF whose eight rounds brought nothing (R19, R60, R61): due again below three tries, else removed, its record
absent, with a re-echo requested. That a newer waiting value goes with it is the model's choice, log entry 31.
A re-echo request (R61): a CHECK starts for an ACTIVE slot without an exchange, waits as check-pending while it is
hushed, merges into an exchange in progress, and is discarded in any other state. That a request acts on the slot's present
occupant, whichever it was made for, is the model's choice, log entry 54.
The roll-call counter has reached 0 (R46, R47): the due mark is set, and from IDLE a periodic roll call begins.
Four rounds after a report (R49): the follow-up begins from IDLE and LIT with its cause still pending, else that cause
is dropped. -/
def Obligations.EnrolmentFallsDue : Prop :=
  (∀ (s : State) (i : SlotId) (e : OrderEntry) (v : Half) (g : Gen),
     s.tree.holdoffLate i = some e → e.body = .holdoff v → e.target = some (i, g) →
     (e.tries < 3 →
       ∃ t, exec (.holdoffTimeout i) s = .next t ∧ t = { s with tree := t.tree }
         ∧ t.tree.normal = replaceFirst e { e with waiting := false } s.tree.normal) ∧
     (3 ≤ e.tries → (s.echo i).holdoffInFlight = some v →
       ∃ t, exec (.holdoffTimeout i) s = .next t ∧ t = { s with tree := t.tree, enrol := t.enrol }
         ∧ t.tree.normal = s.tree.normal.erase e
         ∧ t.echo i = { s.echo i with holdoffInFlight := none, holdoffWaiting := none }
         ∧ t.enrol.reechoes = s.enrol.reechoes ++ [i])) ∧
  (∀ (s : State) (i : SlotId) (rest : List SlotId), s.enrol.reechoes = i :: rest →
     ((s.slot i).state ≠ .active ∨ (s.echo i).purpose ≠ none →
       exec .reechoRequest s = .next { s with enrol := { s.enrol with reechoes := rest } }) ∧
     ((s.slot i).state = .active → (s.echo i).purpose = none →
       ∃ t, exec .reechoRequest s = .next t ∧ t.enrol.reechoes = rest ∧ t.home = s.home ∧ t.meter = s.meter
         ∧ (∀ j, j ≠ i → t.echo j = s.echo j)
         ∧ ((s.slot i).hushed = true → t.echo i = { s.echo i with checkPending := true } ∧ t.tree = s.tree)
         ∧ ((s.slot i).hushed = false →
           (t.echo i).purpose = some .check ∧ (t.echo i).phase = some .waiting ∧ (t.echo i).misses = 0
             ∧ (t.echo i).homeHoldoff = (s.echo i).homeHoldoff))) ∧
  (∀ s : State, s.enrol.roll.reached = true →
     (s.enrol.roll.phase = .idle →
       exec .rollCallDue s = .next { s with enrol := { s.enrol with roll := { s.enrol.roll with
         reached := false, due := false, cause := some .periodic, phase := .requested, offerDue := true
         followUpAt := none } } }) ∧
     (s.enrol.roll.phase ≠ .idle →
       exec .rollCallDue s = .next { s with enrol := { s.enrol with roll := { s.enrol.roll with
         reached := false, due := true } } })) ∧
  (∀ (s : State) (n : Round), s.enrol.roll.followUpAt = some n → s.enrol.roll.cause = some .followUp →
     (4 ≤ (s.clock.round - n).toNat → s.enrol.roll.phase = .idle → s.tree.state = .lit →
       exec .followUpDue s = .next { s with enrol := { s.enrol with roll := { s.enrol.roll with
         due := false, phase := .requested, offerDue := true, followUpAt := none } } }) ∧
     (4 ≤ (s.clock.round - n).toNat → s.enrol.roll.phase ≠ .idle ∨ s.tree.state ≠ .lit →
       exec .followUpDue s = .next { s with enrol := { s.enrol with roll := { s.enrol.roll with
         cause := none, followUpAt := none } } }) ∧
     ((s.clock.round - n).toNat < 4 → exec .followUpDue s = .next s))

/-- ROLL_NOW (R48). -/
def Obligations.RollNowAnswered : Prop :=
  ∀ (s : State) (c : RxCommand), s.Dispatched 8 c →
    let may := s.tree.state = .lit ∧ (s.watch.state = .clear ∨ s.watch.state = .alert)
    ∃ t, exec .rollNow s = .next t
      ∧ t = { s with link := t.link, enrol := { s.enrol with roll := t.enrol.roll } }
      ∧ (¬ may → t.enrol.roll = s.enrol.roll ∧ (s.link.without c).Answered t.link c .notNow [])
      ∧ (may → (s.link.without c).Answered t.link c .done [])
      ∧ (may → s.enrol.roll.phase ≠ .idle → t.enrol.roll = s.enrol.roll)
      ∧ (may → s.enrol.roll.phase = .idle →
        t.enrol.roll = { s.enrol.roll with
          due := false, cause := some .command, phase := .requested, offerDue := true, followUpAt := none
          followUps := if s.enrol.roll.cause = some .followUp then s.enrol.roll.followUps else 0 })

/-! ### The stray-light watch (R97 to R118) -/

/-- A light sample judged against the baseline (R98): E is the sample less floor(B16 / 16); above T it is a violation and
the baseline stands, within D the baseline tracks, below -D it falls by 4 E and not below 0, and between D and T it
stands. A guard sample is kept with the slots before and after it (R12, R97), a quiet one counted, in a window also as a
window sample. -/
def Obligations.LightSampleJudged : Prop :=
  ∀ (s : State) (r : Issued) (count : BitVec 12), s.reception = some r →
    let e : Int := (count.toNat : Int) - (s.watch.b16 / 16 : Nat)
    let t : Int := s.config.threshold
    let d : Int := s.config.tracking
    let b : Nat :=
      if t < e then s.watch.b16
      else if -d ≤ e ∧ e ≤ d then s.watch.b16 - s.watch.b16 / 16 + count.toNat
      else if e < -d then ((s.watch.b16 : Int) + 4 * e).toNat
      else s.watch.b16
    (∀ (k : Nat) (p q : PlanEntry), r.plan.entries[k]? = some p → r.plan.entries[k + 1]? = some q →
      exec (.lightSample (.guard (k + 1)) count) s = .next { s with watch := { s.watch with
        b16 := b
        score := { s.watch.score with
          guards := s.watch.score.guards ++
            [{ violation := decide (t < e), before := some (p.slot, p.gen), after := some (q.slot, q.gen) }] } } }) ∧
    (∀ q, r.plan.entries[0]? = some q →
      exec (.lightSample (.guard 0) count) s = .next { s with watch := { s.watch with
        b16 := b
        score := { s.watch.score with
          guards := s.watch.score.guards ++
            [{ violation := decide (t < e), before := none, after := some (q.slot, q.gen) }] } } }) ∧
    (∀ offset : Fin 2048, offset.val % 32 = 0 →
      r.plan.spans.window = true ∧ 1792 ≤ offset.val ∨ r.plan.burstEnd ≤ offset.val ∧ offset.val < r.plan.spans.tailStart →
      exec (.lightSample (.quiet offset) count) s = .next { s with watch := { s.watch with
        b16 := b
        score := { s.watch.score with
          quietViolations := s.watch.score.quietViolations + if t < e then 1 else 0
          windowViolations := s.watch.score.windowViolations +
            if t < e ∧ r.plan.spans.window = true ∧ 1792 ≤ offset.val then 1 else 0 } } })

/-- The end of a round's reception in CLEAR or ALERT (R7, R101, R103, R105, R106): the record is discarded, the round
remembered among the last eight, the strike history takes the round, and with 3 dark strikes in 16 rounds the watch goes to
CONFIRMING with a test of four windows. -/
def Obligations.ReceptionEndScored : Prop :=
  ∀ (s : State) (r : Issued), s.reception = some r → s.watch.state = .clear ∨ s.watch.state = .alert →
    let c := s.watch.score
    let bad := (c.guards.filter (·.violation)).length
    let dark := 2 ≤ c.quietViolations ∨ (3 ≤ bad ∧ c.guards.length ≤ 2 * bad)
    let history := (decide dark :: s.watch.history).take 16
    ∃ t, exec .roundReceptionEnd s = .next t
      ∧ t.tree.issued = s.tree.issued.tail ∧ t.tree.received = (r.plan.round :: s.tree.received).take 8
      ∧ t.clock = s.clock ∧ t.down.queues = s.down.queues ∧ t.journal = s.journal ∧ t.config = s.config
      ∧ t.pending = s.pending
      ∧ t.watch.score = { guards := [], quietViolations := 0, windowViolations := 0 } ∧ t.watch.b16 = s.watch.b16
      ∧ t.watch.history = history
      ∧ ((history.filter id).length < 3 → t.watch.state = s.watch.state)
      ∧ (3 ≤ (history.filter id).length →
        t.watch.state = .confirming ∧ t.watch.test = some { want := 4, rounds := [], judged := 0, violated := 0 }
          ∧ t.sched.watchReq = some 4)

/-- The scoring of a round's guard samples in CLEAR or ALERT (R101, R102): in a flooded round no strike is scored. Otherwise
each sample acts in plan order: a violation raises the tail count of the slot before and the head count of the slot after, a
clean sample lowers them, and one of another generation does neither; below 8 nothing else follows.
A count that rises to 8: a tail count bars an ACTIVE slot as OVERRUN with its alert and stays, a head count requests a
re-echo and becomes 0. -/
def Obligations.GuardStrikesScored : Prop :=
  (∀ (s : State) (r : Issued), s.reception = some r → s.watch.state = .clear ∨ s.watch.state = .alert →
     let guards := s.watch.score.guards
     let bad := (guards.filter (·.violation)).length
     let flooded := 3 ≤ bad ∧ guards.length ≤ 2 * bad
     let score : Nat → GuardSample → Nat := fun k g => if g.violation then k + 1 else k - 1
     ∃ t, exec .roundReceptionEnd s = .next t
       ∧ (flooded → t.watch.counts = s.watch.counts ∧ t.home = s.home ∧ t.enrol.reechoes = s.enrol.reechoes)
       ∧ (¬ flooded → (∀ i, (s.strikes i).tail + guards.length < 8 ∧ (s.strikes i).head + guards.length < 8) →
         t.home = s.home ∧ t.link = s.link ∧ t.enrol.reechoes = s.enrol.reechoes
           ∧ ∀ i, t.strikes i = {
               tail := (guards.filter fun g => g.before = some (i, (s.slot i).gen)).foldl score (s.strikes i).tail
               head := (guards.filter fun g => g.after = some (i, (s.slot i).gen)).foldl score (s.strikes i).head })) ∧
  (∀ (s : State) (r : Issued) (v : Bool) (i j : SlotId) (x : Serial), s.reception = some r →
     s.watch.state = .clear ∨ s.watch.state = .alert → i ≠ j → (s.slot i).serial = some x →
     s.watch.score.guards =
       [{ violation := v, before := some (i, (s.slot i).gen), after := some (j, (s.slot j).gen) }] →
     let tail := (s.strikes i).tail
     let head := (s.strikes j).head
     ∃ t, exec .roundReceptionEnd s = .next t
       ∧ (t.strikes i).tail = (if v then min (tail + 1) 15 else tail - 1)
       ∧ (t.strikes i).head = (s.strikes i).head ∧ (t.strikes j).tail = (s.strikes j).tail
       ∧ (v = true → tail = 7 → (s.slot i).state = .active →
         (t.slot i).state = .barred ∧ (t.slot i).barReason = some .overrun
           ∧ s.Raised t .homeBarred (be 1 i.val ++ be 8 x.toNat ++ be 1 BarReason.overrun.code))
       ∧ (v = false ∨ tail ≠ 7 → t.home = s.home ∧ t.link = s.link)
       ∧ (v = true → head = 7 → (t.strikes j).head = 0 ∧ t.enrol.reechoes = s.enrol.reechoes ++ [j])
       ∧ (v = true → head < 7 → (t.strikes j).head = head + 1 ∧ t.enrol.reechoes = s.enrol.reechoes)
       ∧ (v = false → head ≤ 7 → (t.strikes j).head = head - 1 ∧ t.enrol.reechoes = s.enrol.reechoes))

/-- The last window of a test (R107 to R109, R112, R114): CONFIRMING with 3 or more violated windows raises STRAY_CONFIRMED and
goes on to a search, whose candidates are the slots in ACTIVE, LOST and ASSIGNING in ascending order, and which waits for
the wake-due flags before its first step or final check; with none it is FOREIGN_LIGHT, and with fewer windows CLEAR. A
clean first part of the final check goes on to the second, with a WAKE for the candidate; a violated one is UNLOCATED, with
FOREIGN_LIGHT raised for it and a WAKE for every hushed slot. A violated second part bars the last candidate as STRAY, and a
clean one is INTERMITTENT, in ALERT with the strike history empty. A retest of FOREIGN_LIGHT with no violated window is CLEAR
with LIGHT_CLEAR; with one it stays, and the next retest counts from here. -/
def Obligations.WindowTestEnds : Prop :=
  ∀ (s : State) (r : Issued) (w : WindowTest), s.reception = some r → s.watch.test = some w →
    w.rounds.contains r.plan.round = true → w.want = w.judged + 1 →
    s.watch.state = .confirming ∨ s.watch.state = .locating ∨ s.watch.state = .foreignLight →
    let violated := w.violated + if 2 ≤ s.watch.score.windowViolations then 1 else 0
    ∃ t, exec .roundReceptionEnd s = .next t
      ∧ (s.watch.state = .confirming → violated < 3 → t.watch.state = .clear ∧ t.watch.test = none ∧ t.home = s.home)
      ∧ (s.watch.state = .confirming → 3 ≤ violated →
        let cands := (allSlots.filter fun i =>
          (s.slot i).state == .active || (s.slot i).state == .lost || (s.slot i).state == .assigning).map fun i =>
            (i, (s.slot i).gen)
        t.link.flags.getLsbD 2 = true
          ∧ (cands ≠ [] → s.Raised t .strayConfirmed (be 1 violated))
          ∧ (cands = [] → t.watch.state = .foreignLight ∧ t.watch.locate = none ∧ t.link.flags.getLsbD 4 = true)
          ∧ (cands ≠ [] → t.watch.state = .locating ∧ ∃ l, t.watch.locate = some l ∧ l.cands = cands
            ∧ ((∃ i, (s.slot i).wakeDue = true) → l.stage = .waitWakes ∧ t.watch.orders = [])
            ∧ ((∀ i, (s.slot i).wakeDue = false) → cands.length = 1 → l.stage = .check1)
            ∧ ((∀ i, (s.slot i).wakeDue = false) → 2 ≤ cands.length →
              l.stage = .step (cands.take ((cands.length + 1) / 2)))))
      ∧ (∀ (l : Locate) (i : SlotId) (g : Gen), s.watch.state = .locating → s.watch.locate = some l →
        l.cands = [(i, g)] → l.stage = .check1 →
        (violated = 0 → t.watch.state = .locating ∧ t.watch.test = none
          ∧ (∃ m, t.watch.locate = some m ∧ m.cands = l.cands ∧ m.stage = .check2
            ∧ ((∀ j, (s.slot j).hushed = false) → t.watch.orders = [] ∧ m.settle = some 4))
          ∧ ((s.slot i).hushed = true → ∃ o ∈ t.watch.orders, o.slot = i ∧ o.gen = (s.slot i).gen ∧ o.hush = false)
          ∧ t.link = s.link ∧ t.home = s.home)
        ∧ (0 < violated → t.watch.state = .foreignLight ∧ t.watch.locate = none ∧ t.watch.test = none
          ∧ s.Raised t .foreignLight (be 1 i.val) ∧ t.home = s.home
          ∧ ∀ j, (s.slot j).hushed = true →
            ∃ o ∈ t.watch.orders, o.slot = j ∧ o.gen = (s.slot j).gen ∧ o.hush = false))
      ∧ (∀ (l : Locate) (i : SlotId) (g : Gen), s.watch.state = .locating → s.watch.locate = some l →
        l.cands = [(i, g)] → l.stage = .check2 → violated = 0 →
        t.watch.state = .alert ∧ t.watch.locate = none ∧ t.watch.test = none ∧ t.watch.history = []
          ∧ t.link = s.link ∧ t.home = s.home ∧ t.roster = s.roster)
      ∧ (∀ (l : Locate) (i : SlotId) (x : Serial), (s.slot i).serial = some x → s.watch.state = .locating →
        s.watch.locate = some l → l.stage = .check2 →
        l.cands = [(i, (s.slot i).gen)] → 0 < violated → (s.slot i).state = .active ∨ (s.slot i).state = .lost →
        (t.slot i).state = .barred ∧ (t.slot i).barReason = some .stray ∧ t.watch.state = .clear
          ∧ t.watch.locate = none ∧ t.watch.history = []
          ∧ s.Raised t .homeBarred (be 1 i.val ++ be 8 x.toNat ++ be 1 BarReason.stray.code)
          ∧ { serial := x, reason := .stray, time := s.clock.time } ∈ t.roster.bars)
      ∧ (s.watch.state = .foreignLight → violated = 0 →
        t.watch.state = .clear ∧ t.watch.history = [] ∧ s.Raised t .lightClear [] ∧ t.home = s.home)
      ∧ (s.watch.state = .foreignLight → 0 < violated →
        t.watch.state = .foreignLight ∧ t.watch.since = s.clock.round ∧ t.watch.test = none
          ∧ t.link = s.link ∧ t.home = s.home)

/-- A locate step (R110, R115): the 4 round starts passed, a test of two windows is opened; when it ends, the candidates are
the hushed half if both windows were clean, else the others. With none left it is FOREIGN_LIGHT; with one the final check
begins; with more the next step hushes the first half of them, rounded up: a HUSH is offered for each member whose hushed
flag is clear and a WAKE for each hushed slot outside, one not accepted waits only because the lane is full, and an
accepted HUSH sets the hushed flag.
ALERT expires 240,000 rounds after its entry or the last dark strike (R105). A retest of four windows is opened 120,000
rounds after the entry to FOREIGN_LIGHT or the last retest with no slot hushed; with one hushed it is held, and opened at
the first round start that finds none (R114). -/
def Obligations.LocateStepsAndWatchPeriods : Prop :=
  ((∀ (s : State) (l : Locate), s.watch.locate = some l → l.settle = some 0 → s.watch.test = none →
     exec .locateOrdersSettled s = .next { s with
       watch := { s.watch with test := some { want := 2, rounds := [], judged := 0, violated := 0 } }
       sched := { s.sched with watchReq := some 2 } }) ∧
   (∀ (s : State) (r : Issued) (w : WindowTest) (l : Locate) (half : List (SlotId × Gen)),
     s.reception = some r → s.watch.state = .locating → s.watch.test = some w → w.rounds.contains r.plan.round = true →
     w.want = w.judged + 1 → s.watch.locate = some l → l.stage = .step half →
     let violated := w.violated + if 2 ≤ s.watch.score.windowViolations then 1 else 0
     let left := if violated = 0 then half else l.cands.filter fun c => !half.contains c
     let next := if left.length = 1 then left else left.take ((left.length + 1) / 2)
     ∃ t, exec .roundReceptionEnd s = .next t
       ∧ (left = [] → t.watch.state = .foreignLight ∧ t.watch.locate = none)
       ∧ (left ≠ [] → t.watch.state = .locating
         ∧ (∃ m, t.watch.locate = some m ∧ m.cands = left
           ∧ m.stage = if left.length = 1 then .check1 else .step next)
         ∧ (∀ c ∈ next, (s.slot c.1).hushed = false →
           ∃ o ∈ t.watch.orders, o.slot = c.1 ∧ o.gen = c.2 ∧ o.hush = true)
         ∧ (∀ i, (s.slot i).hushed = true → (∀ c ∈ next, c.1 ≠ i) →
           ∃ o ∈ t.watch.orders, o.slot = i ∧ o.gen = (s.slot i).gen ∧ o.hush = false)
         ∧ (t.tree.urgent.length < 8 → ∀ o ∈ t.watch.orders, o.seq ≠ none)
         ∧ ∀ o ∈ t.watch.orders, o.hush = true → o.seq ≠ none → (t.slot o.slot).hushed = true))) ∧
  (∀ s : State,
     (s.watch.state = .alert → 240000 ≤ (s.clock.round - s.watch.since).toNat →
       exec .alertExpiry s = .next { s with
         watch := { s.watch with state := .clear, since := s.clock.round, retestHeld := false }
         sched := { s.sched with watchReq := none } }) ∧
     (s.watch.state ≠ .alert ∨ (s.clock.round - s.watch.since).toNat < 240000 → exec .alertExpiry s = .next s) ∧
     (s.watch.state = .foreignLight → s.watch.test = none → s.watch.retestHeld = false →
       120000 ≤ (s.clock.round - s.watch.since).toNat →
       ((∀ i, (s.slot i).hushed = false) →
         exec .foreignLightRetest s = .next { s with
           watch := { s.watch with test := some { want := 4, rounds := [], judged := 0, violated := 0 } }
           sched := { s.sched with watchReq := some 4 } }) ∧
       ((∃ i, (s.slot i).hushed = true) →
         exec .foreignLightRetest s = .next { s with watch := { s.watch with retestHeld := true } })) ∧
     (s.watch.state ≠ .foreignLight ∨ (s.clock.round - s.watch.since).toNat < 120000 ∨ s.watch.retestHeld = true →
       exec .foreignLightRetest s = .next s) ∧
     (∀ (offersFirst : Bool) (upsets : List TallyUpset), s.watch.retestHeld = true →
       ∃ t, exec (.roundBoundary offersFirst upsets) s = .next t ∧ t.watch.state = s.watch.state
         ∧ ((∃ i, (s.slot i).hushed = true) → t.watch.retestHeld = true)
         ∧ ((∀ i, (s.slot i).hushed = false) → t.watch.retestHeld = false
           ∧ ∃ w, t.watch.test = some w ∧ w.want = 4 ∧ w.judged = 0 ∧ w.violated = 0)))

/-! ### The home table (R24, R27, R30, R32, R38, R39) -/

/-- The expiry of a LOST slot (R14, R27, R32, R169): after 240,000 rounds since lost-since it enters CLOSING with reason LOST,
release pending with a RELEASE of its generation in the normal lane or, refused, owed to it, or already completed where no
home can hold a slot; its serial is on the pending release list and its flush announced. Before that nothing changes. -/
def Obligations.LostSlotExpires : Prop :=
  ∀ (s : State) (i : SlotId) (x : Serial) (at_ : LostSince),
    (s.slot i).state = .lost → (s.slot i).serial = some x → (s.slot i).lostSince = some at_ →
    ((s.clock.round - at_.round).toNat < 240000 → exec (.lostExpiry i) s = .next s) ∧
    (240000 ≤ (s.clock.round - at_.round).toNat →
      ∃ t, exec (.lostExpiry i) s = .next t
        ∧ (t.slot i).state = .closing ∧ (t.slot i).closeReason = some .lost ∧ (t.slot i).barReason = none
        ∧ (t.slot i).serial = some x ∧ (t.slot i).gen = (s.slot i).gen ∧ (t.slot i).assured = (s.slot i).assured
        ∧ (s.tree.state = .lit ∨ s.tree.state = .dark →
          (t.slot i).releasePending = true
            ∧ ((∃ e ∈ t.tree.normal, e.body = .release ∧ e.target = some (i, (s.slot i).gen) ∧ e.tries = 0)
              ∨ (t.owed i).release = some (s.slot i).gen)
            ∧ (s.tree.normal.length < 24 → (∀ e ∈ s.tree.normal, e.isFor i = false) →
              t.tree.normal = s.tree.normal ++
                [{ body := .release, target := some (i, (s.slot i).gen), seq := s.tree.orderSeq + 1, tries := 0
                   lastSent := none, bound := none, waiting := false }]))
        ∧ (s.tree.state = .off ∨ s.tree.state = .starting ∨ s.tree.state = .calibrating →
          (t.slot i).releasePending = false ∧ (t.owed i).release = none)
        ∧ x ∈ t.roster.releases
        ∧ t.down.flushes = s.down.flushes ++ [{ slot := i, gen := (s.slot i).gen, closing := true }]
        ∧ (∀ j, j ≠ i → t.slot j = s.slot j)
        ∧ t.meter = s.meter ∧ t.journal = s.journal ∧ t.link = s.link ∧ t.clock = s.clock ∧ t.config = s.config
        ∧ t.pending = s.pending)

/-- The contest rule on a CLAIM of a serial that a slot holds (R167, R175): a LOST or RESUMING slot is MOVED; an ACTIVE and
heard one is a CLONE if the CLAIM stands and the local pair loses, the later claim time, or of equal times the higher
station; in any other contest of a heard slot an entry that was inserted is answered by the slot's claim-due mark, and a
refreshed one is not; nothing else follows.
A roster decision taken by the manager (R30, R176): MOVED closes a LOST or RESUMING slot, CLONE bars an ACTIVE one, UNBAR
closes a BARRED one, each with its reason and alert; any other state discards it. That the CLONE alert names the station of
the decision taken, also with another in transit, is the model's choice, log entry 53. -/
def Obligations.ContestsWeighedAndDecided : Prop :=
  (∀ (s : State) (bytes : List Byte) (p : Byte) (x : Serial) (time : DTime) (standing : Bool) (i : SlotId),
     (∀ age, s.link.phase = .sending age → bytes ≠ s.link.wire) →
     receivedFrame s.station bytes = some (.claim p x time standing) → s.holder x = some i →
     let inserted := ∀ c ∈ s.roster.claims, ¬ (c.serial = x ∧ c.holder = p)
     let local_ := ((s.slot i).claimTime.getD 0).toNat
     let loses := time.toNat < local_ ∨ (time.toNat = local_ ∧ p.toNat < s.station.toNat)
     let heard := (s.slot i).state = .active ∧ ∃ m, (s.slot i).lastHeard = some m ∧ m ∈ s.tree.received
     ∃ t, exec (.frameReceive bytes) s = .next t
       ∧ t = { s with
           home := t.home
           roster := { s.roster with
             claims := t.roster.claims, claimDue := t.roster.claimDue, decisions := t.roster.decisions } }
       ∧ ((s.slot i).state = .lost ∨ (s.slot i).state = .resuming →
         t.roster.decisions = s.roster.decisions ++ [{ serial := x, kind := .moved }])
       ∧ (heard → standing = true → loses →
         t.roster.decisions = s.roster.decisions ++ [{ serial := x, kind := .clone p }])
       ∧ ((s.slot i).state ≠ .lost → (s.slot i).state ≠ .resuming → ¬ (heard ∧ standing = true ∧ loses) →
         t.roster.decisions = s.roster.decisions)
       ∧ (heard → ¬ (standing = true ∧ loses) → inserted →
         t.claimDue i = some (s.slot i).gen ∧ ∀ j, j ≠ i → t.claimDue j = s.claimDue j)
       ∧ (¬ heard ∨ (standing = true ∧ loses) ∨ ¬ inserted → t.roster.claimDue = s.roster.claimDue)) ∧
  (∀ (s : State) (x : Serial) (kind : DecisionKind) (rest : List Decision) (i : SlotId),
     s.roster.decisions = { serial := x, kind := kind } :: rest → s.holder x = some i →
     ∃ t, exec .rosterDecision s = .next t
       ∧ t.roster.decisions = rest ∧ t.meter = s.meter ∧ t.journal = s.journal ∧ t.clock = s.clock
       ∧ t.config = s.config ∧ t.pending = s.pending
       ∧ (∀ j, j ≠ i → t.slot j = s.slot j)
       ∧ (kind = .moved → (s.slot i).state = .lost ∨ (s.slot i).state = .resuming →
         (t.slot i).state = .closing ∧ (t.slot i).closeReason = some .moved
           ∧ s.Raised t .moved (be 8 x.toNat ++ be 1 i.val))
       ∧ (∀ p, kind = .clone p → (s.slot i).state = .active →
         (t.slot i).state = .barred ∧ (t.slot i).barReason = some .clone ∧ t.roster.bars = s.roster.bars
           ∧ s.Raised t .clone (be 8 x.toNat ++ be 1 i.val ++ [p]))
       ∧ (kind = .unbar → (s.slot i).state = .barred →
         (t.slot i).state = .closing ∧ (t.slot i).closeReason = some .unbarred
           ∧ (t.slot i).barReason = (s.slot i).barReason ∧ t.link = s.link)
       ∧ (kind = .moved ∧ (s.slot i).state ≠ .lost ∧ (s.slot i).state ≠ .resuming
           ∨ kind = .unbar ∧ (s.slot i).state ≠ .barred ∨ (∃ p, kind = .clone p) ∧ (s.slot i).state ≠ .active →
         t = { s with roster := { s.roster with decisions := rest } }))

/-- DEROLL (R38): the reply and the action by the state of the slot that holds the serial. -/
def Obligations.DerollActs : Prop :=
  ∀ (s : State) (c : RxCommand), s.Dispatched 3 c →
    let x : Serial := BitVec.ofNat 64 (fieldNat c.args 0 8)
    ∃ t, exec .deroll s = .next t ∧ t.meter = s.meter ∧ t.journal = s.journal ∧ t.clock = s.clock
      ∧ t.config = s.config ∧ t.pending = s.pending ∧ t.enrol.provision = s.enrol.provision
      ∧ (s.holder x = none → t = { s with link := t.link } ∧ (s.link.without c).Answered t.link c .notFound [])
      ∧ (∀ i, s.holder x = some i →
        (s.link.without c).Answered t.link c .done []
          ∧ ((s.slot i).state = .assigning → (s.slot i).rejoin = false →
            (t.slot i).state = .free ∧ (t.slot i).serial = none ∧ (t.slot i).gen = (s.slot i).gen
              ∧ (s.tree.state = .lit ∨ s.tree.state = .dark → (t.slot i).releasePending = true))
          ∧ ((s.slot i).state = .assigning ∧ (s.slot i).rejoin = true ∨ (s.slot i).state = .active
              ∨ (s.slot i).state = .lost ∨ (s.slot i).state = .resuming →
            (t.slot i).state = .closing ∧ (t.slot i).closeReason = some .deroll ∧ (t.slot i).serial = some x
              ∧ ∀ j, j ≠ i → t.slot j = s.slot j)
          ∧ ((s.slot i).state = .barred →
            (t.slot i).state = .closing ∧ (t.slot i).closeReason = some .barred ∧ (t.slot i).serial = some x
              ∧ (t.slot i).barReason = (s.slot i).barReason ∧ ∀ j, j ≠ i → t.slot j = s.slot j)
          ∧ ((s.slot i).state = .closing → t = { s with link := t.link }))

/-- READ_HOME and READ_STATUS (R39, R163): a snapshot in the reply, and nothing else of the part changes.
READ_STRANGERS and FORGET_STRANGERS (R45). -/
def Obligations.ReadsAnswered : Prop :=
  (∀ (s : State) (c : RxCommand),
     (s.Dispatched 4 c →
       ∃ t, exec .readHome s = .next t ∧ t = { s with link := t.link }
         ∧ (∀ i : SlotId, c.args = [BitVec.ofNat 8 i.val] →
           (s.link.without c).Answered t.link c .done (slotSnapshot i (s.slot i) s.clock.round))
         ∧ (∀ b : Byte, c.args = [b] → 128 ≤ b.toNat → (s.link.without c).Answered t.link c .badArgument [])
         ∧ (∀ i, c.args.length = 8 → s.holder (BitVec.ofNat 64 (fieldNat c.args 0 8)) = some i →
           (s.link.without c).Answered t.link c .done (slotSnapshot i (s.slot i) s.clock.round))
         ∧ (c.args.length = 8 → s.holder (BitVec.ofNat 64 (fieldNat c.args 0 8)) = none →
           (s.link.without c).Answered t.link c .notFound [])) ∧
     (s.Dispatched 5 c →
       ∃ t, exec .readStatus s = .next t ∧ t = { s with link := t.link }
         ∧ (s.link.without c).Answered t.link c .done
           ([s.station] ++ be 1 s.tree.state.code ++ be 1 s.watch.state.code
             ++ ([SlotState.free, .assigning, .active, .lost, .resuming, .barred, .closing].flatMap fun k =>
               be 1 (allSlots.filter fun i => (s.slot i).state == k).length)
             ++ be 4 s.journal.oldest.toNat ++ be 4 s.journal.publish.toNat ++ be 4 s.journal.append.toNat
             ++ be 2 s.journal.runMark.toNat ++ be 1 s.clock.state.code ++ be 2 (BitVec.ofInt 16 s.clock.trim).toNat
             ++ be 1 s.clock.cause.code ++ be 2 s.down.free ++ be 2 s.link.flags.toNat))) ∧
  (∀ (s : State) (c : RxCommand),
     (∀ k : Byte, s.Dispatched 6 c → c.args = [k] →
       ∃ t, exec .readStrangers s = .next t ∧ t = { s with link := t.link }
         ∧ (15 < k.toNat → (s.link.without c).Answered t.link c .badArgument [])
         ∧ (k.toNat ≤ 15 →
           (s.link.without c).Answered t.link c .done
             (be 1 s.enrol.strangers.length ++ ((s.enrol.strangers.drop k.toNat).take 5).flatMap Stranger.bytes))) ∧
     (s.Dispatched 7 c →
       ∃ t, exec .forgetStrangers s = .next t
         ∧ t = { s with link := t.link, enrol := { s.enrol with strangers := [] } }
         ∧ (s.link.without c).Answered t.link c .done []))

/-! ### Provisioning (R40 to R43) -/

/-- PROVISION (R41, R42): the conditions of its table in order; a serial that no slot holds gets or changes its entry. While a
profile close of the serial is outstanding it is answered BUSY; that BAD_ARGUMENT goes before BUSY is the model's choice,
log entry 18. -/
def Obligations.ProvisionAnswered : Prop :=
  ∀ (s : State) (c : RxCommand), s.Dispatched 1 c →
    let x : Serial := BitVec.ofNat 64 (fieldNat c.args 0 8)
    let profile := fieldNat c.args 8 1
    let tag : Half := BitVec.ofNat 16 (fieldNat c.args 9 2)
    let bad := 7 < profile ∨ tag.toNat = 0 ∨ 4095 < tag.toNat ∨ ∃ e ∈ s.enrol.provision, e.tag = tag ∧ e.serial ≠ x
    ∃ t, exec .provision s = .next t
      ∧ (bad → t = { s with link := t.link } ∧ (s.link.without c).Answered t.link c .badArgument [])
      ∧ (¬ bad → (∃ p ∈ s.enrol.closes, p.serial = x) →
        t = { s with link := t.link } ∧ (s.link.without c).Answered t.link c .busy [])
      ∧ (¬ bad → s.enrol.closes = [] → s.entryOf x = none → 256 ≤ s.enrol.provision.length →
        t = { s with link := t.link } ∧ (s.link.without c).Answered t.link c .listFull [])
      ∧ (∀ h : profile < 8, ¬ bad → s.enrol.closes = [] → s.entryOf x = none → s.enrol.provision.length < 256 →
        t = { s with link := t.link, enrol := { s.enrol with
          provision := s.enrol.provision ++ [{ serial := x, profile := ⟨profile, h⟩, tag := tag }] } }
          ∧ (s.link.without c).Answered t.link c .done [])
      ∧ (∀ (h : profile < 8) (o : ProvisionEntry), ¬ bad → s.enrol.closes = [] → s.entryOf x = some o →
        (s.holder x = none ∨ ∃ i, s.holder x = some i ∧ ((s.slot i).state = .closing ∨ o.profile.val = profile)) →
        t = { s with link := t.link, enrol := { s.enrol with
          provision := s.enrol.provision.map fun e =>
            if e.serial = x then { serial := x, profile := ⟨profile, h⟩, tag := tag } else e } }
          ∧ (s.link.without c).Answered t.link c .done [])

/-- PROVISION of a held serial with another profile (R42, R54, R131): without a change of tariff class the slot takes the
new profile at once and A by admission. With one on an enrolled slot the entry and the slot wait for the profile close and
its answer is still to come: closed for an OPEN context without a line, whose period starts anew, for one with lines and a
free entry, which gives a record PROFILE, and in NONE, DRAINING and FINAL_OWED; no entry for an OPEN one with the journal
full or another close owed, and for an OWED one. -/
def Obligations.ProvisionChangesHeldSlot : Prop :=
  ∀ (s : State) (c : RxCommand) (i : SlotId) (o : ProvisionEntry), s.Dispatched 1 c →
    let x : Serial := BitVec.ofNat 64 (fieldNat c.args 0 8)
    let profile := fieldNat c.args 8 1
    let tag : Half := BitVec.ofNat 16 (fieldNat c.args 9 2)
    ∀ h : profile < 8, 1 ≤ tag.toNat → tag.toNat ≤ 4095 → (∀ e ∈ s.enrol.provision, e.tag = tag → e.serial = x) →
    s.enrol.closes = [] → s.entryOf x = some o → o.profile.val ≠ profile → s.holder x = some i →
    (s.slot i).state ≠ .closing →
    let f := s.profileOf ⟨profile, h⟩
    let a := min f.assured (s.room + (s.slot i).assured)
    let e : ProvisionEntry := { serial := x, profile := ⟨profile, h⟩, tag := tag }
    ∃ t, exec .provision s = .next t
      ∧ ((s.slot i).tariff = some f.tariff →
        t.slot i = { s.slot i with
            profile := some ⟨profile, h⟩, ceiling := f.ceiling, assured := a, short := decide (a < f.assured) }
          ∧ t.enrol.provision = (s.enrol.provision.map fun k => if k.serial = x then e else k)
          ∧ (s.link.without c).Answered t.link c .done []
          ∧ t = { s with home := t.home, enrol := t.enrol, meter := t.meter, link := t.link }
          ∧ ((s.slot i).assured ≤ a → ∀ j, j ≠ i → t.slot j = s.slot j))
      ∧ ((s.slot i).tariff ≠ some f.tariff → (s.slot i).enrolled = true →
        let held := (s.journal.append - s.journal.oldest).toNat
        let asked : Bool → List ProfileClose := fun closed =>
          [{ command := c, serial := x, profile := ⟨profile, h⟩, tag := tag, slot := i, gen := (s.slot i).gen
             closed := closed }]
        let quiet := s.spill i = ByteCounts.zero ∧ ∀ k, (s.tally i k).upset = none
        let lines := ∃ k, (s.tally i k).counts ≠ ByteCounts.zero ∨ (s.tally i k).damaged = true
        let noneOwed := ∀ j, (s.ctx j).state ≠ .owed ∧ (s.ctx j).state ≠ .finalOwed
        t.home = s.home ∧ t.enrol.provision = s.enrol.provision ∧ t.link.backReplies = s.link.backReplies
          ∧ ((s.ctx i).state = .owed ∨ ((s.ctx i).state = .opened ∧ ¬ noneOwed)
              ∨ ((s.ctx i).state = .opened ∧ quiet ∧ lines ∧ 512 ≤ held) →
            t.meter = s.meter ∧ t.journal = s.journal ∧ t.link.queue = s.link.queue ∧ t.enrol.closes = asked false)
          ∧ ((s.ctx i).state = .none ∨ (s.ctx i).state = .draining ∨ (s.ctx i).state = .finalOwed →
            t.meter = s.meter ∧ t.journal = s.journal ∧ t.link.queue = s.link.queue ∧ t.enrol.closes = asked true)
          ∧ ((s.ctx i).state = .opened → noneOwed → quiet → ¬ lines →
            t.ctx i = { s.ctx i with periodStart := s.clock.time } ∧ (∀ j, j ≠ i → t.ctx j = s.ctx j)
              ∧ t.journal = s.journal ∧ t.enrol.closes = asked true)
          ∧ ((s.ctx i).state = .opened → noneOwed → quiet → lines → held < 512 →
            (t.ctx i).state = .opened ∧ (∀ k, (t.tally i k).counts = ByteCounts.zero) ∧ t.enrol.closes = asked true
              ∧ t.journal.append = s.journal.append + 1
              ∧ ∃ r, t.journal.records = s.journal.records ++ [r] ∧ r.seq = s.journal.append ∧ r.slot = i
                ∧ r.reason = .profile ∧ r.start = (s.ctx i).periodStart ∧ (t.ctx i).periodStart = r.stop))

/-- The answer to a profile-close request (R42): no entry is answered BUSY with nothing changed; closed gives the entry, and
a slot that is still the same occupant and not CLOSING, the new values. That a FREE slot or another occupant takes nothing,
and that an entry gone meanwhile is not made again while the slot still changes, are the model's choices, log entry 17; so
is a tag that another serial took meanwhile, which is left out here. -/
def Obligations.ProfileCloseAnswered : Prop :=
  ∀ (s : State) (p : ProfileClose) (rest : List ProfileClose), s.enrol.closes = p :: rest →
    (p.closed = false →
      ∃ t, exec .profileCloseAnswer s = .next t
        ∧ t = { s with link := t.link, enrol := { s.enrol with closes := rest } }
        ∧ s.link.Answered t.link p.command .busy []) ∧
    (p.closed = true → (∀ e ∈ s.enrol.provision, e.tag = p.tag → e.serial = p.serial) →
      ∃ t, exec .profileCloseAnswer s = .next t
        ∧ t.enrol.closes = rest ∧ s.link.Answered t.link p.command .done []
        ∧ t = { s with home := t.home, enrol := t.enrol, meter := t.meter, link := t.link }
        ∧ t.enrol.provision = (s.enrol.provision.map fun e =>
            if e.serial = p.serial then { serial := p.serial, profile := p.profile, tag := p.tag } else e)
        ∧ ((s.slot p.slot).gen = p.gen → (s.slot p.slot).state ≠ .closing → (s.slot p.slot).state ≠ .free →
          let f := s.profileOf p.profile
          let a := min f.assured (s.room + (s.slot p.slot).assured)
          t.slot p.slot = { s.slot p.slot with
              profile := some p.profile, ceiling := f.ceiling, tariff := some f.tariff, assured := a
              short := decide (a < f.assured) })
        ∧ ((s.slot p.slot).gen ≠ p.gen ∨ (s.slot p.slot).state = .closing ∨ (s.slot p.slot).state = .free →
          t.home = s.home))

/-- UNPROVISION (R43). -/
def Obligations.UnprovisionAnswered : Prop :=
  ∀ (s : State) (c : RxCommand), s.Dispatched 2 c →
    let x : Serial := BitVec.ofNat 64 (fieldNat c.args 0 8)
    ∃ t, exec .unprovision s = .next t
      ∧ t = { s with link := t.link, enrol := { s.enrol with provision := t.enrol.provision } }
      ∧ (s.entryOf x = none → t.enrol.provision = s.enrol.provision ∧ (s.link.without c).Answered t.link c .notFound [])
      ∧ (∀ e, s.entryOf x = some e → (∃ i, (s.slot i).state ≠ .free ∧ (s.slot i).serial = some x) →
        t.enrol.provision = s.enrol.provision ∧ (s.link.without c).Answered t.link c .inUse [])
      ∧ (∀ e, s.entryOf x = some e → (∀ i, (s.slot i).state ≠ .free → (s.slot i).serial ≠ some x) →
        t.enrol.provision = (s.enrol.provision.filter fun k => k.serial ≠ x)
          ∧ (s.link.without c).Answered t.link c .done []
          ∧ (∀ tag, (∀ k ∈ s.enrol.provision, k.tag = tag → k.serial = x) → t.entryOfTag tag = none)
          ∧ (∀ rtd, s.quarantined x = false → t.candidate x rtd = t.stranger x .unprovisioned))

/-! ### Downstream packets and the buffer pool (R82 to R91) -/

/-- A packet at the network port (R82, R83): discarded by its length or its tag; for an ACTIVE or RESUMING slot queued if
the queue limit, the pressure mark and the pool let it, its blocks taken from the pool, else dropped and metered; for
another metered slot dropped and metered; for one not metered discarded. -/
def Obligations.PacketIngressDecided : Prop :=
  ∀ (s : State) (tag : Half) (content : List Byte),
    (content.length < 64 ∨ 2048 < content.length ∨ tag.toNat = 0 ∨ 4095 < tag.toNat ∨ s.entryOfTag tag = none →
      exec (.packetIngress tag content) s = .next s) ∧
    (∀ e, 64 ≤ content.length → content.length ≤ 2048 → 1 ≤ tag.toNat → tag.toNat ≤ 4095 → s.entryOfTag tag = some e →
      (s.holder e.serial = none → exec (.packetIngress tag content) s = .next s) ∧
      (∀ i, s.holder e.serial = some i →
        let b := (content.length + 255) / 256
        let held := ((s.queue i).packets.map fun p => (p.length + 255) / 256).sum
        let takes := held + b ≤ (s.slotProfile i).queueLimit ∧ (s.down.pressure = true → held < 32) ∧ b ≤ s.down.free
        let open_ := (s.slot i).state = .active ∨ (s.slot i).state = .resuming
        ∃ t, exec (.packetIngress tag content) s = .next t
          ∧ t = { s with down := t.down, meter := t.meter }
          ∧ (open_ → takes →
            t.meter = s.meter
              ∧ t.queue i = { s.queue i with packets := (s.queue i).packets ++ [content] }
              ∧ (∀ j, j ≠ i → t.queue j = s.queue j)
              ∧ t.down.free = s.down.free - b
              ∧ t.down.pressure = (s.down.pressure || decide (s.down.free - b < s.config.poolLow)))
          ∧ (open_ ∧ ¬ takes ∨ ¬ open_ ∧ (s.slot i).metered = true →
            t.down = s.down ∧ s.meter.TakesUpdate t.meter i (s.slot i).gen .drop content.length 0
              ∧ (64 ≤ s.meter.queue.length → t.meter.queue = s.meter.queue ∧ t.meter.taken = s.meter.taken
                ∧ (t.ctx i).marks.late = true
                ∧ (t.spill i).dropped = min ((s.spill i).dropped + content.length) 1099511627775))
          ∧ (¬ open_ → (s.slot i).metered = false → t = s)))

/-- A flush (R91, R33, R132): the queue empty, its blocks returned with the pressure mark reviewed, one DROP update for its
bytes, and for a CLOSING slot the final-close request with the drain mark at the tail of the meter queue.
The end of a round's transmission (R84, R89): its blocks return to the pool and the pressure mark is reviewed. -/
def Obligations.BlocksReturn : Prop :=
  (∀ (s : State) (f : Flush) (rest : List Flush), s.down.flushes = f :: rest →
     let packets := (s.queue f.slot).packets
     let blocks := (packets.map fun p => (p.length + 255) / 256).sum
     let bytes := (packets.map List.length).sum
     ∃ t, exec .queueFlush s = .next t ∧ t = { s with down := t.down, meter := t.meter }
       ∧ t.down.flushes = rest ∧ t.queue f.slot = { packets := [], deficit := 0, held := false }
       ∧ (∀ j, j ≠ f.slot → t.queue j = s.queue j)
       ∧ t.down.free = s.down.free + blocks
       ∧ t.down.pressure = (s.down.pressure && decide (s.down.free + blocks ≤ s.config.poolHigh))
       ∧ (bytes = 0 → t.meter.queue = s.meter.queue ∧ t.meter.taken = s.meter.taken)
       ∧ (0 < bytes → s.meter.TakesUpdate t.meter f.slot f.gen .drop bytes 0)
       ∧ (f.closing = false → (t.ctx f.slot).state = (s.ctx f.slot).state)
       ∧ (∀ reason, f.closing = true → (s.slot f.slot).state = .closing → (s.slot f.slot).closeReason = some reason →
         (s.slot f.slot).gen = f.gen → (s.ctx f.slot).state = .opened →
         (t.ctx f.slot).state = .draining ∧ (t.ctx f.slot).closeReason = some reason
           ∧ (t.ctx f.slot).drainMark = t.meter.taken)) ∧
  (∀ s : State,
     (s.down.txBlocks = 0 → exec .roundTransmissionEnd s = .next { s with tree := { s.tree with txRound := none } }) ∧
     (s.down.txBlocks ≠ 0 →
       exec .roundTransmissionEnd s = .next { s with
         tree := { s.tree with txRound := none }
         down := { s.down with
           txBlocks := 0, free := s.down.free + s.down.txBlocks
           pressure := s.down.pressure && decide (s.down.free + s.down.txBlocks ≤ s.config.poolHigh) } }))

/-! ### Metering, rating and closing (R119 to R136) -/

/-- The oldest meter update consumed (R121): discarded on another generation, in FINAL_OWED, or in NONE of a slot not
metered; otherwise credited, saturating, to the tally of its band, and then an overflow accumulator that is not zero is
folded into the tally of the current band and cleared. A count that saturates sets the slot's saturated mark. That a
discarded entry folds no overflow is the model's choice, log entry 28. -/
def Obligations.MeterUpdateConsumed : Prop :=
  ∀ (s : State) (u : MeterUpdate) (rest : List MeterUpdate), s.meter.queue = u :: rest →
    let i := u.slot
    let gone := (s.slot i).gen ≠ u.gen ∨ (s.ctx i).state = .finalOwed
      ∨ (s.ctx i).state = .none ∧ (s.slot i).metered = false
    let credit : ByteCounts := match u.kind with
      | .up => { upAssured := u.assured, upSurplus := u.bytes - u.assured, down := 0, dropped := 0 }
      | .down => { upAssured := 0, upSurplus := 0, down := u.bytes, dropped := 0 }
      | .drop => { upAssured := 0, upSurplus := 0, down := 0, dropped := u.bytes }
    let plus : ByteCounts → ByteCounts → ByteCounts := fun a b =>
      { upAssured := a.upAssured + b.upAssured, upSurplus := a.upSurplus + b.upSurplus
        down := a.down + b.down, dropped := a.dropped + b.dropped }
    let most := 1099511627775
    let cut : ByteCounts → ByteCounts := fun a =>
      { upAssured := min a.upAssured most, upSurplus := min a.upSurplus most
        down := min a.down most, dropped := min a.dropped most }
    let folds := s.spill i ≠ ByteCounts.zero
    let sum : Band → ByteCounts := fun b =>
      plus (if b = u.band then plus (s.tally i b).counts credit else (s.tally i b).counts)
        (if folds ∧ b = s.meter.band then s.spill i else ByteCounts.zero)
    ∃ t, exec .meterUpdateConsume s = .next t
      ∧ t.meter.queue = rest ∧ t.meter.consumed = s.meter.consumed + 1 ∧ t.meter.taken = s.meter.taken
      ∧ t = { s with meter := t.meter, link := t.link }
      ∧ (gone → t = { s with meter := { s.meter with queue := rest, consumed := s.meter.consumed + 1 } })
      ∧ (¬ gone → (s.ctx i).state ≠ .none → (s.tally i u.band).upset = none →
        (folds → (s.tally i s.meter.band).upset = none) →
        t.link = s.link ∧ t.spill i = ByteCounts.zero ∧ (∀ j, j ≠ i → t.ctx j = s.ctx j ∧ t.spill j = s.spill j)
          ∧ (∀ b, b = u.band ∨ (folds ∧ b = s.meter.band) → t.tally i b = { s.tally i b with counts := cut (sum b) })
          ∧ (∀ b, b ≠ u.band → ¬ (folds ∧ b = s.meter.band) → t.tally i b = s.tally i b)
          ∧ ((t.ctx i).marks.saturated = true ↔ (s.ctx i).marks.saturated = true
            ∨ ∃ b, (b = u.band ∨ (folds ∧ b = s.meter.band)) ∧ cut (sum b) ≠ sum b))

/-- A complete drain (R132, R33, R34): with a free entry and no close owed the final record is appended, the context is NONE
and the CLOSING slot FREE at its generation, and an append that brings the held count to 448 sets the near-full mark (R141);
with the journal full the context is FINAL_OWED and overdue. -/
def Obligations.DrainCompletes : Prop :=
  ∀ (s : State) (i : SlotId) (x : Serial) (reason : CloseReason),
    (s.ctx i).state = .draining → 0 ≤ (s.meter.consumed - (s.ctx i).drainMark).toInt →
    (s.ctx i).closeReason = some reason → (s.slot i).state = .closing → (s.slot i).serial = some x →
    let held := (s.journal.append - s.journal.oldest).toNat
    ∃ t, exec (.drainComplete i) s = .next t ∧ t.clock = s.clock ∧ t.config = s.config ∧ t.pending = s.pending
      ∧ (held < 512 → (∀ j, (s.ctx j).state ≠ .owed ∧ (s.ctx j).state ≠ .finalOwed) →
        (t.ctx i).state = .none ∧ t.spill i = ByteCounts.zero
          ∧ (t.slot i).state = .free ∧ (t.slot i).serial = none ∧ (t.slot i).gen = (s.slot i).gen
          ∧ t.journal.append = s.journal.append + 1
          ∧ t.journal.nearFull = (s.journal.nearFull || decide (held = 447))
          ∧ ∃ r, t.journal.records = s.journal.records ++ [r] ∧ r.seq = s.journal.append
            ∧ r.runMark = s.journal.runMark ∧ r.serial = x ∧ r.slot = i ∧ r.gen = (s.slot i).gen ∧ r.reason = reason
            ∧ r.start = (s.ctx i).periodStart)
      ∧ (512 ≤ held →
        (t.ctx i).state = .finalOwed ∧ (t.ctx i).marks.overdue = true ∧ t.journal = s.journal ∧ t.home = s.home)

/-- The scrub pass (R123, R124): once 4,000 rounds have passed, every tally of a context in OPEN, OWED or DRAINING holds no
error, a double error has set its counts and carries to 0 with the damaged mark, and no other context is touched. That a pass
taken late keeps the remainder of its period is the model's reading, log entry 25. -/
def Obligations.ScrubPassRepairs : Prop :=
  ∀ s : State,
    (s.meter.scrubCount < 4000 → exec .scrubPass s = .next s) ∧
    (4000 ≤ s.meter.scrubCount →
      ∃ t, exec .scrubPass s = .next t ∧ t = { s with meter := t.meter, link := t.link }
        ∧ t.meter.queue = s.meter.queue ∧ t.meter.scrubCount = s.meter.scrubCount % 4000
        ∧ (∀ i, (s.ctx i).state = .none ∨ (s.ctx i).state = .finalOwed → t.ctx i = s.ctx i)
        ∧ ∀ i b, (s.ctx i).state = .opened ∨ (s.ctx i).state = .owed ∨ (s.ctx i).state = .draining →
          ((s.tally i b).upset = none → t.tally i b = s.tally i b)
          ∧ ((s.tally i b).upset = some .single →
            t.tally i b = { s.tally i b with upset := none } ∧ (t.ctx i).marks.repaired = true)
          ∧ ((s.tally i b).upset = some .double →
            t.tally i b = { counts := ByteCounts.zero, carries := Carries.zero, damaged := true, upset := none }
              ∧ t.link.flags.getLsbD 11 = true))

/-- An interval round (R128 to R130): taken when district time has reached the boundary, the next boundary then the least
multiple of the interval above it; an OPEN context without a line only starts its period anew. With no close owed, the OPEN
contexts with lines are recorded in ascending slot order, each staying OPEN, while an entry is free, and those left are
OWED; with another close owed, or the journal full, all of them are OWED and overdue. The append that brings the held count
to 448 with the mark clear sets the near-full mark and raises JOURNAL_NEAR_FULL with the held count and O (R141). -/
def Obligations.IntervalRoundRuns : Prop :=
  ∀ (s : State) (b : Nat), s.meter.nextBoundary = some b →
    (s.clock.time.toNat < b → exec .intervalRound s = .next s) ∧
    (b ≤ s.clock.time.toNat →
      let step := 60000 * s.config.interval
      let held := (s.journal.append - s.journal.oldest).toNat
      let quiet : SlotId → Prop := fun i => s.spill i = ByteCounts.zero ∧ ∀ k, (s.tally i k).upset = none
      let lines : SlotId → Prop := fun i =>
        (s.ctx i).state = .opened ∧ ∃ k, (s.tally i k).counts ≠ ByteCounts.zero ∨ (s.tally i k).damaged = true
      let owed : SlotId → Context := fun i =>
        { s.ctx i with state := .owed, marks := { (s.ctx i).marks with overdue := true } }
      let noneOwed := ∀ j, (s.ctx j).state ≠ .owed ∧ (s.ctx j).state ≠ .finalOwed
      ∃ t, exec .intervalRound s = .next t
        ∧ t.meter.nextBoundary = some ((s.clock.time.toNat / step + 1) * step)
        ∧ t = { s with meter := t.meter, journal := t.journal, link := t.link }
        ∧ t.meter.queue = s.meter.queue
        ∧ t.journal.oldest = s.journal.oldest ∧ t.journal.publish = s.journal.publish
        ∧ (∀ i, (s.ctx i).state ≠ .opened → t.ctx i = s.ctx i)
        ∧ (∀ i, (s.ctx i).state = .opened → quiet i → ¬ lines i →
          t.ctx i = { s.ctx i with periodStart := s.clock.time })
        ∧ (512 ≤ held ∨ ¬ noneOwed →
          t.journal = s.journal ∧ ∀ i, lines i → quiet i → t.ctx i = owed i)
        ∧ (noneOwed → (∀ i, (s.ctx i).state = .opened → quiet i) →
          ∀ due : List SlotId, due.Pairwise (· < ·) → (∀ i, i ∈ due ↔ lines i) →
            let taken := due.take (512 - held)
            t.journal.append = s.journal.append + BitVec.ofNat 32 taken.length
              ∧ (∃ rs, t.journal.records = s.journal.records ++ rs ∧ rs.map (·.slot) = taken
                ∧ ∀ (k : Nat) (r : UsageRecord), rs[k]? = some r →
                  r.seq = s.journal.append + BitVec.ofNat 32 k ∧ r.runMark = s.journal.runMark ∧ r.reason = .interval
                    ∧ r.gen = (s.slot r.slot).gen ∧ r.start = (s.ctx r.slot).periodStart
                    ∧ (t.ctx r.slot).periodStart = r.stop)
              ∧ (∀ i ∈ taken, (t.ctx i).state = .opened ∧ ∀ k, (t.tally i k).counts = ByteCounts.zero)
              ∧ (∀ i ∈ due.drop (512 - held), t.ctx i = owed i)
              ∧ (s.journal.nearFull = false → held < 448 → 448 ≤ held + taken.length →
                t.journal.nearFull = true
                  ∧ s.Raised t .journalNearFull (be 2 448 ++ be 4 s.journal.oldest.toNat))
              ∧ (s.journal.nearFull = true ∨ 448 ≤ held ∨ held + taken.length < 448 →
                t.journal.nearFull = s.journal.nearFull ∧ t.link = s.link)))

/-- Rating loses no fraction (R126, R127): without a final close, units times 1,048,576 plus the new carry is bytes times
price plus the old carry for each kind, each new carry is below 1,048,576, and the line units are the sum of the three, at
most 4,294,967,295; a final close adds one unit for each carry and leaves none. That the clamp is taken after the round-up
is the model's choice, log entry 13. -/
def Obligations.RatingConserves : Prop :=
  ∀ (p : Prices) (t : Tally),
    let u := rateTally p false t
    let x := t.counts.upAssured * p.assured + t.carries.assured
    let y := t.counts.upSurplus * p.surplus + t.carries.surplus
    let z := t.counts.down * p.down + t.carries.down
    (∃ i j k : Nat,
      1048576 * i + u.carries.assured = x ∧ 1048576 * j + u.carries.surplus = y ∧ 1048576 * k + u.carries.down = z
        ∧ u.units = min (i + j + k) 4294967295)
      ∧ u.carries.assured < 1048576 ∧ u.carries.surplus < 1048576 ∧ u.carries.down < 1048576
      ∧ (rateTally p true t).carries = Carries.zero
      ∧ (rateTally p true t).units =
        min (x / 1048576 + y / 1048576 + z / 1048576 + (if x % 1048576 = 0 then 0 else 1)
          + (if y % 1048576 = 0 then 0 else 1) + (if z % 1048576 = 0 then 0 else 1)) 4294967295

/-! ### The journal (R137 to R148) -/

/-- A pacing tick (R142): with no frame in hand and an unsent record, the record of entry P is offered, and once taken it is
the frame in hand; a refused offer changes nothing. That a tick taken late keeps the remainder of its period is the model's
reading, log entry 25. -/
def Obligations.PacingTickOffers : Prop :=
  ∀ (s : State) (r : UsageRecord), s.clock.phase = .running → 4 * s.config.pacing ≤ s.journal.pacing →
    (s.journal.inHand = none → s.journal.nextRecord = some r → s.link.queue.length < 16 →
      (∀ e ∈ s.link.queue, ∀ q, e.message ≠ .usage q) →
      exec .pacingTick s = .next { s with
        journal := { s.journal with
          pacing := s.journal.pacing % (4 * s.config.pacing), inHand := some s.journal.publish }
        link := { s.link with
          queue := s.link.queue ++ [{ message := .usage r, attempts := 0, age := s.link.nextAge }]
          nextAge := s.link.nextAge + 1 } }) ∧
    (s.journal.inHand ≠ none ∨ s.journal.nextRecord = none ∨ 16 ≤ s.link.queue.length →
      exec .pacingTick s = .next { s with
        journal := { s.journal with pacing := s.journal.pacing % (4 * s.config.pacing) } })

/-- A USAGE_ACK (R144, R145): taken only from the collector, to this station and under the present run mark; a stale one
changes nothing; otherwise the sent entries up to the one named, or all of them (R146: an acknowledgement before the sent
report of its own frame frees only those before it), become free, and the ack timer restarts or stops. An owed close is
then served with a freed entry (R130, R149): OWED gives an INTERVAL record and is OPEN again, FINAL_OWED gives its final
record and is NONE with the CLOSING slot FREE, each record OVERDUE.
The ack timer (R147): run out with sent entries, P goes back to O and the timer stops. -/
def Obligations.AcknowledgementsAndGoBack : Prop :=
  (∀ (s : State) (a : AckFrame) (rest : List AckFrame), s.journal.acks = a :: rest →
     let mine := a.source = BitVec.ofNat 8 s.config.collector ∧ a.dest = s.station ∧ a.runMark = s.journal.runMark
     let d := (a.seq - s.journal.oldest).toInt
     let sent := (s.journal.publish - s.journal.oldest).toNat
     (¬ mine ∨ d < 0 ∨ sent = 0 →
       exec .usageAck s = .next { s with journal := { s.journal with acks := rest } }) ∧
     (mine → 0 ≤ d → 0 < sent → (∀ i, (s.ctx i).state ≠ .owed ∧ (s.ctx i).state ≠ .finalOwed) →
       let k := min (d.toNat + 1) sent
       exec .usageAck s = .next { s with journal := { s.journal with
         acks := rest
         records := s.journal.records.drop k
         oldest := s.journal.oldest + BitVec.ofNat 32 k
         ackTimer := if s.journal.publish = s.journal.oldest + BitVec.ofNat 32 k then none else some 0
         nearFull := s.journal.nearFull
           && decide (448 ≤ (s.journal.append - (s.journal.oldest + BitVec.ofNat 32 k)).toNat) } }) ∧
     (∀ i : SlotId, mine → 0 ≤ d → 0 < sent →
       (∀ j, j ≠ i → (s.ctx j).state ≠ .owed ∧ (s.ctx j).state ≠ .finalOwed) →
       (s.ctx i).state = .owed ∨ (s.ctx i).state = .finalOwed → (s.ctx i).marks.overdue = true →
       let k := min (d.toNat + 1) sent
       (s.journal.append - (s.journal.oldest + BitVec.ofNat 32 k)).toNat < 512 →
       ∃ t r, exec .usageAck s = .next t
         ∧ t.journal.acks = rest ∧ t.journal.oldest = s.journal.oldest + BitVec.ofNat 32 k
         ∧ t.journal.publish = s.journal.publish ∧ t.journal.append = s.journal.append + 1
         ∧ t.journal.records = s.journal.records.drop k ++ [r] ∧ r.seq = s.journal.append
         ∧ r.runMark = s.journal.runMark ∧ r.slot = i ∧ r.gen = (s.slot i).gen ∧ r.start = (s.ctx i).periodStart
         ∧ r.flags.getLsbD 6 = true
         ∧ ((s.ctx i).state = .owed →
           r.reason = .interval ∧ (t.ctx i).state = .opened ∧ (t.ctx i).periodStart = r.stop
             ∧ (t.ctx i).marks.overdue = false ∧ (∀ b, (t.tally i b).counts = ByteCounts.zero) ∧ t.home = s.home)
         ∧ (∀ reason, (s.ctx i).state = .finalOwed → (s.ctx i).closeReason = some reason →
           (s.slot i).state = .closing →
           r.reason = reason ∧ (t.ctx i).state = .none ∧ t.spill i = ByteCounts.zero ∧ (t.slot i).state = .free
             ∧ (t.slot i).serial = none ∧ (t.slot i).gen = (s.slot i).gen))) ∧
  (∀ (s : State) (k : Nat), s.journal.ackTimer = some k →
     (8000 ≤ k → s.journal.publish ≠ s.journal.oldest →
       exec .ackTimeout s = .next { s with
         journal := { s.journal with publish := s.journal.oldest, ackTimer := none } }) ∧
     (k < 8000 → exec .ackTimeout s = .next s))

/-! ### The shelf link (R151 to R165) -/

/-- An accepted frame (R152, R153) and what it does: a COMMAND for this station is handed over once the part is not
LOADING, a USAGE_ACK once it is RUNNING, also while a frame of the part's own has no sent report yet (R146); the frame the
part is itself sending, and one that fails a test of R152, change nothing. -/
def Obligations.FrameReceived : Prop :=
  ∀ (s : State) (bytes : List Byte),
    (∀ age, s.link.phase = .sending age → bytes = s.link.wire → exec (.frameReceive bytes) s = .next s) ∧
    ((∀ age, s.link.phase = .sending age → bytes ≠ s.link.wire) →
      let n := fieldNat bytes 4 1
      let dest := fieldNat bytes 1 1
      let source := fieldNat bytes 2 1
      (bytes.length < 7 + n ∨ fieldNat bytes (5 + n) 2 ≠ (check16 (field bytes 1 (4 + n))).toNat ∨ 144 < n
          ∨ (dest ≠ s.station.toNat ∧ dest ≠ 255) ∨ source = s.station.toNat
          ∨ fieldNat bytes 3 1 = 6 ∨ fieldNat bytes 3 1 = 7 ∨ 9 < fieldNat bytes 3 1 ∨ fieldNat bytes 3 1 = 0 →
        exec (.frameReceive bytes) s = .next s) ∧
      (∀ (d : Byte) (c : RxCommand), receivedFrame s.station bytes = some (.command d c) →
        exec (.frameReceive bytes) s =
          .next (if s.clock.phase ≠ .loading ∧ d = s.station then
            { s with link := { s.link with inbox := s.link.inbox ++ [c] } } else s)) ∧
      (∀ a, receivedFrame s.station bytes = some (.usageAck a) →
        exec (.frameReceive bytes) s =
          .next (if s.clock.phase = .running then
            { s with journal := { s.journal with acks := s.journal.acks ++ [a] } } else s)))

/-- A CLAIM taken from a peer (R172, R174): its entry is refreshed, or inserted at the end of the roster, which when full
first gives up the entry with the oldest last-heard time, the one inserted earlier of equals. Each insert and removal
writes the contested flag of the slot that holds the entry's serial, and a refresh does not; without a slot that holds the
CLAIM's serial no decision is sent and no claim-due mark is set.
A RELEASE (R173, R174): its entry is removed, with the same effect on the flag; without one nothing changes.
A BAR (R177, R179): nothing is added while a slot holds its serial or a local entry stands; a peer entry takes its values;
without an entry one is added at the end, and a full list first gives up the peer entry with the earliest bar time, or with
no peer entry the earliest local one, the one added earlier of equals.
An UNBAR (R180, R183): from the controller, once the part is RUNNING, the serial leaves the quarantine and the pending bar
list and the manager is sent an UNBAR decision; from any other station, or before, nothing changes. -/
def Obligations.PeerFramesRecorded : Prop :=
  (∀ (s : State) (bytes : List Byte) (p : Byte) (x : Serial) (time : DTime) (standing : Bool),
     (∀ age, s.link.phase = .sending age → bytes ≠ s.link.wire) →
     receivedFrame s.station bytes = some (.claim p x time standing) →
     let known := ∃ c ∈ s.roster.claims, c.serial = x ∧ c.holder = p
     let entry : Claim := { serial := x, holder := p, time := time, lastHeard := s.clock.round }
     let age : Claim → Nat := fun c => (s.clock.round - c.lastHeard).toNat
     ∃ t, exec (.frameReceive bytes) s = .next t
       ∧ t = { s with
           home := { s.home with slots := t.home.slots }
           roster := { s.roster with
             claims := t.roster.claims, claimDue := t.roster.claimDue, decisions := t.roster.decisions } }
       ∧ (s.holder x = none → t.roster.claimDue = s.roster.claimDue ∧ t.roster.decisions = s.roster.decisions)
       ∧ (known → t.home = s.home
         ∧ t.roster.claims = s.roster.claims.map fun c =>
           if c.serial = x ∧ c.holder = p then { c with time := time, lastHeard := s.clock.round } else c)
       ∧ (¬ known → s.roster.claims.length < 1024 →
         t.roster.claims = s.roster.claims ++ [entry]
           ∧ ∀ j, t.slot j = if s.holder x = some j then { s.slot j with contested := true } else s.slot j)
       ∧ (∀ (pre post : List Claim) (o : Claim), ¬ known → 1024 ≤ s.roster.claims.length →
         s.roster.claims = pre ++ o :: post → (∀ c ∈ pre, age c < age o) → (∀ c ∈ post, age c ≤ age o) →
         t.roster.claims = pre ++ post ++ [entry]
           ∧ ∀ j, t.slot j =
             if s.holder x = some j then { s.slot j with contested := true }
             else if s.holder o.serial = some j then
               { s.slot j with contested := (pre ++ post).any fun c => decide (c.serial = o.serial) }
             else s.slot j)) ∧
  (∀ (s : State) (bytes : List Byte) (p : Byte) (x : Serial),
     (∀ age, s.link.phase = .sending age → bytes ≠ s.link.wire) →
     receivedFrame s.station bytes = some (.release p x) →
     let mine : Claim → Prop := fun c => c.serial = x ∧ c.holder = p
     let left := s.roster.claims.filter fun c => ¬ (c.serial = x ∧ c.holder = p)
     ((∀ c ∈ s.roster.claims, ¬ mine c) → exec (.frameReceive bytes) s = .next s) ∧
     ((∃ c ∈ s.roster.claims, mine c) →
       ∃ t, exec (.frameReceive bytes) s = .next t
         ∧ t = { s with home := { s.home with slots := t.home.slots }, roster := { s.roster with claims := left } }
         ∧ ∀ j, t.slot j =
           if s.holder x = some j then { s.slot j with contested := left.any fun c => decide (c.serial = x) }
           else s.slot j)) ∧
  (∀ (s : State) (bytes : List Byte) (p : Byte) (x : Serial) (reason : BarReason) (time : DTime),
     (∀ age, s.link.phase = .sending age → bytes ≠ s.link.wire) →
     receivedFrame s.station bytes = some (.bar p x reason time) →
     let list := s.roster.quarantine
     let entry : Quarantine := { serial := x, reason := reason, origin := p, time := time }
     let holds : List Quarantine → State := fun l => { s with roster := { s.roster with quarantine := l } }
     (∀ i, s.holder x = some i → exec (.frameReceive bytes) s = .next s) ∧
     (s.holder x = none →
       (∀ e, list.find? (·.serial == x) = some e →
         (e.origin = s.station → exec (.frameReceive bytes) s = .next s)
         ∧ (e.origin ≠ s.station →
           exec (.frameReceive bytes) s = .next (holds (list.map fun k => if k.serial = x then entry else k))))
       ∧ ((∀ e ∈ list, e.serial ≠ x) →
         (list.length < 64 → exec (.frameReceive bytes) s = .next (holds (list ++ [entry])))
         ∧ (∀ (pre post : List Quarantine) (o : Quarantine), 64 ≤ list.length → list = pre ++ o :: post →
           let rival : Quarantine → Bool := fun q =>
             decide (o.origin = s.station ∨ q.origin ≠ s.station)
           (o.origin = s.station → ∀ q ∈ list, q.origin = s.station) →
           (∀ q ∈ pre, rival q = true → o.time.toNat < q.time.toNat) →
           (∀ q ∈ post, rival q = true → o.time.toNat ≤ q.time.toNat) →
           exec (.frameReceive bytes) s = .next (holds (pre ++ post ++ [entry])))))) ∧
  (∀ (s : State) (bytes : List Byte) (p : Byte) (x : Serial),
     (∀ age, s.link.phase = .sending age → bytes ≠ s.link.wire) →
     receivedFrame s.station bytes = some (.unbar p x) →
     (s.clock.phase = .running → p = BitVec.ofNat 8 s.config.controller →
       exec (.frameReceive bytes) s = .next { s with roster := { s.roster with
         quarantine := s.roster.quarantine.filter fun q => q.serial ≠ x
         bars := s.roster.bars.filter fun b => b.serial ≠ x
         decisions := s.roster.decisions ++ [{ serial := x, kind := .unbar }] } }) ∧
     (s.clock.phase ≠ .running ∨ p ≠ BitVec.ofNat 8 s.config.controller →
       exec (.frameReceive bytes) s = .next s))

/-- A COMMAND taken (R160 to R162): discarded with 4 in flight; REFUSED from another station; a repeat is answered from the
stored reply or discarded; any other is remembered and dispatched, or answered BAD_ARGUMENT for its form. That a command
so answered has already replaced the last command record, and that a REPLY bears also a code that is no command's, are the
model's choices, log entries 18 and 50. -/
def Obligations.CommandTaken : Prop :=
  ∀ (s : State) (c : RxCommand) (rest : List RxCommand), s.link.inbox = c :: rest →
    let s' : State := { s with link := { s.link with inbox := rest } }
    let l : Link := { s.link with inbox := rest, inFlight := s.link.inFlight + 1 }
    let mine := c.source = BitVec.ofNat 8 s.config.controller
    (4 ≤ s.link.inFlight → exec .commandReceive s = .next s') ∧
    (s.link.inFlight < 4 → s.clock.phase = .running →
      (¬ mine → ∃ t, exec .commandReceive s = .next t ∧ t = { s with link := t.link }
        ∧ t.link.lastCommand = s.link.lastCommand ∧ t.link.dispatched = s.link.dispatched
        ∧ (s.link.queue.length < 16 →
          t.link.queue = s.link.queue ++ [{ message := c.replyWith .refused [], attempts := 0, age := s.link.nextAge }])) ∧
      (∀ k, mine → s.link.lastCommand = some k → k.tag = c.tag → k.code = c.code → k.args = c.args →
        (k.reply = none → exec .commandReceive s = .next s') ∧
        (∀ rc results, k.reply = some (rc, results) → s.link.queue.length < 16 →
          exec .commandReceive s = .next { s with link := { s.link with
            inbox := rest
            queue := s.link.queue ++ [{ message := c.replyWith rc results, attempts := 0, age := s.link.nextAge }]
            nextAge := s.link.nextAge + 1 } })) ∧
      (mine → (∀ k, s.link.lastCommand = some k → ¬ (k.tag = c.tag ∧ k.code = c.code ∧ k.args = c.args)) →
        (c.wellFormed = true →
          exec .commandReceive s = .next { s with link := { l with
            lastCommand := some { tag := c.tag, code := c.code, args := c.args, reply := none }
            dispatched := s.link.dispatched ++ [c] } }) ∧
        (c.wellFormed = false →
          ∃ t, exec .commandReceive s = .next t ∧ t = { s with link := t.link }
            ∧ t.link.dispatched = s.link.dispatched
            ∧ t.link.lastCommand = some {
                tag := c.tag, code := c.code, args := c.args, reply := some (.badArgument, []) }))) ∧
    (s.link.inFlight < 4 → s.clock.phase = .configFault → s.link.lastCommand = none → c.code ≠ 5 →
      ∃ t, exec .commandReceive s = .next t ∧ t = { s with link := t.link } ∧ t.link.dispatched = s.link.dispatched
        ∧ t.link.lastCommand = some { tag := c.tag, code := c.code, args := c.args, reply := some (.notNow, []) })

/-- CLEAR_FLAGS (R165), for every selection of the fourteen flags: bits 14 and 15 of the selection, which name no flag, are
clear. -/
def Obligations.FlagsCleared : Prop :=
  ∀ (s : State) (c : RxCommand), s.Dispatched 10 c →
    let selection := fieldNat c.args 0 2
    selection < 16384 →
    ∃ t, exec .clearFlags s = .next t ∧ t = { s with link := t.link }
      ∧ (∀ k, k < 14 → t.link.flags.getLsbD k = (s.link.flags.getLsbD k && !selection.testBit k))
      ∧ ({ s.link with flags := t.link.flags }.without c).Answered t.link c .done (be 2 t.link.flags.toNat)

/-- An alert of any kind raised (R158, R159, R164, R183): the event flag is set whatever the alert mask says, and nothing but
the link changes. A kind the mask disables gives no frame; an enabled one, and every one while no configuration is in force,
gives one ALERT frame with the time state, the district time and the details, taken by the transmit queue, or placed in
the backlog when that is full, which gives up its oldest for a 17th.
Two commands that raise one so: a line clock failure in STARTING (R186), and a count complete there (R187). -/
def Obligations.AlertsRaised : Prop :=
  (∀ (s : State) (k : AlertKind) (details : List Byte),
     s.Raised (s.raise k details) k details ∧ s.raise k details = { s with link := (s.raise k details).link }) ∧
  (∀ s : State, s.tree.state = .starting → s.clock.failed = false →
     ∃ t, exec .lineClockFailure s = .next t ∧ s.Raised t .clockFail []
       ∧ t = { s with
           link := t.link
           clock := { s.clock with osc := .internal, edges := 0, edgeLatch := false, failed := true } }) ∧
  (∀ s : State, s.tree.state = .starting → s.clock.failed = true →
     ∃ t, exec .startCountComplete s = .next t ∧ s.Raised t .clockRestored [] ∧ t.clock.failed = false)

/-- The transmitter's waits (R155, R156): the head frame starts when the silence, counted with the bit times elapsed, reaches
12, 16 or 20 bit times by its class and the pair is silent; not before, and not in backoff; at the end of backoff the
silence counts again. That the elapsed bit times come with the command, and with them the rival offer of the frame's leaving
and the bit at which a collision would stop it, is the model's choice, log entries 10, 45 and 52. -/
def Obligations.TransmitterWaits : Prop :=
  ∀ (s : State),
    (∀ (e : TxEntry) (start : TransmitStart), s.link.phase = .idle → s.link.head = some e →
      let wait := if e.message.txClass = 0 then 12 else if e.message.txClass = 1 then 16 else 20
      (s.link.active = false → wait ≤ s.link.silence + start.elapsed →
        exec (.frameTransmitStart start) s = .next { s with link := { s.link with
          phase := .sending e.age, rival := start.rival, mismatch := start.mismatch, silence := 0, cut := none
          wire := frameBytes s.link.station s.config.collector s.clock.time e.message } }) ∧
      (s.link.active = true ∨ s.link.silence + start.elapsed < wait → exec (.frameTransmitStart start) s = .next s)) ∧
    (∀ bits start, s.link.phase = .backoff bits →
      exec (.frameTransmitStart start) s = .next s ∧
      exec .backoffEnd s = .next { s with link := { s.link with phase := .idle, silence := 0 } }) ∧
    exec (.linkActivity .begins) s = .next { s with link := { s.link with active := true, silence := 0 } } ∧
    exec (.linkActivity .delimiter) s =
      .next { s with link := { s.link with active := true, silence := 0, noted := s.clock.time } } ∧
    exec (.linkActivity .ends) s = .next { s with link := { s.link with active := false, silence := 0 } }

/-- A collision (R156, R157): the frame stops at the bit that did not match, with nothing beyond it on the pair but the 8-bit
jam, the bit being the one its start named or else its last (log entry 52). Its attempt count rises; below 16 the transmitter backs off for
(station + 1) x 16 x attempts bit times, and at 16 the frame leaves the queue with SEND_ABANDONED set: an abandoned USAGE
is no longer in hand and moves no pointer (R143), an abandoned beacon is no longer in hand (R191).
A frame sent (R143, R147, R157, R191): it leaves the queue; a USAGE of entry P makes it SENT, with the ack timer started
from a sent count of 0, any other number is disregarded; a beacon is no longer in hand.
The backlog (R159): the entry a frame leaves goes to the oldest backlog ALERT, or without one to the oldest REPLY, whose
command is then no longer in flight; the rest stays. Another source's offer that comes first takes the entry, and the
backlog stays as it was; that the start of a frame names such an offer is the model's choice, log entry 45. -/
def Obligations.FramesLeaveTheQueue : Prop :=
  (∀ (s : State) (e : TxEntry), s.link.phase = .sending e.age → s.link.queue.find? (·.age == e.age) = some e →
     let wire := s.link.wire.take (s.link.mismatch / 8 + 1)
     let cut : Option WireCut := some { bits := min (s.link.mismatch + 1) (8 * s.link.wire.length), jam := 8 }
     (e.attempts < 15 →
       exec .collision s = .next { s with link := { s.link with
         wire := wire, cut := cut
         queue := s.link.queue.map fun k => if k.age = e.age then { k with attempts := e.attempts + 1 } else k
         phase := .backoff ((s.link.station.toNat + 1) * 16 * (e.attempts + 1)), rival := none } }) ∧
     (15 ≤ e.attempts → s.link.rival = none → s.link.backAlerts = [] → s.link.backReplies = [] →
       exec .collision s = .next { s with
         clock := { s.clock with beacon := if e.message.isTime then .none else s.clock.beacon }
         journal := { s.journal with inHand := if e.message.isUsage then none else s.journal.inHand }
         link := { s.link with
           wire := wire, cut := cut
           queue := s.link.queue.filter fun k => k.age ≠ e.age
           phase := .idle, silence := 0, flags := s.link.flags ||| 0x2000 } })) ∧
  (∀ (s : State) (e : TxEntry), s.link.phase = .sending e.age → s.link.queue.find? (·.age == e.age) = some e →
     let left := s.link.queue.filter fun k => k.age ≠ e.age
     let link : Link := { s.link with queue := left, phase := .idle, rival := none, silence := 0 }
     (s.link.rival = none → s.link.backAlerts = [] → s.link.backReplies = [] →
       (∀ r, e.message = .usage r →
         (r.seq = s.journal.publish →
           exec .frameSent s = .next { s with
             link := link
             journal := { s.journal with
               inHand := none, publish := s.journal.publish + 1
               ackTimer := if s.journal.publish = s.journal.oldest then some 0 else s.journal.ackTimer } }) ∧
         (r.seq ≠ s.journal.publish →
           exec .frameSent s = .next { s with link := link, journal := { s.journal with inHand := none } })) ∧
       (∀ st, e.message = .time st →
         exec .frameSent s = .next { s with link := link, clock := { s.clock with beacon := .none } }) ∧
       (e.message.isUsage = false → (∀ st, e.message ≠ .time st) →
         exec .frameSent s = .next { s with link := link })) ∧
     (left.length = 15 →
       (∀ m rest, s.link.rival = none → s.link.backAlerts = m :: rest → m.isUsage = false →
         ∃ t, exec .frameSent s = .next t
           ∧ t.link = { link with
               queue := left ++ [{ message := m, attempts := 0, age := s.link.nextAge }]
               nextAge := s.link.nextAge + 1, backAlerts := rest }) ∧
       (∀ m rest, s.link.rival = none → s.link.backAlerts = [] → s.link.backReplies = m :: rest → m.isUsage = false →
         ∃ t, exec .frameSent s = .next t
           ∧ t.link = { link with
               queue := left ++ [{ message := m, attempts := 0, age := s.link.nextAge }]
               nextAge := s.link.nextAge + 1, backReplies := rest, inFlight := s.link.inFlight - 1 }) ∧
       (∀ b rest, s.link.rival = some .roundStart → s.roster.bars = b :: rest →
         ∃ t, exec .frameSent s = .next t ∧ t.roster.bars = rest
           ∧ t.link = { link with
               queue := left ++ [{ message := .bar b.serial b.reason b.time, attempts := 0, age := s.link.nextAge }]
               nextAge := s.link.nextAge + 1 })))

/-- TREE_RESTART (R1, R5, R37, R62, R64, R118, R162, R194), in each of the orders R162 and R37 leave open (log entry 6):
every slot is FREE or CLOSING, a metered one CLOSING for RESTART, the tree port moves by R1's table, the watch is CLEAR,
the planner empty, the cause recorded, and the metering tallies, the journal and district time run on.
Both order lanes are emptied (R5), but for the RELEASEs that the manager offers after the tree port in DARK; an abandoned
RELEASE clears release pending, and no exchange, HOLDOFF or roll call is left (R47, R62). Every hushed flag is clear (R118) and
has set wake-due (R117) in a slot not FREE, also where its WAKE was abandoned before the watch had the command (log entry
56); but where the manager has it before the watch, a candidate that leaves the search for CLOSING loses the flag with no
WAKE owed (R113). -/
def Obligations.TreeRestartTaken : Prop :=
  ∀ (s : State) (c : RxCommand) (o : RestartOrder), s.Dispatched 9 c →
    ∃ t, exec (.treeRestart o) s = .next t
      ∧ (s.link.without c).Answered t.link c .done [] ∧ t.clock = { s.clock with cause := .restart }
      ∧ t.journal = s.journal ∧ t.meter = s.meter ∧ t.config = s.config ∧ t.pending = s.pending
      ∧ t.enrol.provision = s.enrol.provision
      ∧ t.enrol.strangers = s.enrol.strangers ∧ t.roster.claims = s.roster.claims
      ∧ (s.tree.state = .off ∨ s.tree.state = .starting → t.tree.state = s.tree.state)
      ∧ (s.tree.state = .calibrating ∨ s.tree.state = .lit →
        t.tree.state = .calibrating ∧ t.tree.holdStart = some s.clock.round)
      ∧ (s.tree.state = .lit → t.tree.issued = [] ∧ t.tree.txRound = none ∧ t.down.txBlocks = 0)
      ∧ (s.tree.state = .dark → t.tree.state = .dark ∧ t.tree.recalDue = true)
      ∧ t.watch.state = .clear ∧ t.watch.test = none ∧ t.watch.locate = none
      ∧ (t.sched.rollReq = false ∧ t.sched.echoReqs = [] ∧ t.sched.watchReq = none ∧ t.sched.rollProgress = none
        ∧ t.sched.rotation = 0 ∧ ∀ i, t.demand i = Demand.reset)
      ∧ t.enrol.roll.phase = .idle ∧ t.enrol.roll.followUps = 0 ∧ t.enrol.roll.streak = 0
      ∧ (∀ i, (t.slot i).gen = (s.slot i).gen)
      ∧ (∀ i, (s.slot i).metered = true → (t.slot i).state = .closing ∧ (t.slot i).closeReason = some .restart
        ∧ (t.slot i).serial = (s.slot i).serial)
      ∧ (∀ i, (s.slot i).fresh = true ∨ (s.slot i).state = .free → (t.slot i).state = .free)
      ∧ (∀ i, (s.slot i).state = .closing →
        (t.slot i).state = .closing ∧ (t.slot i).closeReason = (s.slot i).closeReason)
      ∧ (s.tree.state ≠ .dark ∨ o.portFirst = false → t.tree.urgent = [] ∧ t.tree.normal = [])
      ∧ t.tree.urgent = [] ∧ (∀ e ∈ t.tree.normal, e.body = .release)
      ∧ (∀ e ∈ s.tree.urgent ++ s.tree.normal, ∀ i g, e.body = .release → e.target = some (i, g) →
        (s.slot i).state = .free ∨ (s.slot i).state = .closing → (t.slot i).releasePending = false)
      ∧ (∀ i, (t.echo i).purpose = none ∧ (t.echo i).holdoffInFlight = none ∧ (t.echo i).holdoffWaiting = none
        ∧ (t.echo i).checkPending = false ∧ (t.echo i).garbledRun = 0)
      ∧ (∀ i, (t.slot i).hushed = false)
      ∧ (∀ i, (s.slot i).state ≠ .free → (s.slot i).fresh = false →
        let member := ∃ l, s.watch.locate = some l ∧ ∃ c ∈ l.cands, c.1 = i
        (o.watchFirst = true ∨ (s.slot i).state = .closing ∨ ¬ member →
          (t.slot i).wakeDue = ((s.slot i).wakeDue || (s.slot i).hushed))
        ∧ (o.watchFirst = false → (s.slot i).metered = true → member → (t.slot i).wakeDue = (s.slot i).wakeDue))

/-! ### Time and the roster's timers (R167, R168, R173, R178, R189 to R193) -/

/-- A second tick (R125, R128, R191 to R193): in SET the stale entries of the peer table are removed, and district time is
corrected by the median of 0 and the offsets left, the one at index floor((k - 1) / 2) of the k in ascending order. A median
within 500 ms slews by it, clamped to -2 to 2; beyond that district time steps by it, forward or back, to 0 where it would be
negative, every offset left is reduced by it, every slot is marked time-stepped, the current band is evaluated again, and a
step back sets the next interval boundary anew. COASTING and UNSET correct nothing. With no beacon in hand a SET or COASTING
part offers one beside the correction, which waits if the transmit queue refuses it; one in hand gives no second, and UNSET
none. That a tick taken late keeps the remainder of its period is the model's reading, log entry 25; that a step past 2^48
wraps is log entry 29, and that it then counts as a step back log entry 58. -/
def Obligations.SecondTickCorrects : Prop :=
  ∀ s : State,
    (s.clock.secondCount < 4000 → exec .secondTick s = .next s) ∧
    (4000 ≤ s.clock.secondCount → s.clock.state ≠ .set → s.clock.beacon ≠ .none ∨ s.clock.state = .unset →
      exec .secondTick s = .next { s with
        clock := { s.clock with secondCount := s.clock.secondCount % 4000 } }) ∧
    (4000 ≤ s.clock.secondCount → s.clock.beacon ≠ .none → s.clock.state = .set →
      let peers := s.clock.peers.filter fun p => (s.clock.round - p.round).toNat < 16000
      ∀ (sorted : List Int) (m : Int),
        sorted.Perm (0 :: peers.map (·.offset)) → sorted.Pairwise (· ≤ ·) →
        sorted[(sorted.length - 1) / 2]? = some m →
        (m.natAbs ≤ 500 →
          exec .secondTick s = .next { s with
            clock := { s.clock with
              secondCount := s.clock.secondCount % 4000, peers := peers, trim := 250 * max (-2) (min 2 m) } }) ∧
        (500 < m.natAbs →
          let step := 60000 * s.config.interval
          ∃ t, exec .secondTick s = .next t
            ∧ t.clock = { s.clock with
                secondCount := s.clock.secondCount % 4000, trim := 0
                time := if (s.clock.time.toNat : Int) + m < 0 then 0 else BitVec.ofInt 48 (s.clock.time.toNat + m)
                frac := if (s.clock.time.toNat : Int) + m < 0 then 0 else s.clock.frac
                peers := peers.map fun p => { p with offset := p.offset - m } }
            ∧ (∀ i, (t.ctx i).marks.stepped = true)
            ∧ t.meter.band = (if s.clock.phase = .running then bandAt s.config .set t.clock.time else s.meter.band)
            ∧ t.meter.nextBoundary = (if t.clock.time.toNat < s.clock.time.toNat then
                s.meter.nextBoundary.map fun _ => (t.clock.time.toNat / step + 1) * step
              else s.meter.nextBoundary)
            ∧ t = { s with clock := t.clock, meter := t.meter })) ∧
    (4000 ≤ s.clock.secondCount → s.clock.beacon = .none → s.clock.state ≠ .unset →
      ∃ u, exec .secondTick { s with clock := { s.clock with beacon := .queued } } = .next u
        ∧ u.link = s.link ∧ u.clock.beacon = .queued ∧ u.clock.state = s.clock.state
        ∧ (s.link.queue.length < 16 →
          exec .secondTick s = .next { u with
            link := { s.link with
              queue := s.link.queue ++ [{ message := .time s.clock.state, attempts := 0, age := s.link.nextAge }]
              nextAge := s.link.nextAge + 1 } })
        ∧ (16 ≤ s.link.queue.length →
          exec .secondTick s = .next { u with clock := { u.clock with beacon := .waiting } })) ∧
    (4000 ≤ s.clock.secondCount → s.clock.state = .coasting → s.clock.beacon = .none → s.link.queue.length < 16 →
      exec .secondTick s = .next { s with
        clock := { s.clock with secondCount := s.clock.secondCount % 4000, beacon := .queued }
        link := { s.link with
          queue := s.link.queue ++ [{ message := .time .coasting, attempts := 0, age := s.link.nextAge }]
          nextAge := s.link.nextAge + 1 } })

/-- A TIME frame of a SET or COASTING sender (R125, R128, R190, R192, R193): its offset, the difference of the frame's count
and the count noted at its start delimiter, replaces the sender's entry of the peer table or creates one. In UNSET district
time steps by it, to 0 with no fraction where it would be negative, and the state is SET; in SET only the table changes; in
COASTING the state is SET again. Each change of the time state and each step evaluates the current band again, and a step
back sets the next interval boundary anew. A frame of an UNSET sender is disregarded.
SET without a TIME frame for 40,000 rounds (R125, R135, R190): COASTING with trim 0, every context not in NONE
marked provisional, and the current band evaluated again. That a step past 2^48 wraps, and then counts as a step back, is log
entries 29 and 58. -/
def Obligations.TimeStateMoves : Prop :=
  (∀ (s : State) (bytes : List Byte) (p : Byte) (sender : TimeState) (time : DTime),
     (∀ age, s.link.phase = .sending age → bytes ≠ s.link.wire) → s.clock.phase ≠ .configFault →
     receivedFrame s.station bytes = some (.time p sender time) →
     let offset : Int := (time.toNat : Int) - s.link.noted.toNat
     let taken : PeerOffset := { station := p, offset := offset, round := s.clock.round }
     let bandOf : State → Band := fun t =>
       if s.clock.phase = .running then bandAt s.config .set t.clock.time else s.meter.band
     (sender = .unset → exec (.frameReceive bytes) s = .next s) ∧
     (∀ peers : List PeerOffset, sender ≠ .unset →
       (∃ q ∈ s.clock.peers, q.station = p) ∧
           peers = (s.clock.peers.map fun q => if q.station = p then taken else q)
         ∨ (∀ q ∈ s.clock.peers, q.station ≠ p) ∧ peers = s.clock.peers ++ [taken] →
       (s.clock.state = .set →
         exec (.frameReceive bytes) s = .next { s with clock := { s.clock with
           peers := peers, lastTime := s.clock.round } }) ∧
       (s.clock.state = .coasting →
         ∃ t, exec (.frameReceive bytes) s = .next t
           ∧ t = { s with
               clock := { s.clock with state := .set, peers := peers, lastTime := s.clock.round }
               meter := { s.meter with band := bandOf s } })) ∧
     (sender ≠ .unset → s.clock.state = .unset → s.clock.peers = [] →
       let sum : Int := (s.clock.time.toNat : Int) + offset
       let step := 60000 * s.config.interval
       ∃ t, exec (.frameReceive bytes) s = .next t
         ∧ t.clock = { s.clock with
             state := .set, trim := 0, time := if sum < 0 then 0 else BitVec.ofInt 48 sum
             frac := if sum < 0 then 0 else s.clock.frac
             peers := [{ station := p, offset := 0, round := s.clock.round }], lastTime := s.clock.round }
         ∧ (∀ i, (t.ctx i).marks.stepped = true) ∧ t.meter.band = bandOf t
         ∧ t.meter.nextBoundary = (if t.clock.time.toNat < s.clock.time.toNat then
             s.meter.nextBoundary.map fun _ => (t.clock.time.toNat / step + 1) * step
           else s.meter.nextBoundary)
         ∧ t = { s with clock := t.clock, meter := t.meter })) ∧
  (∀ s : State,
     (s.clock.state ≠ .set ∨ (s.clock.round - s.clock.lastTime).toNat < 40000 → exec .timeSetExpiry s = .next s) ∧
     (s.clock.state = .set → 40000 ≤ (s.clock.round - s.clock.lastTime).toNat →
       ∃ t, exec .timeSetExpiry s = .next t ∧ t = { s with clock := t.clock, meter := t.meter }
         ∧ t.clock = { s.clock with state := .coasting, trim := 0 }
         ∧ t.meter.queue = s.meter.queue
         ∧ t.meter.band =
           (if s.clock.phase = .running then bandAt s.config .coasting s.clock.time else s.meter.band)
         ∧ (∀ i, (s.ctx i).state ≠ .none → (t.ctx i).marks.provisional = true)
         ∧ ∀ i, (s.ctx i).state = .none → t.ctx i = s.ctx i))

/-- The offers of the roster and the time and clock unit at a round start, in every state of the tree port (R167, R170, R191):
the pending BARs, then the pending RELEASEs, each oldest first, then the CLAIMs of the marked slots in ascending order, then
the beacon that waits, as far as the transmit queue has room. A CLAIM is composed for a slot still in ACTIVE, LOST or BARRED
at the mark's generation, with standing HEARD when the slot is ACTIVE and was heard in one of the last 8 upstream rounds
received, and a mark that fails the check is cleared; a frame taken leaves its list, its mark or its wait, and those after
the first refusal stay. That the roster's frames reach the transmit queue before the waiting beacon, which decides who
takes its last place, is the model's choice, log entry 5; that a CLAIM and a beacon offered again are composed anew is log
entries 43 and 49. -/
def Obligations.RoundStartOffers : Prop :=
  ∀ (s : State) (offersFirst : Bool) (upsets : List TallyUpset) (due : List SlotId), due.Pairwise (· < ·) →
    (∀ i, i ∈ due ↔ ((s.slot i).state = .active ∨ (s.slot i).state = .lost ∨ (s.slot i).state = .barred)
      ∧ s.claimDue i = some (s.slot i).gen) →
    let heard : SlotId → Bool := fun i =>
      (s.slot i).state == .active && s.tree.received.any fun n => (s.slot i).lastHeard == some n
    let bars := s.roster.bars.map fun b => Message.bar b.serial b.reason b.time
    let releases := s.roster.releases.map Message.release
    let claims := due.map fun i => Message.claim ((s.slot i).serial.getD 0) ((s.slot i).claimTime.getD 0) (heard i)
    let roster := bars ++ releases ++ claims
    let waits := s.clock.beacon = .waiting
    let free := 16 - s.link.queue.length
    let taken := (roster ++ if waits then [Message.time s.clock.state] else []).take free
    let left := free - (bars.length + releases.length)
    ∃ t, exec (.roundBoundary offersFirst upsets) s = .next t
      ∧ t.link = { s.link with
          queue := s.link.queue ++ taken.zipIdx.map fun k =>
            { message := k.1, attempts := 0, age := s.link.nextAge + k.2 }
          nextAge := s.link.nextAge + taken.length }
      ∧ t.roster.bars = s.roster.bars.drop free
      ∧ t.roster.releases = s.roster.releases.drop (free - bars.length)
      ∧ (∀ i ∈ due.take left, t.claimDue i = none)
      ∧ (∀ i ∈ due.drop left, t.claimDue i = s.claimDue i)
      ∧ (roster.length ≤ free → ∀ i, t.claimDue i = none)
      ∧ t.clock.beacon = (if waits ∧ roster.length < free then .queued else s.clock.beacon)

/-- The roster's timers (R168, R173, R178): a claim is due for every ACTIVE, LOST or BARRED slot after 60 s; every local
quarantine entry is placed on the pending bar list after 300 s with its reason and bar time, where a serial already there
keeps its place and takes the newer values, and on a full list of 192 the oldest goes first, so that with room for all of
them each is on the list; entries of 180 s are removed. The order of placing is log entry 44, and that a period taken late
keeps its remainder log entry 25. -/
def Obligations.RosterTimersRun : Prop :=
  ∀ s : State,
    (s.roster.refresh < 240000 → exec .claimRefresh s = .next s) ∧
    (240000 ≤ s.roster.refresh →
      ∃ t, exec .claimRefresh s = .next t ∧ t = { s with roster := t.roster }
        ∧ t.roster.claims = s.roster.claims ∧ t.roster.refresh = s.roster.refresh % 240000
        ∧ ∀ i, t.claimDue i =
          if (s.slot i).state = .active ∨ (s.slot i).state = .lost ∨ (s.slot i).state = .barred then some (s.slot i).gen
          else s.claimDue i) ∧
    (s.roster.rebroadcast < 1200000 → exec .barRebroadcast s = .next s) ∧
    (1200000 ≤ s.roster.rebroadcast →
      let own : List PendingBar := (s.roster.quarantine.filter (·.origin == s.station)).map fun q =>
        { serial := q.serial, reason := q.reason, time := q.time }
      let place : List PendingBar → PendingBar → List PendingBar := fun bars b =>
        if bars.any (·.serial == b.serial) then bars.map fun k => if k.serial = b.serial then b else k
        else (if 192 ≤ bars.length then bars.drop 1 else bars) ++ [b]
      ∃ t, exec .barRebroadcast s = .next t
        ∧ t = { s with roster := { s.roster with
            rebroadcast := s.roster.rebroadcast % 1200000, bars := own.foldl place s.roster.bars } }
        ∧ (s.roster.bars.length + own.length ≤ 192 → (own.map (·.serial)).Nodup →
          (∀ b ∈ own, b ∈ t.roster.bars) ∧ ∀ b ∈ s.roster.bars, (∀ k ∈ own, k.serial ≠ b.serial) → b ∈ t.roster.bars)) ∧
    (∃ t, exec .rosterAgeing s = .next t
      ∧ t.roster = { s.roster with
          claims := s.roster.claims.filter fun c => decide ((s.clock.round - c.lastHeard).toNat < 720000) }
      ∧ t = { s with home := t.home, roster := t.roster }
      ∧ (∀ i, (t.slot i).state = (s.slot i).state ∧ (t.slot i).serial = (s.slot i).serial)
      ∧ ∀ i x, s.holder x = some i → (∃ c ∈ s.roster.claims, c.serial = x ∧ 720000 ≤ (s.clock.round - c.lastHeard).toNat) →
        (t.slot i).contested = t.foreignClaim x)

/-! ### What every step keeps -/

/-- The state after reset meets every invariant below. That the configuration is in range before any hand-over rests on the
model's choice, log entry 2. -/
def Obligations.InvariantsAtReset : Prop :=
  State.reset.LanesFit ∧ State.reset.LinkFits ∧ State.reset.MeterCounted ∧ State.reset.JournalOrdered
    ∧ State.reset.PoolConserved ∧ State.reset.SerialHeldOnce ∧ State.reset.ConfigInRange ∧ State.reset.WatchBounded
    ∧ State.reset.SilentBounded ∧ State.reset.FaultTimeUnset

/-- The order lanes, the issued-plan records, the transmit queue, the alert backlog and the meter update queue never hold
more than they have room for, and the meter queue holds the taken count less the consumed count (R7, R14, R119, R154,
R159). -/
def Obligations.CapacitiesKept : Prop :=
  ∀ s t : State, s.LanesFit → s.LinkFits → s.MeterCounted → step s = .next t →
    t.LanesFit ∧ t.LinkFits ∧ t.MeterCounted

/-- The journal stays in order (R137, R138): its pointers O, P and A in that order with at most 512 entries held, each held
record at its sequence number. -/
def Obligations.JournalOrderKept : Prop := ∀ s t : State, s.JournalOrdered → step s = .next t → t.JournalOrdered

/-- The buffer pool is conserved (R85): the blocks in all queues, the blocks of the round in transmission and the free count
are always 8,192. -/
def Obligations.PoolConservedKept : Prop := ∀ s t : State, s.PoolConserved → step s = .next t → t.PoolConserved

/-- No two slots ever hold one serial (R23, R24). -/
def Obligations.SerialHeldOnceKept : Prop := ∀ s t : State, s.SerialHeldOnce → step s = .next t → t.SerialHeldOnce

/-- The configuration in force stays in the ranges of R184. That it is in range after POWER_ON_RESET and PIN_RESET, before the
next hand-over, rests on the model's choice of it, log entry 2. Under CONFIG FAULT time stays UNSET with trim 0 and no beacon
in hand (R163, R183, log entry 46).
The baseline stays within 0 to 65,520, the strike counts at most 15, the history at most 16 rounds, and the silent count
at most 4 (R22, R98 to R100, R103). -/
def Obligations.RangesKept : Prop :=
  (∀ s t : State, s.ConfigInRange → step s = .next t → t.ConfigInRange) ∧
  (∀ s t : State, s.FaultTimeUnset → step s = .next t → t.FaultTimeUnset) ∧
  (∀ s t : State, s.WatchBounded → s.SilentBounded → step s = .next t → t.WatchBounded ∧ t.SilentBounded)

end
end

