-- ==== Sys2Proof/Laws/State.lean ====
section
/-! SUPPORT. Laws/State.lean: what each update of Machine/Ops.lean does to each field of State, one lemma per field and
update, so that no later proof unfolds a record update; and reading a per-slot record after it was written. -/

namespace Sys2Proof.Machine

variable (s : State)

/-! ### One update per block -/

@[simp] theorem State.modTree_tree (f : TreePort → TreePort) : (s.modTree f).tree = f s.tree := rfl
@[simp] theorem State.modTree_home (f : TreePort → TreePort) : (s.modTree f).home = s.home := rfl
@[simp] theorem State.modTree_enrol (f : TreePort → TreePort) : (s.modTree f).enrol = s.enrol := rfl
@[simp] theorem State.modTree_sched (f : TreePort → TreePort) : (s.modTree f).sched = s.sched := rfl
@[simp] theorem State.modTree_down (f : TreePort → TreePort) : (s.modTree f).down = s.down := rfl
@[simp] theorem State.modTree_watch (f : TreePort → TreePort) : (s.modTree f).watch = s.watch := rfl
@[simp] theorem State.modTree_meter (f : TreePort → TreePort) : (s.modTree f).meter = s.meter := rfl
@[simp] theorem State.modTree_journal (f : TreePort → TreePort) : (s.modTree f).journal = s.journal := rfl
@[simp] theorem State.modTree_link (f : TreePort → TreePort) : (s.modTree f).link = s.link := rfl
@[simp] theorem State.modTree_roster (f : TreePort → TreePort) : (s.modTree f).roster = s.roster := rfl
@[simp] theorem State.modTree_clock (f : TreePort → TreePort) : (s.modTree f).clock = s.clock := rfl
@[simp] theorem State.modTree_config (f : TreePort → TreePort) : (s.modTree f).config = s.config := rfl
@[simp] theorem State.modTree_pending (f : TreePort → TreePort) : (s.modTree f).pending = s.pending := rfl

@[simp] theorem State.modHome_tree (f : HomeTable → HomeTable) : (s.modHome f).tree = s.tree := rfl
@[simp] theorem State.modHome_home (f : HomeTable → HomeTable) : (s.modHome f).home = f s.home := rfl
@[simp] theorem State.modHome_enrol (f : HomeTable → HomeTable) : (s.modHome f).enrol = s.enrol := rfl
@[simp] theorem State.modHome_sched (f : HomeTable → HomeTable) : (s.modHome f).sched = s.sched := rfl
@[simp] theorem State.modHome_down (f : HomeTable → HomeTable) : (s.modHome f).down = s.down := rfl
@[simp] theorem State.modHome_watch (f : HomeTable → HomeTable) : (s.modHome f).watch = s.watch := rfl
@[simp] theorem State.modHome_meter (f : HomeTable → HomeTable) : (s.modHome f).meter = s.meter := rfl
@[simp] theorem State.modHome_journal (f : HomeTable → HomeTable) : (s.modHome f).journal = s.journal := rfl
@[simp] theorem State.modHome_link (f : HomeTable → HomeTable) : (s.modHome f).link = s.link := rfl
@[simp] theorem State.modHome_roster (f : HomeTable → HomeTable) : (s.modHome f).roster = s.roster := rfl
@[simp] theorem State.modHome_clock (f : HomeTable → HomeTable) : (s.modHome f).clock = s.clock := rfl
@[simp] theorem State.modHome_config (f : HomeTable → HomeTable) : (s.modHome f).config = s.config := rfl
@[simp] theorem State.modHome_pending (f : HomeTable → HomeTable) : (s.modHome f).pending = s.pending := rfl

@[simp] theorem State.modEnrol_tree (f : Enrolment → Enrolment) : (s.modEnrol f).tree = s.tree := rfl
@[simp] theorem State.modEnrol_home (f : Enrolment → Enrolment) : (s.modEnrol f).home = s.home := rfl
@[simp] theorem State.modEnrol_enrol (f : Enrolment → Enrolment) : (s.modEnrol f).enrol = f s.enrol := rfl
@[simp] theorem State.modEnrol_sched (f : Enrolment → Enrolment) : (s.modEnrol f).sched = s.sched := rfl
@[simp] theorem State.modEnrol_down (f : Enrolment → Enrolment) : (s.modEnrol f).down = s.down := rfl
@[simp] theorem State.modEnrol_watch (f : Enrolment → Enrolment) : (s.modEnrol f).watch = s.watch := rfl
@[simp] theorem State.modEnrol_meter (f : Enrolment → Enrolment) : (s.modEnrol f).meter = s.meter := rfl
@[simp] theorem State.modEnrol_journal (f : Enrolment → Enrolment) : (s.modEnrol f).journal = s.journal := rfl
@[simp] theorem State.modEnrol_link (f : Enrolment → Enrolment) : (s.modEnrol f).link = s.link := rfl
@[simp] theorem State.modEnrol_roster (f : Enrolment → Enrolment) : (s.modEnrol f).roster = s.roster := rfl
@[simp] theorem State.modEnrol_clock (f : Enrolment → Enrolment) : (s.modEnrol f).clock = s.clock := rfl
@[simp] theorem State.modEnrol_config (f : Enrolment → Enrolment) : (s.modEnrol f).config = s.config := rfl
@[simp] theorem State.modEnrol_pending (f : Enrolment → Enrolment) : (s.modEnrol f).pending = s.pending := rfl

@[simp] theorem State.modSched_tree (f : Scheduler → Scheduler) : (s.modSched f).tree = s.tree := rfl
@[simp] theorem State.modSched_home (f : Scheduler → Scheduler) : (s.modSched f).home = s.home := rfl
@[simp] theorem State.modSched_enrol (f : Scheduler → Scheduler) : (s.modSched f).enrol = s.enrol := rfl
@[simp] theorem State.modSched_sched (f : Scheduler → Scheduler) : (s.modSched f).sched = f s.sched := rfl
@[simp] theorem State.modSched_down (f : Scheduler → Scheduler) : (s.modSched f).down = s.down := rfl
@[simp] theorem State.modSched_watch (f : Scheduler → Scheduler) : (s.modSched f).watch = s.watch := rfl
@[simp] theorem State.modSched_meter (f : Scheduler → Scheduler) : (s.modSched f).meter = s.meter := rfl
@[simp] theorem State.modSched_journal (f : Scheduler → Scheduler) : (s.modSched f).journal = s.journal := rfl
@[simp] theorem State.modSched_link (f : Scheduler → Scheduler) : (s.modSched f).link = s.link := rfl
@[simp] theorem State.modSched_roster (f : Scheduler → Scheduler) : (s.modSched f).roster = s.roster := rfl
@[simp] theorem State.modSched_clock (f : Scheduler → Scheduler) : (s.modSched f).clock = s.clock := rfl
@[simp] theorem State.modSched_config (f : Scheduler → Scheduler) : (s.modSched f).config = s.config := rfl
@[simp] theorem State.modSched_pending (f : Scheduler → Scheduler) : (s.modSched f).pending = s.pending := rfl

@[simp] theorem State.modDown_tree (f : Downstream → Downstream) : (s.modDown f).tree = s.tree := rfl
@[simp] theorem State.modDown_home (f : Downstream → Downstream) : (s.modDown f).home = s.home := rfl
@[simp] theorem State.modDown_enrol (f : Downstream → Downstream) : (s.modDown f).enrol = s.enrol := rfl
@[simp] theorem State.modDown_sched (f : Downstream → Downstream) : (s.modDown f).sched = s.sched := rfl
@[simp] theorem State.modDown_down (f : Downstream → Downstream) : (s.modDown f).down = f s.down := rfl
@[simp] theorem State.modDown_watch (f : Downstream → Downstream) : (s.modDown f).watch = s.watch := rfl
@[simp] theorem State.modDown_meter (f : Downstream → Downstream) : (s.modDown f).meter = s.meter := rfl
@[simp] theorem State.modDown_journal (f : Downstream → Downstream) : (s.modDown f).journal = s.journal := rfl
@[simp] theorem State.modDown_link (f : Downstream → Downstream) : (s.modDown f).link = s.link := rfl
@[simp] theorem State.modDown_roster (f : Downstream → Downstream) : (s.modDown f).roster = s.roster := rfl
@[simp] theorem State.modDown_clock (f : Downstream → Downstream) : (s.modDown f).clock = s.clock := rfl
@[simp] theorem State.modDown_config (f : Downstream → Downstream) : (s.modDown f).config = s.config := rfl
@[simp] theorem State.modDown_pending (f : Downstream → Downstream) : (s.modDown f).pending = s.pending := rfl

@[simp] theorem State.modWatch_tree (f : Watch → Watch) : (s.modWatch f).tree = s.tree := rfl
@[simp] theorem State.modWatch_home (f : Watch → Watch) : (s.modWatch f).home = s.home := rfl
@[simp] theorem State.modWatch_enrol (f : Watch → Watch) : (s.modWatch f).enrol = s.enrol := rfl
@[simp] theorem State.modWatch_sched (f : Watch → Watch) : (s.modWatch f).sched = s.sched := rfl
@[simp] theorem State.modWatch_down (f : Watch → Watch) : (s.modWatch f).down = s.down := rfl
@[simp] theorem State.modWatch_watch (f : Watch → Watch) : (s.modWatch f).watch = f s.watch := rfl
@[simp] theorem State.modWatch_meter (f : Watch → Watch) : (s.modWatch f).meter = s.meter := rfl
@[simp] theorem State.modWatch_journal (f : Watch → Watch) : (s.modWatch f).journal = s.journal := rfl
@[simp] theorem State.modWatch_link (f : Watch → Watch) : (s.modWatch f).link = s.link := rfl
@[simp] theorem State.modWatch_roster (f : Watch → Watch) : (s.modWatch f).roster = s.roster := rfl
@[simp] theorem State.modWatch_clock (f : Watch → Watch) : (s.modWatch f).clock = s.clock := rfl
@[simp] theorem State.modWatch_config (f : Watch → Watch) : (s.modWatch f).config = s.config := rfl
@[simp] theorem State.modWatch_pending (f : Watch → Watch) : (s.modWatch f).pending = s.pending := rfl

@[simp] theorem State.modMeter_tree (f : Meter → Meter) : (s.modMeter f).tree = s.tree := rfl
@[simp] theorem State.modMeter_home (f : Meter → Meter) : (s.modMeter f).home = s.home := rfl
@[simp] theorem State.modMeter_enrol (f : Meter → Meter) : (s.modMeter f).enrol = s.enrol := rfl
@[simp] theorem State.modMeter_sched (f : Meter → Meter) : (s.modMeter f).sched = s.sched := rfl
@[simp] theorem State.modMeter_down (f : Meter → Meter) : (s.modMeter f).down = s.down := rfl
@[simp] theorem State.modMeter_watch (f : Meter → Meter) : (s.modMeter f).watch = s.watch := rfl
@[simp] theorem State.modMeter_meter (f : Meter → Meter) : (s.modMeter f).meter = f s.meter := rfl
@[simp] theorem State.modMeter_journal (f : Meter → Meter) : (s.modMeter f).journal = s.journal := rfl
@[simp] theorem State.modMeter_link (f : Meter → Meter) : (s.modMeter f).link = s.link := rfl
@[simp] theorem State.modMeter_roster (f : Meter → Meter) : (s.modMeter f).roster = s.roster := rfl
@[simp] theorem State.modMeter_clock (f : Meter → Meter) : (s.modMeter f).clock = s.clock := rfl
@[simp] theorem State.modMeter_config (f : Meter → Meter) : (s.modMeter f).config = s.config := rfl
@[simp] theorem State.modMeter_pending (f : Meter → Meter) : (s.modMeter f).pending = s.pending := rfl

@[simp] theorem State.modJournal_tree (f : Journal → Journal) : (s.modJournal f).tree = s.tree := rfl
@[simp] theorem State.modJournal_home (f : Journal → Journal) : (s.modJournal f).home = s.home := rfl
@[simp] theorem State.modJournal_enrol (f : Journal → Journal) : (s.modJournal f).enrol = s.enrol := rfl
@[simp] theorem State.modJournal_sched (f : Journal → Journal) : (s.modJournal f).sched = s.sched := rfl
@[simp] theorem State.modJournal_down (f : Journal → Journal) : (s.modJournal f).down = s.down := rfl
@[simp] theorem State.modJournal_watch (f : Journal → Journal) : (s.modJournal f).watch = s.watch := rfl
@[simp] theorem State.modJournal_meter (f : Journal → Journal) : (s.modJournal f).meter = s.meter := rfl
@[simp] theorem State.modJournal_journal (f : Journal → Journal) : (s.modJournal f).journal = f s.journal := rfl
@[simp] theorem State.modJournal_link (f : Journal → Journal) : (s.modJournal f).link = s.link := rfl
@[simp] theorem State.modJournal_roster (f : Journal → Journal) : (s.modJournal f).roster = s.roster := rfl
@[simp] theorem State.modJournal_clock (f : Journal → Journal) : (s.modJournal f).clock = s.clock := rfl
@[simp] theorem State.modJournal_config (f : Journal → Journal) : (s.modJournal f).config = s.config := rfl
@[simp] theorem State.modJournal_pending (f : Journal → Journal) : (s.modJournal f).pending = s.pending := rfl

@[simp] theorem State.modLink_tree (f : Link → Link) : (s.modLink f).tree = s.tree := rfl
@[simp] theorem State.modLink_home (f : Link → Link) : (s.modLink f).home = s.home := rfl
@[simp] theorem State.modLink_enrol (f : Link → Link) : (s.modLink f).enrol = s.enrol := rfl
@[simp] theorem State.modLink_sched (f : Link → Link) : (s.modLink f).sched = s.sched := rfl
@[simp] theorem State.modLink_down (f : Link → Link) : (s.modLink f).down = s.down := rfl
@[simp] theorem State.modLink_watch (f : Link → Link) : (s.modLink f).watch = s.watch := rfl
@[simp] theorem State.modLink_meter (f : Link → Link) : (s.modLink f).meter = s.meter := rfl
@[simp] theorem State.modLink_journal (f : Link → Link) : (s.modLink f).journal = s.journal := rfl
@[simp] theorem State.modLink_link (f : Link → Link) : (s.modLink f).link = f s.link := rfl
@[simp] theorem State.modLink_roster (f : Link → Link) : (s.modLink f).roster = s.roster := rfl
@[simp] theorem State.modLink_clock (f : Link → Link) : (s.modLink f).clock = s.clock := rfl
@[simp] theorem State.modLink_config (f : Link → Link) : (s.modLink f).config = s.config := rfl
@[simp] theorem State.modLink_pending (f : Link → Link) : (s.modLink f).pending = s.pending := rfl

@[simp] theorem State.modRoster_tree (f : Roster → Roster) : (s.modRoster f).tree = s.tree := rfl
@[simp] theorem State.modRoster_home (f : Roster → Roster) : (s.modRoster f).home = s.home := rfl
@[simp] theorem State.modRoster_enrol (f : Roster → Roster) : (s.modRoster f).enrol = s.enrol := rfl
@[simp] theorem State.modRoster_sched (f : Roster → Roster) : (s.modRoster f).sched = s.sched := rfl
@[simp] theorem State.modRoster_down (f : Roster → Roster) : (s.modRoster f).down = s.down := rfl
@[simp] theorem State.modRoster_watch (f : Roster → Roster) : (s.modRoster f).watch = s.watch := rfl
@[simp] theorem State.modRoster_meter (f : Roster → Roster) : (s.modRoster f).meter = s.meter := rfl
@[simp] theorem State.modRoster_journal (f : Roster → Roster) : (s.modRoster f).journal = s.journal := rfl
@[simp] theorem State.modRoster_link (f : Roster → Roster) : (s.modRoster f).link = s.link := rfl
@[simp] theorem State.modRoster_roster (f : Roster → Roster) : (s.modRoster f).roster = f s.roster := rfl
@[simp] theorem State.modRoster_clock (f : Roster → Roster) : (s.modRoster f).clock = s.clock := rfl
@[simp] theorem State.modRoster_config (f : Roster → Roster) : (s.modRoster f).config = s.config := rfl
@[simp] theorem State.modRoster_pending (f : Roster → Roster) : (s.modRoster f).pending = s.pending := rfl

@[simp] theorem State.modClock_tree (f : Clock → Clock) : (s.modClock f).tree = s.tree := rfl
@[simp] theorem State.modClock_home (f : Clock → Clock) : (s.modClock f).home = s.home := rfl
@[simp] theorem State.modClock_enrol (f : Clock → Clock) : (s.modClock f).enrol = s.enrol := rfl
@[simp] theorem State.modClock_sched (f : Clock → Clock) : (s.modClock f).sched = s.sched := rfl
@[simp] theorem State.modClock_down (f : Clock → Clock) : (s.modClock f).down = s.down := rfl
@[simp] theorem State.modClock_watch (f : Clock → Clock) : (s.modClock f).watch = s.watch := rfl
@[simp] theorem State.modClock_meter (f : Clock → Clock) : (s.modClock f).meter = s.meter := rfl
@[simp] theorem State.modClock_journal (f : Clock → Clock) : (s.modClock f).journal = s.journal := rfl
@[simp] theorem State.modClock_link (f : Clock → Clock) : (s.modClock f).link = s.link := rfl
@[simp] theorem State.modClock_roster (f : Clock → Clock) : (s.modClock f).roster = s.roster := rfl
@[simp] theorem State.modClock_clock (f : Clock → Clock) : (s.modClock f).clock = f s.clock := rfl
@[simp] theorem State.modClock_config (f : Clock → Clock) : (s.modClock f).config = s.config := rfl
@[simp] theorem State.modClock_pending (f : Clock → Clock) : (s.modClock f).pending = s.pending := rfl

/-! ### One update per per-slot record -/

@[simp] theorem State.modSlot_tree (i : SlotId) (f : SlotRecord → SlotRecord) : (s.modSlot i f).tree = s.tree := rfl
@[simp] theorem State.modSlot_enrol (i : SlotId) (f : SlotRecord → SlotRecord) : (s.modSlot i f).enrol = s.enrol := rfl
@[simp] theorem State.modSlot_sched (i : SlotId) (f : SlotRecord → SlotRecord) : (s.modSlot i f).sched = s.sched := rfl
@[simp] theorem State.modSlot_down (i : SlotId) (f : SlotRecord → SlotRecord) : (s.modSlot i f).down = s.down := rfl
@[simp] theorem State.modSlot_watch (i : SlotId) (f : SlotRecord → SlotRecord) : (s.modSlot i f).watch = s.watch := rfl
@[simp] theorem State.modSlot_meter (i : SlotId) (f : SlotRecord → SlotRecord) : (s.modSlot i f).meter = s.meter := rfl
@[simp] theorem State.modSlot_journal (i : SlotId) (f : SlotRecord → SlotRecord) : (s.modSlot i f).journal = s.journal := rfl
@[simp] theorem State.modSlot_link (i : SlotId) (f : SlotRecord → SlotRecord) : (s.modSlot i f).link = s.link := rfl
@[simp] theorem State.modSlot_roster (i : SlotId) (f : SlotRecord → SlotRecord) : (s.modSlot i f).roster = s.roster := rfl
@[simp] theorem State.modSlot_clock (i : SlotId) (f : SlotRecord → SlotRecord) : (s.modSlot i f).clock = s.clock := rfl
@[simp] theorem State.modSlot_config (i : SlotId) (f : SlotRecord → SlotRecord) : (s.modSlot i f).config = s.config := rfl
@[simp] theorem State.modSlot_pending (i : SlotId) (f : SlotRecord → SlotRecord) : (s.modSlot i f).pending = s.pending := rfl

@[simp] theorem State.modOwed_tree (i : SlotId) (f : Owed → Owed) : (s.modOwed i f).tree = s.tree := rfl
@[simp] theorem State.modOwed_enrol (i : SlotId) (f : Owed → Owed) : (s.modOwed i f).enrol = s.enrol := rfl
@[simp] theorem State.modOwed_sched (i : SlotId) (f : Owed → Owed) : (s.modOwed i f).sched = s.sched := rfl
@[simp] theorem State.modOwed_down (i : SlotId) (f : Owed → Owed) : (s.modOwed i f).down = s.down := rfl
@[simp] theorem State.modOwed_watch (i : SlotId) (f : Owed → Owed) : (s.modOwed i f).watch = s.watch := rfl
@[simp] theorem State.modOwed_meter (i : SlotId) (f : Owed → Owed) : (s.modOwed i f).meter = s.meter := rfl
@[simp] theorem State.modOwed_journal (i : SlotId) (f : Owed → Owed) : (s.modOwed i f).journal = s.journal := rfl
@[simp] theorem State.modOwed_link (i : SlotId) (f : Owed → Owed) : (s.modOwed i f).link = s.link := rfl
@[simp] theorem State.modOwed_roster (i : SlotId) (f : Owed → Owed) : (s.modOwed i f).roster = s.roster := rfl
@[simp] theorem State.modOwed_clock (i : SlotId) (f : Owed → Owed) : (s.modOwed i f).clock = s.clock := rfl
@[simp] theorem State.modOwed_config (i : SlotId) (f : Owed → Owed) : (s.modOwed i f).config = s.config := rfl
@[simp] theorem State.modOwed_pending (i : SlotId) (f : Owed → Owed) : (s.modOwed i f).pending = s.pending := rfl

@[simp] theorem State.modEcho_tree (i : SlotId) (f : EchoRecord → EchoRecord) : (s.modEcho i f).tree = s.tree := rfl
@[simp] theorem State.modEcho_home (i : SlotId) (f : EchoRecord → EchoRecord) : (s.modEcho i f).home = s.home := rfl
@[simp] theorem State.modEcho_sched (i : SlotId) (f : EchoRecord → EchoRecord) : (s.modEcho i f).sched = s.sched := rfl
@[simp] theorem State.modEcho_down (i : SlotId) (f : EchoRecord → EchoRecord) : (s.modEcho i f).down = s.down := rfl
@[simp] theorem State.modEcho_watch (i : SlotId) (f : EchoRecord → EchoRecord) : (s.modEcho i f).watch = s.watch := rfl
@[simp] theorem State.modEcho_meter (i : SlotId) (f : EchoRecord → EchoRecord) : (s.modEcho i f).meter = s.meter := rfl
@[simp] theorem State.modEcho_journal (i : SlotId) (f : EchoRecord → EchoRecord) : (s.modEcho i f).journal = s.journal := rfl
@[simp] theorem State.modEcho_link (i : SlotId) (f : EchoRecord → EchoRecord) : (s.modEcho i f).link = s.link := rfl
@[simp] theorem State.modEcho_roster (i : SlotId) (f : EchoRecord → EchoRecord) : (s.modEcho i f).roster = s.roster := rfl
@[simp] theorem State.modEcho_clock (i : SlotId) (f : EchoRecord → EchoRecord) : (s.modEcho i f).clock = s.clock := rfl
@[simp] theorem State.modEcho_config (i : SlotId) (f : EchoRecord → EchoRecord) : (s.modEcho i f).config = s.config := rfl
@[simp] theorem State.modEcho_pending (i : SlotId) (f : EchoRecord → EchoRecord) : (s.modEcho i f).pending = s.pending := rfl

@[simp] theorem State.modDemand_tree (i : SlotId) (f : Demand → Demand) : (s.modDemand i f).tree = s.tree := rfl
@[simp] theorem State.modDemand_home (i : SlotId) (f : Demand → Demand) : (s.modDemand i f).home = s.home := rfl
@[simp] theorem State.modDemand_enrol (i : SlotId) (f : Demand → Demand) : (s.modDemand i f).enrol = s.enrol := rfl
@[simp] theorem State.modDemand_down (i : SlotId) (f : Demand → Demand) : (s.modDemand i f).down = s.down := rfl
@[simp] theorem State.modDemand_watch (i : SlotId) (f : Demand → Demand) : (s.modDemand i f).watch = s.watch := rfl
@[simp] theorem State.modDemand_meter (i : SlotId) (f : Demand → Demand) : (s.modDemand i f).meter = s.meter := rfl
@[simp] theorem State.modDemand_journal (i : SlotId) (f : Demand → Demand) : (s.modDemand i f).journal = s.journal := rfl
@[simp] theorem State.modDemand_link (i : SlotId) (f : Demand → Demand) : (s.modDemand i f).link = s.link := rfl
@[simp] theorem State.modDemand_roster (i : SlotId) (f : Demand → Demand) : (s.modDemand i f).roster = s.roster := rfl
@[simp] theorem State.modDemand_clock (i : SlotId) (f : Demand → Demand) : (s.modDemand i f).clock = s.clock := rfl
@[simp] theorem State.modDemand_config (i : SlotId) (f : Demand → Demand) : (s.modDemand i f).config = s.config := rfl
@[simp] theorem State.modDemand_pending (i : SlotId) (f : Demand → Demand) : (s.modDemand i f).pending = s.pending := rfl

@[simp] theorem State.modQueue_tree (i : SlotId) (f : DownQueue → DownQueue) : (s.modQueue i f).tree = s.tree := rfl
@[simp] theorem State.modQueue_home (i : SlotId) (f : DownQueue → DownQueue) : (s.modQueue i f).home = s.home := rfl
@[simp] theorem State.modQueue_enrol (i : SlotId) (f : DownQueue → DownQueue) : (s.modQueue i f).enrol = s.enrol := rfl
@[simp] theorem State.modQueue_sched (i : SlotId) (f : DownQueue → DownQueue) : (s.modQueue i f).sched = s.sched := rfl
@[simp] theorem State.modQueue_watch (i : SlotId) (f : DownQueue → DownQueue) : (s.modQueue i f).watch = s.watch := rfl
@[simp] theorem State.modQueue_meter (i : SlotId) (f : DownQueue → DownQueue) : (s.modQueue i f).meter = s.meter := rfl
@[simp] theorem State.modQueue_journal (i : SlotId) (f : DownQueue → DownQueue) : (s.modQueue i f).journal = s.journal := rfl
@[simp] theorem State.modQueue_link (i : SlotId) (f : DownQueue → DownQueue) : (s.modQueue i f).link = s.link := rfl
@[simp] theorem State.modQueue_roster (i : SlotId) (f : DownQueue → DownQueue) : (s.modQueue i f).roster = s.roster := rfl
@[simp] theorem State.modQueue_clock (i : SlotId) (f : DownQueue → DownQueue) : (s.modQueue i f).clock = s.clock := rfl
@[simp] theorem State.modQueue_config (i : SlotId) (f : DownQueue → DownQueue) : (s.modQueue i f).config = s.config := rfl
@[simp] theorem State.modQueue_pending (i : SlotId) (f : DownQueue → DownQueue) : (s.modQueue i f).pending = s.pending := rfl

@[simp] theorem State.modStrikes_tree (i : SlotId) (f : Strikes → Strikes) : (s.modStrikes i f).tree = s.tree := rfl
@[simp] theorem State.modStrikes_home (i : SlotId) (f : Strikes → Strikes) : (s.modStrikes i f).home = s.home := rfl
@[simp] theorem State.modStrikes_enrol (i : SlotId) (f : Strikes → Strikes) : (s.modStrikes i f).enrol = s.enrol := rfl
@[simp] theorem State.modStrikes_sched (i : SlotId) (f : Strikes → Strikes) : (s.modStrikes i f).sched = s.sched := rfl
@[simp] theorem State.modStrikes_down (i : SlotId) (f : Strikes → Strikes) : (s.modStrikes i f).down = s.down := rfl
@[simp] theorem State.modStrikes_meter (i : SlotId) (f : Strikes → Strikes) : (s.modStrikes i f).meter = s.meter := rfl
@[simp] theorem State.modStrikes_journal (i : SlotId) (f : Strikes → Strikes) : (s.modStrikes i f).journal = s.journal := rfl
@[simp] theorem State.modStrikes_link (i : SlotId) (f : Strikes → Strikes) : (s.modStrikes i f).link = s.link := rfl
@[simp] theorem State.modStrikes_roster (i : SlotId) (f : Strikes → Strikes) : (s.modStrikes i f).roster = s.roster := rfl
@[simp] theorem State.modStrikes_clock (i : SlotId) (f : Strikes → Strikes) : (s.modStrikes i f).clock = s.clock := rfl
@[simp] theorem State.modStrikes_config (i : SlotId) (f : Strikes → Strikes) : (s.modStrikes i f).config = s.config := rfl
@[simp] theorem State.modStrikes_pending (i : SlotId) (f : Strikes → Strikes) : (s.modStrikes i f).pending = s.pending := rfl

@[simp] theorem State.modCtx_tree (i : SlotId) (f : Context → Context) : (s.modCtx i f).tree = s.tree := rfl
@[simp] theorem State.modCtx_home (i : SlotId) (f : Context → Context) : (s.modCtx i f).home = s.home := rfl
@[simp] theorem State.modCtx_enrol (i : SlotId) (f : Context → Context) : (s.modCtx i f).enrol = s.enrol := rfl
@[simp] theorem State.modCtx_sched (i : SlotId) (f : Context → Context) : (s.modCtx i f).sched = s.sched := rfl
@[simp] theorem State.modCtx_down (i : SlotId) (f : Context → Context) : (s.modCtx i f).down = s.down := rfl
@[simp] theorem State.modCtx_watch (i : SlotId) (f : Context → Context) : (s.modCtx i f).watch = s.watch := rfl
@[simp] theorem State.modCtx_journal (i : SlotId) (f : Context → Context) : (s.modCtx i f).journal = s.journal := rfl
@[simp] theorem State.modCtx_link (i : SlotId) (f : Context → Context) : (s.modCtx i f).link = s.link := rfl
@[simp] theorem State.modCtx_roster (i : SlotId) (f : Context → Context) : (s.modCtx i f).roster = s.roster := rfl
@[simp] theorem State.modCtx_clock (i : SlotId) (f : Context → Context) : (s.modCtx i f).clock = s.clock := rfl
@[simp] theorem State.modCtx_config (i : SlotId) (f : Context → Context) : (s.modCtx i f).config = s.config := rfl
@[simp] theorem State.modCtx_pending (i : SlotId) (f : Context → Context) : (s.modCtx i f).pending = s.pending := rfl

@[simp] theorem State.modMarks_tree (i : SlotId) (f : Marks → Marks) : (s.modMarks i f).tree = s.tree := rfl
@[simp] theorem State.modMarks_home (i : SlotId) (f : Marks → Marks) : (s.modMarks i f).home = s.home := rfl
@[simp] theorem State.modMarks_enrol (i : SlotId) (f : Marks → Marks) : (s.modMarks i f).enrol = s.enrol := rfl
@[simp] theorem State.modMarks_sched (i : SlotId) (f : Marks → Marks) : (s.modMarks i f).sched = s.sched := rfl
@[simp] theorem State.modMarks_down (i : SlotId) (f : Marks → Marks) : (s.modMarks i f).down = s.down := rfl
@[simp] theorem State.modMarks_watch (i : SlotId) (f : Marks → Marks) : (s.modMarks i f).watch = s.watch := rfl
@[simp] theorem State.modMarks_journal (i : SlotId) (f : Marks → Marks) : (s.modMarks i f).journal = s.journal := rfl
@[simp] theorem State.modMarks_link (i : SlotId) (f : Marks → Marks) : (s.modMarks i f).link = s.link := rfl
@[simp] theorem State.modMarks_roster (i : SlotId) (f : Marks → Marks) : (s.modMarks i f).roster = s.roster := rfl
@[simp] theorem State.modMarks_clock (i : SlotId) (f : Marks → Marks) : (s.modMarks i f).clock = s.clock := rfl
@[simp] theorem State.modMarks_config (i : SlotId) (f : Marks → Marks) : (s.modMarks i f).config = s.config := rfl
@[simp] theorem State.modMarks_pending (i : SlotId) (f : Marks → Marks) : (s.modMarks i f).pending = s.pending := rfl

@[simp] theorem State.setOver_tree (i : SlotId) (v : ByteCounts) : (s.setOver i v).tree = s.tree := rfl
@[simp] theorem State.setOver_home (i : SlotId) (v : ByteCounts) : (s.setOver i v).home = s.home := rfl
@[simp] theorem State.setOver_enrol (i : SlotId) (v : ByteCounts) : (s.setOver i v).enrol = s.enrol := rfl
@[simp] theorem State.setOver_sched (i : SlotId) (v : ByteCounts) : (s.setOver i v).sched = s.sched := rfl
@[simp] theorem State.setOver_down (i : SlotId) (v : ByteCounts) : (s.setOver i v).down = s.down := rfl
@[simp] theorem State.setOver_watch (i : SlotId) (v : ByteCounts) : (s.setOver i v).watch = s.watch := rfl
@[simp] theorem State.setOver_journal (i : SlotId) (v : ByteCounts) : (s.setOver i v).journal = s.journal := rfl
@[simp] theorem State.setOver_link (i : SlotId) (v : ByteCounts) : (s.setOver i v).link = s.link := rfl
@[simp] theorem State.setOver_roster (i : SlotId) (v : ByteCounts) : (s.setOver i v).roster = s.roster := rfl
@[simp] theorem State.setOver_clock (i : SlotId) (v : ByteCounts) : (s.setOver i v).clock = s.clock := rfl
@[simp] theorem State.setOver_config (i : SlotId) (v : ByteCounts) : (s.setOver i v).config = s.config := rfl
@[simp] theorem State.setOver_pending (i : SlotId) (v : ByteCounts) : (s.setOver i v).pending = s.pending := rfl

@[simp] theorem State.setClaimDue_tree (i : SlotId) (g : Option Gen) : (s.setClaimDue i g).tree = s.tree := rfl
@[simp] theorem State.setClaimDue_home (i : SlotId) (g : Option Gen) : (s.setClaimDue i g).home = s.home := rfl
@[simp] theorem State.setClaimDue_enrol (i : SlotId) (g : Option Gen) : (s.setClaimDue i g).enrol = s.enrol := rfl
@[simp] theorem State.setClaimDue_sched (i : SlotId) (g : Option Gen) : (s.setClaimDue i g).sched = s.sched := rfl
@[simp] theorem State.setClaimDue_down (i : SlotId) (g : Option Gen) : (s.setClaimDue i g).down = s.down := rfl
@[simp] theorem State.setClaimDue_watch (i : SlotId) (g : Option Gen) : (s.setClaimDue i g).watch = s.watch := rfl
@[simp] theorem State.setClaimDue_meter (i : SlotId) (g : Option Gen) : (s.setClaimDue i g).meter = s.meter := rfl
@[simp] theorem State.setClaimDue_journal (i : SlotId) (g : Option Gen) : (s.setClaimDue i g).journal = s.journal := rfl
@[simp] theorem State.setClaimDue_link (i : SlotId) (g : Option Gen) : (s.setClaimDue i g).link = s.link := rfl
@[simp] theorem State.setClaimDue_clock (i : SlotId) (g : Option Gen) : (s.setClaimDue i g).clock = s.clock := rfl
@[simp] theorem State.setClaimDue_config (i : SlotId) (g : Option Gen) : (s.setClaimDue i g).config = s.config := rfl
@[simp] theorem State.setClaimDue_pending (i : SlotId) (g : Option Gen) : (s.setClaimDue i g).pending = s.pending := rfl

@[simp] theorem State.modRoll_tree (f : RollCall → RollCall) : (s.modRoll f).tree = s.tree := rfl
@[simp] theorem State.modRoll_home (f : RollCall → RollCall) : (s.modRoll f).home = s.home := rfl
@[simp] theorem State.modRoll_enrol (f : RollCall → RollCall) : (s.modRoll f).enrol = { s.enrol with roll := f s.enrol.roll } := rfl
@[simp] theorem State.modRoll_sched (f : RollCall → RollCall) : (s.modRoll f).sched = s.sched := rfl
@[simp] theorem State.modRoll_down (f : RollCall → RollCall) : (s.modRoll f).down = s.down := rfl
@[simp] theorem State.modRoll_watch (f : RollCall → RollCall) : (s.modRoll f).watch = s.watch := rfl
@[simp] theorem State.modRoll_meter (f : RollCall → RollCall) : (s.modRoll f).meter = s.meter := rfl
@[simp] theorem State.modRoll_journal (f : RollCall → RollCall) : (s.modRoll f).journal = s.journal := rfl
@[simp] theorem State.modRoll_link (f : RollCall → RollCall) : (s.modRoll f).link = s.link := rfl
@[simp] theorem State.modRoll_roster (f : RollCall → RollCall) : (s.modRoll f).roster = s.roster := rfl
@[simp] theorem State.modRoll_clock (f : RollCall → RollCall) : (s.modRoll f).clock = s.clock := rfl
@[simp] theorem State.modRoll_config (f : RollCall → RollCall) : (s.modRoll f).config = s.config := rfl
@[simp] theorem State.modRoll_pending (f : RollCall → RollCall) : (s.modRoll f).pending = s.pending := rfl

/-! ### Fields of a block that a per-slot update keeps -/

@[simp] theorem State.modSlot_home_owed (i : SlotId) (f : SlotRecord → SlotRecord) : (s.modSlot i f).home.owed = s.home.owed := rfl
@[simp] theorem State.modOwed_home_slots (i : SlotId) (f : Owed → Owed) : (s.modOwed i f).home.slots = s.home.slots := rfl
@[simp] theorem State.modEcho_enrol_provision (i : SlotId) (f : EchoRecord → EchoRecord) : (s.modEcho i f).enrol.provision = s.enrol.provision := rfl
@[simp] theorem State.modEcho_enrol_strangers (i : SlotId) (f : EchoRecord → EchoRecord) : (s.modEcho i f).enrol.strangers = s.enrol.strangers := rfl
@[simp] theorem State.modEcho_enrol_roll (i : SlotId) (f : EchoRecord → EchoRecord) : (s.modEcho i f).enrol.roll = s.enrol.roll := rfl
@[simp] theorem State.modEcho_enrol_answers (i : SlotId) (f : EchoRecord → EchoRecord) : (s.modEcho i f).enrol.answers = s.enrol.answers := rfl
@[simp] theorem State.modEcho_enrol_reechoes (i : SlotId) (f : EchoRecord → EchoRecord) : (s.modEcho i f).enrol.reechoes = s.enrol.reechoes := rfl
@[simp] theorem State.modEcho_enrol_closes (i : SlotId) (f : EchoRecord → EchoRecord) : (s.modEcho i f).enrol.closes = s.enrol.closes := rfl
@[simp] theorem State.modDemand_sched_rollReq (i : SlotId) (f : Demand → Demand) : (s.modDemand i f).sched.rollReq = s.sched.rollReq := rfl
@[simp] theorem State.modDemand_sched_echoReqs (i : SlotId) (f : Demand → Demand) : (s.modDemand i f).sched.echoReqs = s.sched.echoReqs := rfl
@[simp] theorem State.modDemand_sched_watchReq (i : SlotId) (f : Demand → Demand) : (s.modDemand i f).sched.watchReq = s.sched.watchReq := rfl
@[simp] theorem State.modDemand_sched_rollProgress (i : SlotId) (f : Demand → Demand) : (s.modDemand i f).sched.rollProgress = s.sched.rollProgress := rfl
@[simp] theorem State.modDemand_sched_rotation (i : SlotId) (f : Demand → Demand) : (s.modDemand i f).sched.rotation = s.sched.rotation := rfl
@[simp] theorem State.modDemand_sched_nextPlan (i : SlotId) (f : Demand → Demand) : (s.modDemand i f).sched.nextPlan = s.sched.nextPlan := rfl
@[simp] theorem State.modQueue_down_pointer (i : SlotId) (f : DownQueue → DownQueue) : (s.modQueue i f).down.pointer = s.down.pointer := rfl
@[simp] theorem State.modQueue_down_free (i : SlotId) (f : DownQueue → DownQueue) : (s.modQueue i f).down.free = s.down.free := rfl
@[simp] theorem State.modQueue_down_pressure (i : SlotId) (f : DownQueue → DownQueue) : (s.modQueue i f).down.pressure = s.down.pressure := rfl
@[simp] theorem State.modQueue_down_txBlocks (i : SlotId) (f : DownQueue → DownQueue) : (s.modQueue i f).down.txBlocks = s.down.txBlocks := rfl
@[simp] theorem State.modQueue_down_flushes (i : SlotId) (f : DownQueue → DownQueue) : (s.modQueue i f).down.flushes = s.down.flushes := rfl
@[simp] theorem State.modQueue_down_egress (i : SlotId) (f : DownQueue → DownQueue) : (s.modQueue i f).down.egress = s.down.egress := rfl
@[simp] theorem State.modStrikes_watch_state (i : SlotId) (f : Strikes → Strikes) : (s.modStrikes i f).watch.state = s.watch.state := rfl
@[simp] theorem State.modStrikes_watch_b16 (i : SlotId) (f : Strikes → Strikes) : (s.modStrikes i f).watch.b16 = s.watch.b16 := rfl
@[simp] theorem State.modStrikes_watch_calib (i : SlotId) (f : Strikes → Strikes) : (s.modStrikes i f).watch.calib = s.watch.calib := rfl
@[simp] theorem State.modStrikes_watch_history (i : SlotId) (f : Strikes → Strikes) : (s.modStrikes i f).watch.history = s.watch.history := rfl
@[simp] theorem State.modStrikes_watch_since (i : SlotId) (f : Strikes → Strikes) : (s.modStrikes i f).watch.since = s.watch.since := rfl
@[simp] theorem State.modStrikes_watch_test (i : SlotId) (f : Strikes → Strikes) : (s.modStrikes i f).watch.test = s.watch.test := rfl
@[simp] theorem State.modStrikes_watch_locate (i : SlotId) (f : Strikes → Strikes) : (s.modStrikes i f).watch.locate = s.watch.locate := rfl
@[simp] theorem State.modStrikes_watch_orders (i : SlotId) (f : Strikes → Strikes) : (s.modStrikes i f).watch.orders = s.watch.orders := rfl
@[simp] theorem State.modStrikes_watch_score (i : SlotId) (f : Strikes → Strikes) : (s.modStrikes i f).watch.score = s.watch.score := rfl
@[simp] theorem State.modCtx_meter_queue (i : SlotId) (f : Context → Context) : (s.modCtx i f).meter.queue = s.meter.queue := rfl
@[simp] theorem State.modCtx_meter_taken (i : SlotId) (f : Context → Context) : (s.modCtx i f).meter.taken = s.meter.taken := rfl
@[simp] theorem State.modCtx_meter_consumed (i : SlotId) (f : Context → Context) : (s.modCtx i f).meter.consumed = s.meter.consumed := rfl
@[simp] theorem State.modCtx_meter_spill (i : SlotId) (f : Context → Context) : (s.modCtx i f).meter.spill = s.meter.spill := rfl
@[simp] theorem State.modCtx_meter_band (i : SlotId) (f : Context → Context) : (s.modCtx i f).meter.band = s.meter.band := rfl
@[simp] theorem State.modCtx_meter_nextBoundary (i : SlotId) (f : Context → Context) : (s.modCtx i f).meter.nextBoundary = s.meter.nextBoundary := rfl
@[simp] theorem State.modCtx_meter_scrubCount (i : SlotId) (f : Context → Context) : (s.modCtx i f).meter.scrubCount = s.meter.scrubCount := rfl
@[simp] theorem State.modMarks_meter_queue (i : SlotId) (f : Marks → Marks) : (s.modMarks i f).meter.queue = s.meter.queue := rfl
@[simp] theorem State.modMarks_meter_taken (i : SlotId) (f : Marks → Marks) : (s.modMarks i f).meter.taken = s.meter.taken := rfl
@[simp] theorem State.modMarks_meter_consumed (i : SlotId) (f : Marks → Marks) : (s.modMarks i f).meter.consumed = s.meter.consumed := rfl
@[simp] theorem State.modMarks_meter_spill (i : SlotId) (f : Marks → Marks) : (s.modMarks i f).meter.spill = s.meter.spill := rfl
@[simp] theorem State.modMarks_meter_band (i : SlotId) (f : Marks → Marks) : (s.modMarks i f).meter.band = s.meter.band := rfl
@[simp] theorem State.modMarks_meter_nextBoundary (i : SlotId) (f : Marks → Marks) : (s.modMarks i f).meter.nextBoundary = s.meter.nextBoundary := rfl
@[simp] theorem State.modMarks_meter_scrubCount (i : SlotId) (f : Marks → Marks) : (s.modMarks i f).meter.scrubCount = s.meter.scrubCount := rfl
@[simp] theorem State.setOver_meter_queue (i : SlotId) (v : ByteCounts) : (s.setOver i v).meter.queue = s.meter.queue := rfl
@[simp] theorem State.setOver_meter_taken (i : SlotId) (v : ByteCounts) : (s.setOver i v).meter.taken = s.meter.taken := rfl
@[simp] theorem State.setOver_meter_consumed (i : SlotId) (v : ByteCounts) : (s.setOver i v).meter.consumed = s.meter.consumed := rfl
@[simp] theorem State.setOver_meter_ctx (i : SlotId) (v : ByteCounts) : (s.setOver i v).meter.ctx = s.meter.ctx := rfl
@[simp] theorem State.setOver_meter_band (i : SlotId) (v : ByteCounts) : (s.setOver i v).meter.band = s.meter.band := rfl
@[simp] theorem State.setOver_meter_nextBoundary (i : SlotId) (v : ByteCounts) : (s.setOver i v).meter.nextBoundary = s.meter.nextBoundary := rfl
@[simp] theorem State.setOver_meter_scrubCount (i : SlotId) (v : ByteCounts) : (s.setOver i v).meter.scrubCount = s.meter.scrubCount := rfl
@[simp] theorem State.setClaimDue_roster_claims (i : SlotId) (g : Option Gen) : (s.setClaimDue i g).roster.claims = s.roster.claims := rfl
@[simp] theorem State.setClaimDue_roster_quarantine (i : SlotId) (g : Option Gen) : (s.setClaimDue i g).roster.quarantine = s.roster.quarantine := rfl
@[simp] theorem State.setClaimDue_roster_releases (i : SlotId) (g : Option Gen) : (s.setClaimDue i g).roster.releases = s.roster.releases := rfl
@[simp] theorem State.setClaimDue_roster_bars (i : SlotId) (g : Option Gen) : (s.setClaimDue i g).roster.bars = s.roster.bars := rfl
@[simp] theorem State.setClaimDue_roster_refresh (i : SlotId) (g : Option Gen) : (s.setClaimDue i g).roster.refresh = s.roster.refresh := rfl
@[simp] theorem State.setClaimDue_roster_rebroadcast (i : SlotId) (g : Option Gen) : (s.setClaimDue i g).roster.rebroadcast = s.roster.rebroadcast := rfl
@[simp] theorem State.setClaimDue_roster_decisions (i : SlotId) (g : Option Gen) : (s.setClaimDue i g).roster.decisions = s.roster.decisions := rfl

/-! ### Reading a per-slot record -/

/-- A table entry read after a write. -/
theorem putAt_get {α : Type} {n : Nat} (v : Vector α n) (i j : Fin n) (x : α) :
    (putAt v i x).get j = if j = i then x else v.get j := by
  unfold putAt
  simp only [Vector.get_eq_getElem, Vector.getElem_set]
  by_cases h : j = i
  · subst h; simp
  · have : i.val ≠ j.val := fun e => h (Fin.ext e.symm)
    simp [h, this]

theorem State.modSlot_slot (i j : SlotId) (f : SlotRecord → SlotRecord) :
    (s.modSlot i f).slot j = if j = i then f (s.slot j) else s.slot j := by
  by_cases h : j = i
  · subst h; exact (putAt_get _ _ _ _).trans (by simp [State.slot])
  · exact (putAt_get _ _ _ _).trans (by simp [State.slot, h])

theorem State.modOwed_owed (i j : SlotId) (f : Owed → Owed) :
    (s.modOwed i f).owed j = if j = i then f (s.owed j) else s.owed j := by
  by_cases h : j = i
  · subst h; exact (putAt_get _ _ _ _).trans (by simp [State.owed])
  · exact (putAt_get _ _ _ _).trans (by simp [State.owed, h])

theorem State.modEcho_echo (i j : SlotId) (f : EchoRecord → EchoRecord) :
    (s.modEcho i f).echo j = if j = i then f (s.echo j) else s.echo j := by
  by_cases h : j = i
  · subst h; exact (putAt_get _ _ _ _).trans (by simp [State.echo])
  · exact (putAt_get _ _ _ _).trans (by simp [State.echo, h])

theorem State.modDemand_demand (i j : SlotId) (f : Demand → Demand) :
    (s.modDemand i f).demand j = if j = i then f (s.demand j) else s.demand j := by
  by_cases h : j = i
  · subst h; exact (putAt_get _ _ _ _).trans (by simp [State.demand])
  · exact (putAt_get _ _ _ _).trans (by simp [State.demand, h])

theorem State.modQueue_queue (i j : SlotId) (f : DownQueue → DownQueue) :
    (s.modQueue i f).queue j = if j = i then f (s.queue j) else s.queue j := by
  by_cases h : j = i
  · subst h; exact (putAt_get _ _ _ _).trans (by simp [State.queue])
  · exact (putAt_get _ _ _ _).trans (by simp [State.queue, h])

theorem State.modStrikes_strikes (i j : SlotId) (f : Strikes → Strikes) :
    (s.modStrikes i f).strikes j = if j = i then f (s.strikes j) else s.strikes j := by
  by_cases h : j = i
  · subst h; exact (putAt_get _ _ _ _).trans (by simp [State.strikes])
  · exact (putAt_get _ _ _ _).trans (by simp [State.strikes, h])

theorem State.modCtx_ctx (i j : SlotId) (f : Context → Context) :
    (s.modCtx i f).ctx j = if j = i then f (s.ctx j) else s.ctx j := by
  by_cases h : j = i
  · subst h; exact (putAt_get _ _ _ _).trans (by simp [State.ctx])
  · exact (putAt_get _ _ _ _).trans (by simp [State.ctx, h])

@[simp] theorem State.modTree_slot_at (f : TreePort → TreePort) (j : SlotId) : (s.modTree f).slot j = s.slot j := rfl
@[simp] theorem State.modEnrol_slot_at (f : Enrolment → Enrolment) (j : SlotId) : (s.modEnrol f).slot j = s.slot j := rfl
@[simp] theorem State.modSched_slot_at (f : Scheduler → Scheduler) (j : SlotId) : (s.modSched f).slot j = s.slot j := rfl
@[simp] theorem State.modDown_slot_at (f : Downstream → Downstream) (j : SlotId) : (s.modDown f).slot j = s.slot j := rfl
@[simp] theorem State.modWatch_slot_at (f : Watch → Watch) (j : SlotId) : (s.modWatch f).slot j = s.slot j := rfl
@[simp] theorem State.modMeter_slot_at (f : Meter → Meter) (j : SlotId) : (s.modMeter f).slot j = s.slot j := rfl
@[simp] theorem State.modJournal_slot_at (f : Journal → Journal) (j : SlotId) : (s.modJournal f).slot j = s.slot j := rfl
@[simp] theorem State.modLink_slot_at (f : Link → Link) (j : SlotId) : (s.modLink f).slot j = s.slot j := rfl
@[simp] theorem State.modRoster_slot_at (f : Roster → Roster) (j : SlotId) : (s.modRoster f).slot j = s.slot j := rfl
@[simp] theorem State.modClock_slot_at (f : Clock → Clock) (j : SlotId) : (s.modClock f).slot j = s.slot j := rfl
@[simp] theorem State.modOwed_slot_at (i : SlotId) (f : Owed → Owed) (j : SlotId) : (s.modOwed i f).slot j = s.slot j := rfl
@[simp] theorem State.modEcho_slot_at (i : SlotId) (f : EchoRecord → EchoRecord) (j : SlotId) : (s.modEcho i f).slot j = s.slot j := rfl
@[simp] theorem State.modDemand_slot_at (i : SlotId) (f : Demand → Demand) (j : SlotId) : (s.modDemand i f).slot j = s.slot j := rfl
@[simp] theorem State.modQueue_slot_at (i : SlotId) (f : DownQueue → DownQueue) (j : SlotId) : (s.modQueue i f).slot j = s.slot j := rfl
@[simp] theorem State.modStrikes_slot_at (i : SlotId) (f : Strikes → Strikes) (j : SlotId) : (s.modStrikes i f).slot j = s.slot j := rfl
@[simp] theorem State.modCtx_slot_at (i : SlotId) (f : Context → Context) (j : SlotId) : (s.modCtx i f).slot j = s.slot j := rfl
@[simp] theorem State.modTree_owed_at (f : TreePort → TreePort) (j : SlotId) : (s.modTree f).owed j = s.owed j := rfl
@[simp] theorem State.modEnrol_owed_at (f : Enrolment → Enrolment) (j : SlotId) : (s.modEnrol f).owed j = s.owed j := rfl
@[simp] theorem State.modSched_owed_at (f : Scheduler → Scheduler) (j : SlotId) : (s.modSched f).owed j = s.owed j := rfl
@[simp] theorem State.modDown_owed_at (f : Downstream → Downstream) (j : SlotId) : (s.modDown f).owed j = s.owed j := rfl
@[simp] theorem State.modWatch_owed_at (f : Watch → Watch) (j : SlotId) : (s.modWatch f).owed j = s.owed j := rfl
@[simp] theorem State.modMeter_owed_at (f : Meter → Meter) (j : SlotId) : (s.modMeter f).owed j = s.owed j := rfl
@[simp] theorem State.modJournal_owed_at (f : Journal → Journal) (j : SlotId) : (s.modJournal f).owed j = s.owed j := rfl
@[simp] theorem State.modLink_owed_at (f : Link → Link) (j : SlotId) : (s.modLink f).owed j = s.owed j := rfl
@[simp] theorem State.modRoster_owed_at (f : Roster → Roster) (j : SlotId) : (s.modRoster f).owed j = s.owed j := rfl
@[simp] theorem State.modClock_owed_at (f : Clock → Clock) (j : SlotId) : (s.modClock f).owed j = s.owed j := rfl
@[simp] theorem State.modSlot_owed_at (i : SlotId) (f : SlotRecord → SlotRecord) (j : SlotId) : (s.modSlot i f).owed j = s.owed j := rfl
@[simp] theorem State.modEcho_owed_at (i : SlotId) (f : EchoRecord → EchoRecord) (j : SlotId) : (s.modEcho i f).owed j = s.owed j := rfl
@[simp] theorem State.modDemand_owed_at (i : SlotId) (f : Demand → Demand) (j : SlotId) : (s.modDemand i f).owed j = s.owed j := rfl
@[simp] theorem State.modQueue_owed_at (i : SlotId) (f : DownQueue → DownQueue) (j : SlotId) : (s.modQueue i f).owed j = s.owed j := rfl
@[simp] theorem State.modStrikes_owed_at (i : SlotId) (f : Strikes → Strikes) (j : SlotId) : (s.modStrikes i f).owed j = s.owed j := rfl
@[simp] theorem State.modCtx_owed_at (i : SlotId) (f : Context → Context) (j : SlotId) : (s.modCtx i f).owed j = s.owed j := rfl
@[simp] theorem State.modTree_echo_at (f : TreePort → TreePort) (j : SlotId) : (s.modTree f).echo j = s.echo j := rfl
@[simp] theorem State.modHome_echo_at (f : HomeTable → HomeTable) (j : SlotId) : (s.modHome f).echo j = s.echo j := rfl
@[simp] theorem State.modSched_echo_at (f : Scheduler → Scheduler) (j : SlotId) : (s.modSched f).echo j = s.echo j := rfl
@[simp] theorem State.modDown_echo_at (f : Downstream → Downstream) (j : SlotId) : (s.modDown f).echo j = s.echo j := rfl
@[simp] theorem State.modWatch_echo_at (f : Watch → Watch) (j : SlotId) : (s.modWatch f).echo j = s.echo j := rfl
@[simp] theorem State.modMeter_echo_at (f : Meter → Meter) (j : SlotId) : (s.modMeter f).echo j = s.echo j := rfl
@[simp] theorem State.modJournal_echo_at (f : Journal → Journal) (j : SlotId) : (s.modJournal f).echo j = s.echo j := rfl
@[simp] theorem State.modLink_echo_at (f : Link → Link) (j : SlotId) : (s.modLink f).echo j = s.echo j := rfl
@[simp] theorem State.modRoster_echo_at (f : Roster → Roster) (j : SlotId) : (s.modRoster f).echo j = s.echo j := rfl
@[simp] theorem State.modClock_echo_at (f : Clock → Clock) (j : SlotId) : (s.modClock f).echo j = s.echo j := rfl
@[simp] theorem State.modSlot_echo_at (i : SlotId) (f : SlotRecord → SlotRecord) (j : SlotId) : (s.modSlot i f).echo j = s.echo j := rfl
@[simp] theorem State.modOwed_echo_at (i : SlotId) (f : Owed → Owed) (j : SlotId) : (s.modOwed i f).echo j = s.echo j := rfl
@[simp] theorem State.modDemand_echo_at (i : SlotId) (f : Demand → Demand) (j : SlotId) : (s.modDemand i f).echo j = s.echo j := rfl
@[simp] theorem State.modQueue_echo_at (i : SlotId) (f : DownQueue → DownQueue) (j : SlotId) : (s.modQueue i f).echo j = s.echo j := rfl
@[simp] theorem State.modStrikes_echo_at (i : SlotId) (f : Strikes → Strikes) (j : SlotId) : (s.modStrikes i f).echo j = s.echo j := rfl
@[simp] theorem State.modCtx_echo_at (i : SlotId) (f : Context → Context) (j : SlotId) : (s.modCtx i f).echo j = s.echo j := rfl
@[simp] theorem State.modTree_demand_at (f : TreePort → TreePort) (j : SlotId) : (s.modTree f).demand j = s.demand j := rfl
@[simp] theorem State.modHome_demand_at (f : HomeTable → HomeTable) (j : SlotId) : (s.modHome f).demand j = s.demand j := rfl
@[simp] theorem State.modEnrol_demand_at (f : Enrolment → Enrolment) (j : SlotId) : (s.modEnrol f).demand j = s.demand j := rfl
@[simp] theorem State.modDown_demand_at (f : Downstream → Downstream) (j : SlotId) : (s.modDown f).demand j = s.demand j := rfl
@[simp] theorem State.modWatch_demand_at (f : Watch → Watch) (j : SlotId) : (s.modWatch f).demand j = s.demand j := rfl
@[simp] theorem State.modMeter_demand_at (f : Meter → Meter) (j : SlotId) : (s.modMeter f).demand j = s.demand j := rfl
@[simp] theorem State.modJournal_demand_at (f : Journal → Journal) (j : SlotId) : (s.modJournal f).demand j = s.demand j := rfl
@[simp] theorem State.modLink_demand_at (f : Link → Link) (j : SlotId) : (s.modLink f).demand j = s.demand j := rfl
@[simp] theorem State.modRoster_demand_at (f : Roster → Roster) (j : SlotId) : (s.modRoster f).demand j = s.demand j := rfl
@[simp] theorem State.modClock_demand_at (f : Clock → Clock) (j : SlotId) : (s.modClock f).demand j = s.demand j := rfl
@[simp] theorem State.modSlot_demand_at (i : SlotId) (f : SlotRecord → SlotRecord) (j : SlotId) : (s.modSlot i f).demand j = s.demand j := rfl
@[simp] theorem State.modOwed_demand_at (i : SlotId) (f : Owed → Owed) (j : SlotId) : (s.modOwed i f).demand j = s.demand j := rfl
@[simp] theorem State.modEcho_demand_at (i : SlotId) (f : EchoRecord → EchoRecord) (j : SlotId) : (s.modEcho i f).demand j = s.demand j := rfl
@[simp] theorem State.modQueue_demand_at (i : SlotId) (f : DownQueue → DownQueue) (j : SlotId) : (s.modQueue i f).demand j = s.demand j := rfl
@[simp] theorem State.modStrikes_demand_at (i : SlotId) (f : Strikes → Strikes) (j : SlotId) : (s.modStrikes i f).demand j = s.demand j := rfl
@[simp] theorem State.modCtx_demand_at (i : SlotId) (f : Context → Context) (j : SlotId) : (s.modCtx i f).demand j = s.demand j := rfl
@[simp] theorem State.modTree_queue_at (f : TreePort → TreePort) (j : SlotId) : (s.modTree f).queue j = s.queue j := rfl
@[simp] theorem State.modHome_queue_at (f : HomeTable → HomeTable) (j : SlotId) : (s.modHome f).queue j = s.queue j := rfl
@[simp] theorem State.modEnrol_queue_at (f : Enrolment → Enrolment) (j : SlotId) : (s.modEnrol f).queue j = s.queue j := rfl
@[simp] theorem State.modSched_queue_at (f : Scheduler → Scheduler) (j : SlotId) : (s.modSched f).queue j = s.queue j := rfl
@[simp] theorem State.modWatch_queue_at (f : Watch → Watch) (j : SlotId) : (s.modWatch f).queue j = s.queue j := rfl
@[simp] theorem State.modMeter_queue_at (f : Meter → Meter) (j : SlotId) : (s.modMeter f).queue j = s.queue j := rfl
@[simp] theorem State.modJournal_queue_at (f : Journal → Journal) (j : SlotId) : (s.modJournal f).queue j = s.queue j := rfl
@[simp] theorem State.modLink_queue_at (f : Link → Link) (j : SlotId) : (s.modLink f).queue j = s.queue j := rfl
@[simp] theorem State.modRoster_queue_at (f : Roster → Roster) (j : SlotId) : (s.modRoster f).queue j = s.queue j := rfl
@[simp] theorem State.modClock_queue_at (f : Clock → Clock) (j : SlotId) : (s.modClock f).queue j = s.queue j := rfl
@[simp] theorem State.modSlot_queue_at (i : SlotId) (f : SlotRecord → SlotRecord) (j : SlotId) : (s.modSlot i f).queue j = s.queue j := rfl
@[simp] theorem State.modOwed_queue_at (i : SlotId) (f : Owed → Owed) (j : SlotId) : (s.modOwed i f).queue j = s.queue j := rfl
@[simp] theorem State.modEcho_queue_at (i : SlotId) (f : EchoRecord → EchoRecord) (j : SlotId) : (s.modEcho i f).queue j = s.queue j := rfl
@[simp] theorem State.modDemand_queue_at (i : SlotId) (f : Demand → Demand) (j : SlotId) : (s.modDemand i f).queue j = s.queue j := rfl
@[simp] theorem State.modStrikes_queue_at (i : SlotId) (f : Strikes → Strikes) (j : SlotId) : (s.modStrikes i f).queue j = s.queue j := rfl
@[simp] theorem State.modCtx_queue_at (i : SlotId) (f : Context → Context) (j : SlotId) : (s.modCtx i f).queue j = s.queue j := rfl
@[simp] theorem State.modTree_strikes_at (f : TreePort → TreePort) (j : SlotId) : (s.modTree f).strikes j = s.strikes j := rfl
@[simp] theorem State.modHome_strikes_at (f : HomeTable → HomeTable) (j : SlotId) : (s.modHome f).strikes j = s.strikes j := rfl
@[simp] theorem State.modEnrol_strikes_at (f : Enrolment → Enrolment) (j : SlotId) : (s.modEnrol f).strikes j = s.strikes j := rfl
@[simp] theorem State.modSched_strikes_at (f : Scheduler → Scheduler) (j : SlotId) : (s.modSched f).strikes j = s.strikes j := rfl
@[simp] theorem State.modDown_strikes_at (f : Downstream → Downstream) (j : SlotId) : (s.modDown f).strikes j = s.strikes j := rfl
@[simp] theorem State.modMeter_strikes_at (f : Meter → Meter) (j : SlotId) : (s.modMeter f).strikes j = s.strikes j := rfl
@[simp] theorem State.modJournal_strikes_at (f : Journal → Journal) (j : SlotId) : (s.modJournal f).strikes j = s.strikes j := rfl
@[simp] theorem State.modLink_strikes_at (f : Link → Link) (j : SlotId) : (s.modLink f).strikes j = s.strikes j := rfl
@[simp] theorem State.modRoster_strikes_at (f : Roster → Roster) (j : SlotId) : (s.modRoster f).strikes j = s.strikes j := rfl
@[simp] theorem State.modClock_strikes_at (f : Clock → Clock) (j : SlotId) : (s.modClock f).strikes j = s.strikes j := rfl
@[simp] theorem State.modSlot_strikes_at (i : SlotId) (f : SlotRecord → SlotRecord) (j : SlotId) : (s.modSlot i f).strikes j = s.strikes j := rfl
@[simp] theorem State.modOwed_strikes_at (i : SlotId) (f : Owed → Owed) (j : SlotId) : (s.modOwed i f).strikes j = s.strikes j := rfl
@[simp] theorem State.modEcho_strikes_at (i : SlotId) (f : EchoRecord → EchoRecord) (j : SlotId) : (s.modEcho i f).strikes j = s.strikes j := rfl
@[simp] theorem State.modDemand_strikes_at (i : SlotId) (f : Demand → Demand) (j : SlotId) : (s.modDemand i f).strikes j = s.strikes j := rfl
@[simp] theorem State.modQueue_strikes_at (i : SlotId) (f : DownQueue → DownQueue) (j : SlotId) : (s.modQueue i f).strikes j = s.strikes j := rfl
@[simp] theorem State.modCtx_strikes_at (i : SlotId) (f : Context → Context) (j : SlotId) : (s.modCtx i f).strikes j = s.strikes j := rfl
@[simp] theorem State.modTree_ctx_at (f : TreePort → TreePort) (j : SlotId) : (s.modTree f).ctx j = s.ctx j := rfl
@[simp] theorem State.modHome_ctx_at (f : HomeTable → HomeTable) (j : SlotId) : (s.modHome f).ctx j = s.ctx j := rfl
@[simp] theorem State.modEnrol_ctx_at (f : Enrolment → Enrolment) (j : SlotId) : (s.modEnrol f).ctx j = s.ctx j := rfl
@[simp] theorem State.modSched_ctx_at (f : Scheduler → Scheduler) (j : SlotId) : (s.modSched f).ctx j = s.ctx j := rfl
@[simp] theorem State.modDown_ctx_at (f : Downstream → Downstream) (j : SlotId) : (s.modDown f).ctx j = s.ctx j := rfl
@[simp] theorem State.modWatch_ctx_at (f : Watch → Watch) (j : SlotId) : (s.modWatch f).ctx j = s.ctx j := rfl
@[simp] theorem State.modJournal_ctx_at (f : Journal → Journal) (j : SlotId) : (s.modJournal f).ctx j = s.ctx j := rfl
@[simp] theorem State.modLink_ctx_at (f : Link → Link) (j : SlotId) : (s.modLink f).ctx j = s.ctx j := rfl
@[simp] theorem State.modRoster_ctx_at (f : Roster → Roster) (j : SlotId) : (s.modRoster f).ctx j = s.ctx j := rfl
@[simp] theorem State.modClock_ctx_at (f : Clock → Clock) (j : SlotId) : (s.modClock f).ctx j = s.ctx j := rfl
@[simp] theorem State.modSlot_ctx_at (i : SlotId) (f : SlotRecord → SlotRecord) (j : SlotId) : (s.modSlot i f).ctx j = s.ctx j := rfl
@[simp] theorem State.modOwed_ctx_at (i : SlotId) (f : Owed → Owed) (j : SlotId) : (s.modOwed i f).ctx j = s.ctx j := rfl
@[simp] theorem State.modEcho_ctx_at (i : SlotId) (f : EchoRecord → EchoRecord) (j : SlotId) : (s.modEcho i f).ctx j = s.ctx j := rfl
@[simp] theorem State.modDemand_ctx_at (i : SlotId) (f : Demand → Demand) (j : SlotId) : (s.modDemand i f).ctx j = s.ctx j := rfl
@[simp] theorem State.modQueue_ctx_at (i : SlotId) (f : DownQueue → DownQueue) (j : SlotId) : (s.modQueue i f).ctx j = s.ctx j := rfl
@[simp] theorem State.modStrikes_ctx_at (i : SlotId) (f : Strikes → Strikes) (j : SlotId) : (s.modStrikes i f).ctx j = s.ctx j := rfl

end Sys2Proof.Machine
end

