-- ==== Sys2Proof/Laws/Frame.lean ====
section
/-! SUPPORT. Laws/Frame.lean: for each operation over the state, the blocks it leaves as they were: one lemma for each, which
a proof about another block cites instead of unfolding the operation. -/

namespace Sys2Proof.Machine

/-! ### Folds -/

/-- A function of the state that every turn of a fold keeps, the fold keeps. -/
theorem foldl_keeps {α β : Type} (g : State → β) (f : State → α → State) (h : ∀ s a, g (f s a) = g s) (l : List α)
    (s : State) : g (l.foldl f s) = g s := by
  induction l generalizing s with
  | nil => rfl
  | cons a l ih => rw [List.foldl_cons, ih, h]

@[simp] theorem foldl_tree {α : Type} (f : State → α → State) (l : List α) (s : State)
    (h : ∀ s a, (f s a).tree = s.tree) : (l.foldl f s).tree = s.tree := foldl_keeps (·.tree) f h l s
@[simp] theorem forSlots_tree (s : State) (p : SlotId → Bool) (f : State → SlotId → State)
    (h : ∀ s a, (f s a).tree = s.tree) : (s.forSlots p f).tree = s.tree := foldl_keeps (·.tree) f h _ s
@[simp] theorem foldl_home {α : Type} (f : State → α → State) (l : List α) (s : State)
    (h : ∀ s a, (f s a).home = s.home) : (l.foldl f s).home = s.home := foldl_keeps (·.home) f h l s
@[simp] theorem forSlots_home (s : State) (p : SlotId → Bool) (f : State → SlotId → State)
    (h : ∀ s a, (f s a).home = s.home) : (s.forSlots p f).home = s.home := foldl_keeps (·.home) f h _ s
@[simp] theorem foldl_enrol {α : Type} (f : State → α → State) (l : List α) (s : State)
    (h : ∀ s a, (f s a).enrol = s.enrol) : (l.foldl f s).enrol = s.enrol := foldl_keeps (·.enrol) f h l s
@[simp] theorem forSlots_enrol (s : State) (p : SlotId → Bool) (f : State → SlotId → State)
    (h : ∀ s a, (f s a).enrol = s.enrol) : (s.forSlots p f).enrol = s.enrol := foldl_keeps (·.enrol) f h _ s
@[simp] theorem foldl_sched {α : Type} (f : State → α → State) (l : List α) (s : State)
    (h : ∀ s a, (f s a).sched = s.sched) : (l.foldl f s).sched = s.sched := foldl_keeps (·.sched) f h l s
@[simp] theorem forSlots_sched (s : State) (p : SlotId → Bool) (f : State → SlotId → State)
    (h : ∀ s a, (f s a).sched = s.sched) : (s.forSlots p f).sched = s.sched := foldl_keeps (·.sched) f h _ s
@[simp] theorem foldl_down {α : Type} (f : State → α → State) (l : List α) (s : State)
    (h : ∀ s a, (f s a).down = s.down) : (l.foldl f s).down = s.down := foldl_keeps (·.down) f h l s
@[simp] theorem forSlots_down (s : State) (p : SlotId → Bool) (f : State → SlotId → State)
    (h : ∀ s a, (f s a).down = s.down) : (s.forSlots p f).down = s.down := foldl_keeps (·.down) f h _ s
@[simp] theorem foldl_watch {α : Type} (f : State → α → State) (l : List α) (s : State)
    (h : ∀ s a, (f s a).watch = s.watch) : (l.foldl f s).watch = s.watch := foldl_keeps (·.watch) f h l s
@[simp] theorem forSlots_watch (s : State) (p : SlotId → Bool) (f : State → SlotId → State)
    (h : ∀ s a, (f s a).watch = s.watch) : (s.forSlots p f).watch = s.watch := foldl_keeps (·.watch) f h _ s
@[simp] theorem foldl_meter {α : Type} (f : State → α → State) (l : List α) (s : State)
    (h : ∀ s a, (f s a).meter = s.meter) : (l.foldl f s).meter = s.meter := foldl_keeps (·.meter) f h l s
@[simp] theorem forSlots_meter (s : State) (p : SlotId → Bool) (f : State → SlotId → State)
    (h : ∀ s a, (f s a).meter = s.meter) : (s.forSlots p f).meter = s.meter := foldl_keeps (·.meter) f h _ s
@[simp] theorem foldl_journal {α : Type} (f : State → α → State) (l : List α) (s : State)
    (h : ∀ s a, (f s a).journal = s.journal) : (l.foldl f s).journal = s.journal := foldl_keeps (·.journal) f h l s
@[simp] theorem forSlots_journal (s : State) (p : SlotId → Bool) (f : State → SlotId → State)
    (h : ∀ s a, (f s a).journal = s.journal) : (s.forSlots p f).journal = s.journal := foldl_keeps (·.journal) f h _ s
@[simp] theorem foldl_link {α : Type} (f : State → α → State) (l : List α) (s : State)
    (h : ∀ s a, (f s a).link = s.link) : (l.foldl f s).link = s.link := foldl_keeps (·.link) f h l s
@[simp] theorem forSlots_link (s : State) (p : SlotId → Bool) (f : State → SlotId → State)
    (h : ∀ s a, (f s a).link = s.link) : (s.forSlots p f).link = s.link := foldl_keeps (·.link) f h _ s
@[simp] theorem foldl_roster {α : Type} (f : State → α → State) (l : List α) (s : State)
    (h : ∀ s a, (f s a).roster = s.roster) : (l.foldl f s).roster = s.roster := foldl_keeps (·.roster) f h l s
@[simp] theorem forSlots_roster (s : State) (p : SlotId → Bool) (f : State → SlotId → State)
    (h : ∀ s a, (f s a).roster = s.roster) : (s.forSlots p f).roster = s.roster := foldl_keeps (·.roster) f h _ s
@[simp] theorem foldl_clock {α : Type} (f : State → α → State) (l : List α) (s : State)
    (h : ∀ s a, (f s a).clock = s.clock) : (l.foldl f s).clock = s.clock := foldl_keeps (·.clock) f h l s
@[simp] theorem forSlots_clock (s : State) (p : SlotId → Bool) (f : State → SlotId → State)
    (h : ∀ s a, (f s a).clock = s.clock) : (s.forSlots p f).clock = s.clock := foldl_keeps (·.clock) f h _ s
@[simp] theorem foldl_config {α : Type} (f : State → α → State) (l : List α) (s : State)
    (h : ∀ s a, (f s a).config = s.config) : (l.foldl f s).config = s.config := foldl_keeps (·.config) f h l s
@[simp] theorem forSlots_config (s : State) (p : SlotId → Bool) (f : State → SlotId → State)
    (h : ∀ s a, (f s a).config = s.config) : (s.forSlots p f).config = s.config := foldl_keeps (·.config) f h _ s
@[simp] theorem foldl_pending {α : Type} (f : State → α → State) (l : List α) (s : State)
    (h : ∀ s a, (f s a).pending = s.pending) : (l.foldl f s).pending = s.pending := foldl_keeps (·.pending) f h l s
@[simp] theorem forSlots_pending (s : State) (p : SlotId → Bool) (f : State → SlotId → State)
    (h : ∀ s a, (f s a).pending = s.pending) : (s.forSlots p f).pending = s.pending := foldl_keeps (·.pending) f h _ s

/-- A command taken changes only the link. -/
theorem takeCommand_frame {s t : State} {code : Byte} {c : RxCommand} (h : s.takeCommand code = some (c, t)) :
    t = s.modLink fun l => { l with dispatched := l.dispatched.eraseP (·.code == code) } := by
  unfold State.takeCommand at h
  cases hf : s.link.dispatched.find? (·.code == code) <;> simp_all

/-! ### Machine/Ops.lean -/

@[simp] theorem State.sampleLatch_frame (s : State) (light : Bool) :
    (State.sampleLatch s light).home = s.home ∧ (State.sampleLatch s light).enrol = s.enrol ∧
    (State.sampleLatch s light).sched = s.sched ∧ (State.sampleLatch s light).down = s.down ∧
    (State.sampleLatch s light).watch = s.watch ∧ (State.sampleLatch s light).meter = s.meter ∧
    (State.sampleLatch s light).journal = s.journal ∧ (State.sampleLatch s light).link = s.link ∧
    (State.sampleLatch s light).roster = s.roster ∧ (State.sampleLatch s light).clock = s.clock ∧
    (State.sampleLatch s light).config = s.config ∧ (State.sampleLatch s light).pending = s.pending := by
  unfold State.sampleLatch
  simp

@[simp] theorem State.modReception_frame (s : State) (f : Issued → Issued) :
    (State.modReception s f).home = s.home ∧ (State.modReception s f).enrol = s.enrol ∧
    (State.modReception s f).sched = s.sched ∧ (State.modReception s f).down = s.down ∧
    (State.modReception s f).watch = s.watch ∧ (State.modReception s f).meter = s.meter ∧
    (State.modReception s f).journal = s.journal ∧ (State.modReception s f).link = s.link ∧
    (State.modReception s f).roster = s.roster ∧ (State.modReception s f).clock = s.clock ∧
    (State.modReception s f).config = s.config ∧ (State.modReception s f).pending = s.pending := by
  unfold State.modReception
  simp

/-! ### Machine/Flags.lean -/

@[simp] theorem State.raise_frame (s : State) (k : AlertKind) (details : List Byte) :
    (State.raise s k details).tree = s.tree ∧ (State.raise s k details).home = s.home ∧
    (State.raise s k details).enrol = s.enrol ∧ (State.raise s k details).sched = s.sched ∧
    (State.raise s k details).down = s.down ∧ (State.raise s k details).watch = s.watch ∧
    (State.raise s k details).meter = s.meter ∧ (State.raise s k details).journal = s.journal ∧
    (State.raise s k details).roster = s.roster ∧ (State.raise s k details).clock = s.clock ∧
    (State.raise s k details).config = s.config ∧ (State.raise s k details).pending = s.pending := by
  unfold State.raise
  simp

@[simp] theorem State.answerPlain_frame (s : State) (c : RxCommand) (rc : ReplyCode) (results : List Byte) :
    (State.answerPlain s c rc results).tree = s.tree ∧ (State.answerPlain s c rc results).home = s.home ∧
    (State.answerPlain s c rc results).enrol = s.enrol ∧ (State.answerPlain s c rc results).sched = s.sched ∧
    (State.answerPlain s c rc results).down = s.down ∧ (State.answerPlain s c rc results).watch = s.watch ∧
    (State.answerPlain s c rc results).meter = s.meter ∧ (State.answerPlain s c rc results).journal = s.journal ∧
    (State.answerPlain s c rc results).roster = s.roster ∧ (State.answerPlain s c rc results).clock = s.clock ∧
    (State.answerPlain s c rc results).config = s.config ∧ (State.answerPlain s c rc results).pending = s.pending := by
  unfold State.answerPlain
  simp

@[simp] theorem State.answer_frame (s : State) (c : RxCommand) (rc : ReplyCode) (results : List Byte) :
    (State.answer s c rc results).tree = s.tree ∧ (State.answer s c rc results).home = s.home ∧
    (State.answer s c rc results).enrol = s.enrol ∧ (State.answer s c rc results).sched = s.sched ∧
    (State.answer s c rc results).down = s.down ∧ (State.answer s c rc results).watch = s.watch ∧
    (State.answer s c rc results).meter = s.meter ∧ (State.answer s c rc results).journal = s.journal ∧
    (State.answer s c rc results).roster = s.roster ∧ (State.answer s c rc results).clock = s.clock ∧
    (State.answer s c rc results).config = s.config ∧ (State.answer s c rc results).pending = s.pending := by
  unfold State.answer
  simp

@[simp] theorem State.answerCode_frame (s : State) (c : RxCommand) (rc : ReplyCode) :
    (State.answerCode s c rc).tree = s.tree ∧ (State.answerCode s c rc).home = s.home ∧
    (State.answerCode s c rc).enrol = s.enrol ∧ (State.answerCode s c rc).sched = s.sched ∧
    (State.answerCode s c rc).down = s.down ∧ (State.answerCode s c rc).watch = s.watch ∧
    (State.answerCode s c rc).meter = s.meter ∧ (State.answerCode s c rc).journal = s.journal ∧
    (State.answerCode s c rc).roster = s.roster ∧ (State.answerCode s c rc).clock = s.clock ∧
    (State.answerCode s c rc).config = s.config ∧ (State.answerCode s c rc).pending = s.pending := by
  unfold State.answerCode
  simp

/-! ### Machine/Orders.lean -/

@[simp] theorem State.offerOrder_frame (s : State) (lane : Lane) (body : OrderBody) (target : Option (SlotId × Gen)) :
    (State.offerOrder s lane body target).1.home = s.home ∧
    (State.offerOrder s lane body target).1.enrol = s.enrol ∧
    (State.offerOrder s lane body target).1.sched = s.sched ∧
    (State.offerOrder s lane body target).1.down = s.down ∧
    (State.offerOrder s lane body target).1.watch = s.watch ∧
    (State.offerOrder s lane body target).1.meter = s.meter ∧
    (State.offerOrder s lane body target).1.journal = s.journal ∧
    (State.offerOrder s lane body target).1.link = s.link ∧
    (State.offerOrder s lane body target).1.roster = s.roster ∧
    (State.offerOrder s lane body target).1.clock = s.clock ∧
    (State.offerOrder s lane body target).1.config = s.config ∧
    (State.offerOrder s lane body target).1.pending = s.pending := by
  unfold State.offerOrder
  simp

@[simp] theorem State.rollAbandoned_frame (s : State) :
    (State.rollAbandoned s).tree = s.tree ∧ (State.rollAbandoned s).home = s.home ∧
    (State.rollAbandoned s).down = s.down ∧ (State.rollAbandoned s).watch = s.watch ∧
    (State.rollAbandoned s).meter = s.meter ∧ (State.rollAbandoned s).journal = s.journal ∧
    (State.rollAbandoned s).link = s.link ∧ (State.rollAbandoned s).roster = s.roster ∧
    (State.rollAbandoned s).clock = s.clock ∧ (State.rollAbandoned s).config = s.config ∧
    (State.rollAbandoned s).pending = s.pending := by
  unfold State.rollAbandoned
  simp

@[simp] theorem State.holdoffOutcome_frame (s : State) (i : SlotId) (value : Half) (o : OrderOutcome) :
    (State.holdoffOutcome s i value o).tree = s.tree ∧ (State.holdoffOutcome s i value o).home = s.home ∧
    (State.holdoffOutcome s i value o).sched = s.sched ∧ (State.holdoffOutcome s i value o).down = s.down ∧
    (State.holdoffOutcome s i value o).watch = s.watch ∧ (State.holdoffOutcome s i value o).meter = s.meter ∧
    (State.holdoffOutcome s i value o).journal = s.journal ∧ (State.holdoffOutcome s i value o).link = s.link ∧
    (State.holdoffOutcome s i value o).roster = s.roster ∧ (State.holdoffOutcome s i value o).clock = s.clock ∧
    (State.holdoffOutcome s i value o).config = s.config ∧ (State.holdoffOutcome s i value o).pending = s.pending := by
  unfold State.holdoffOutcome
  (repeat' split) <;> simp

@[simp] theorem State.dropMember_frame (s : State) (i : SlotId) :
    (State.dropMember s i).tree = s.tree ∧ (State.dropMember s i).enrol = s.enrol ∧
    (State.dropMember s i).sched = s.sched ∧ (State.dropMember s i).down = s.down ∧
    (State.dropMember s i).meter = s.meter ∧ (State.dropMember s i).journal = s.journal ∧
    (State.dropMember s i).link = s.link ∧ (State.dropMember s i).roster = s.roster ∧
    (State.dropMember s i).clock = s.clock ∧ (State.dropMember s i).config = s.config ∧
    (State.dropMember s i).pending = s.pending := by
  unfold State.dropMember
  (repeat' split) <;> simp

@[simp] theorem State.watchReport_frame (s : State) (i : SlotId) (seq : BitVec 8) (o : OrderOutcome) :
    (State.watchReport s i seq o).tree = s.tree ∧ (State.watchReport s i seq o).enrol = s.enrol ∧
    (State.watchReport s i seq o).sched = s.sched ∧ (State.watchReport s i seq o).down = s.down ∧
    (State.watchReport s i seq o).meter = s.meter ∧ (State.watchReport s i seq o).journal = s.journal ∧
    (State.watchReport s i seq o).link = s.link ∧ (State.watchReport s i seq o).roster = s.roster ∧
    (State.watchReport s i seq o).clock = s.clock ∧ (State.watchReport s i seq o).config = s.config ∧
    (State.watchReport s i seq o).pending = s.pending := by
  unfold State.watchReport
  (repeat' split) <;> simp

@[simp] theorem State.wakeDueReport_frame (s : State) (i : SlotId) (o : OrderOutcome) :
    (State.wakeDueReport s i o).tree = s.tree ∧ (State.wakeDueReport s i o).enrol = s.enrol ∧
    (State.wakeDueReport s i o).sched = s.sched ∧ (State.wakeDueReport s i o).down = s.down ∧
    (State.wakeDueReport s i o).watch = s.watch ∧ (State.wakeDueReport s i o).meter = s.meter ∧
    (State.wakeDueReport s i o).journal = s.journal ∧ (State.wakeDueReport s i o).link = s.link ∧
    (State.wakeDueReport s i o).roster = s.roster ∧ (State.wakeDueReport s i o).clock = s.clock ∧
    (State.wakeDueReport s i o).config = s.config ∧ (State.wakeDueReport s i o).pending = s.pending := by
  unfold State.wakeDueReport
  (repeat' split) <;> simp

@[simp] theorem State.report_frame (s : State) (e : OrderEntry) (o : OrderOutcome) :
    (State.report s e o).tree = s.tree ∧ (State.report s e o).down = s.down ∧
    (State.report s e o).meter = s.meter ∧ (State.report s e o).journal = s.journal ∧
    (State.report s e o).link = s.link ∧ (State.report s e o).roster = s.roster ∧
    (State.report s e o).clock = s.clock ∧ (State.report s e o).config = s.config ∧
    (State.report s e o).pending = s.pending := by
  unfold State.report
  (repeat' split) <;> simp

@[simp] theorem State.abandonWhere_frame (s : State) (p : OrderEntry → Bool) :
    (State.abandonWhere s p).down = s.down ∧ (State.abandonWhere s p).meter = s.meter ∧
    (State.abandonWhere s p).journal = s.journal ∧ (State.abandonWhere s p).link = s.link ∧
    (State.abandonWhere s p).roster = s.roster ∧ (State.abandonWhere s p).clock = s.clock ∧
    (State.abandonWhere s p).config = s.config ∧ (State.abandonWhere s p).pending = s.pending := by
  unfold State.abandonWhere
  simp

@[simp] theorem State.removeQuietly_frame (s : State) (p : OrderEntry → Bool) :
    (State.removeQuietly s p).home = s.home ∧ (State.removeQuietly s p).enrol = s.enrol ∧
    (State.removeQuietly s p).sched = s.sched ∧ (State.removeQuietly s p).down = s.down ∧
    (State.removeQuietly s p).watch = s.watch ∧ (State.removeQuietly s p).meter = s.meter ∧
    (State.removeQuietly s p).journal = s.journal ∧ (State.removeQuietly s p).link = s.link ∧
    (State.removeQuietly s p).roster = s.roster ∧ (State.removeQuietly s p).clock = s.clock ∧
    (State.removeQuietly s p).config = s.config ∧ (State.removeQuietly s p).pending = s.pending := by
  unfold State.removeQuietly
  simp

@[simp] theorem State.rollSent_frame (s : State) (n : Round) :
    (State.rollSent s n).tree = s.tree ∧ (State.rollSent s n).home = s.home ∧ (State.rollSent s n).down = s.down ∧
    (State.rollSent s n).watch = s.watch ∧ (State.rollSent s n).meter = s.meter ∧
    (State.rollSent s n).journal = s.journal ∧ (State.rollSent s n).link = s.link ∧
    (State.rollSent s n).roster = s.roster ∧ (State.rollSent s n).clock = s.clock ∧
    (State.rollSent s n).config = s.config ∧ (State.rollSent s n).pending = s.pending := by
  unfold State.rollSent
  simp

@[simp] theorem State.sendOrder_frame (s : State) (n : Round) (e : OrderEntry) :
    (State.sendOrder s n e).down = s.down ∧ (State.sendOrder s n e).meter = s.meter ∧
    (State.sendOrder s n e).journal = s.journal ∧ (State.sendOrder s n e).link = s.link ∧
    (State.sendOrder s n e).roster = s.roster ∧ (State.sendOrder s n e).clock = s.clock ∧
    (State.sendOrder s n e).config = s.config ∧ (State.sendOrder s n e).pending = s.pending := by
  simp only [State.sendOrder]
  (repeat' split) <;> simp

@[simp] theorem State.fillSlots_frame (n : Round) (x0 : List OrderEntry) (x1 : Nat) (s : State) :
    (State.fillSlots n x0 x1 s).1.down = s.down ∧ (State.fillSlots n x0 x1 s).1.meter = s.meter ∧
    (State.fillSlots n x0 x1 s).1.journal = s.journal ∧ (State.fillSlots n x0 x1 s).1.link = s.link ∧
    (State.fillSlots n x0 x1 s).1.roster = s.roster ∧ (State.fillSlots n x0 x1 s).1.clock = s.clock ∧
    (State.fillSlots n x0 x1 s).1.config = s.config ∧ (State.fillSlots n x0 x1 s).1.pending = s.pending := by
  induction x0 generalizing x1 s with
  | nil => unfold State.fillSlots; simp
  | cons e es ih =>
    cases x1 with
    | zero => unfold State.fillSlots; simp
    | succ k =>
      unfold State.fillSlots
      split <;> simp [ih]

@[simp] theorem State.selectOrders_frame (s : State) (n : Round) :
    (State.selectOrders s n).1.down = s.down ∧ (State.selectOrders s n).1.meter = s.meter ∧
    (State.selectOrders s n).1.journal = s.journal ∧ (State.selectOrders s n).1.link = s.link ∧
    (State.selectOrders s n).1.roster = s.roster ∧ (State.selectOrders s n).1.clock = s.clock ∧
    (State.selectOrders s n).1.config = s.config ∧ (State.selectOrders s n).1.pending = s.pending := by
  unfold State.selectOrders
  simp

@[simp] theorem State.holdoffSequence_frame (s : State) (i : SlotId) (g : Gen) (n : Round) (seq : BitVec 8) :
    (State.holdoffSequence s i g n seq).down = s.down ∧ (State.holdoffSequence s i g n seq).meter = s.meter ∧
    (State.holdoffSequence s i g n seq).journal = s.journal ∧ (State.holdoffSequence s i g n seq).link = s.link ∧
    (State.holdoffSequence s i g n seq).roster = s.roster ∧ (State.holdoffSequence s i g n seq).clock = s.clock ∧
    (State.holdoffSequence s i g n seq).config = s.config ∧ (State.holdoffSequence s i g n seq).pending = s.pending := by
  unfold State.holdoffSequence
  (repeat' split) <;> simp

/-! ### Machine/Rating.lean -/

@[simp] theorem State.offerUpdate_frame (s : State) (i : SlotId) (g : Gen) (kind : MeterKind) (bytes assured : Nat) :
    (State.offerUpdate s i g kind bytes assured).tree = s.tree ∧
    (State.offerUpdate s i g kind bytes assured).home = s.home ∧
    (State.offerUpdate s i g kind bytes assured).enrol = s.enrol ∧
    (State.offerUpdate s i g kind bytes assured).sched = s.sched ∧
    (State.offerUpdate s i g kind bytes assured).down = s.down ∧
    (State.offerUpdate s i g kind bytes assured).watch = s.watch ∧
    (State.offerUpdate s i g kind bytes assured).journal = s.journal ∧
    (State.offerUpdate s i g kind bytes assured).link = s.link ∧
    (State.offerUpdate s i g kind bytes assured).roster = s.roster ∧
    (State.offerUpdate s i g kind bytes assured).clock = s.clock ∧
    (State.offerUpdate s i g kind bytes assured).config = s.config ∧
    (State.offerUpdate s i g kind bytes assured).pending = s.pending := by
  unfold State.offerUpdate
  (repeat' split) <;> simp

@[simp] theorem State.reevaluateBand_frame (s : State) :
    (State.reevaluateBand s).tree = s.tree ∧ (State.reevaluateBand s).home = s.home ∧
    (State.reevaluateBand s).enrol = s.enrol ∧ (State.reevaluateBand s).sched = s.sched ∧
    (State.reevaluateBand s).down = s.down ∧ (State.reevaluateBand s).watch = s.watch ∧
    (State.reevaluateBand s).journal = s.journal ∧ (State.reevaluateBand s).link = s.link ∧
    (State.reevaluateBand s).roster = s.roster ∧ (State.reevaluateBand s).clock = s.clock ∧
    (State.reevaluateBand s).config = s.config ∧ (State.reevaluateBand s).pending = s.pending := by
  unfold State.reevaluateBand
  (repeat' split) <;> simp

@[simp] theorem State.modTally_frame (s : State) (i : SlotId) (b : Band) (f : Tally → Tally) :
    (State.modTally s i b f).tree = s.tree ∧ (State.modTally s i b f).home = s.home ∧
    (State.modTally s i b f).enrol = s.enrol ∧ (State.modTally s i b f).sched = s.sched ∧
    (State.modTally s i b f).down = s.down ∧ (State.modTally s i b f).watch = s.watch ∧
    (State.modTally s i b f).journal = s.journal ∧ (State.modTally s i b f).link = s.link ∧
    (State.modTally s i b f).roster = s.roster ∧ (State.modTally s i b f).clock = s.clock ∧
    (State.modTally s i b f).config = s.config ∧ (State.modTally s i b f).pending = s.pending := by
  unfold State.modTally
  simp

@[simp] theorem State.checkTally_frame (s : State) (i : SlotId) (b : Band) :
    (State.checkTally s i b).tree = s.tree ∧ (State.checkTally s i b).home = s.home ∧
    (State.checkTally s i b).enrol = s.enrol ∧ (State.checkTally s i b).sched = s.sched ∧
    (State.checkTally s i b).down = s.down ∧ (State.checkTally s i b).watch = s.watch ∧
    (State.checkTally s i b).journal = s.journal ∧ (State.checkTally s i b).roster = s.roster ∧
    (State.checkTally s i b).clock = s.clock ∧ (State.checkTally s i b).config = s.config ∧
    (State.checkTally s i b).pending = s.pending := by
  unfold State.checkTally
  (repeat' split) <;> simp

@[simp] theorem State.checkTallies_frame (s : State) (i : SlotId) :
    (State.checkTallies s i).tree = s.tree ∧ (State.checkTallies s i).home = s.home ∧
    (State.checkTallies s i).enrol = s.enrol ∧ (State.checkTallies s i).sched = s.sched ∧
    (State.checkTallies s i).down = s.down ∧ (State.checkTallies s i).watch = s.watch ∧
    (State.checkTallies s i).journal = s.journal ∧ (State.checkTallies s i).roster = s.roster ∧
    (State.checkTallies s i).clock = s.clock ∧ (State.checkTallies s i).config = s.config ∧
    (State.checkTallies s i).pending = s.pending := by
  unfold State.checkTallies
  simp

@[simp] theorem State.credit_frame (s : State) (i : SlotId) (b : Band) (c : ByteCounts) :
    (State.credit s i b c).tree = s.tree ∧ (State.credit s i b c).home = s.home ∧
    (State.credit s i b c).enrol = s.enrol ∧ (State.credit s i b c).sched = s.sched ∧
    (State.credit s i b c).down = s.down ∧ (State.credit s i b c).watch = s.watch ∧
    (State.credit s i b c).journal = s.journal ∧ (State.credit s i b c).roster = s.roster ∧
    (State.credit s i b c).clock = s.clock ∧ (State.credit s i b c).config = s.config ∧
    (State.credit s i b c).pending = s.pending := by
  unfold State.credit
  simp

@[simp] theorem State.fold_frame (s : State) (i : SlotId) :
    (State.fold s i).tree = s.tree ∧ (State.fold s i).home = s.home ∧ (State.fold s i).enrol = s.enrol ∧
    (State.fold s i).sched = s.sched ∧ (State.fold s i).down = s.down ∧ (State.fold s i).watch = s.watch ∧
    (State.fold s i).journal = s.journal ∧ (State.fold s i).roster = s.roster ∧ (State.fold s i).clock = s.clock ∧
    (State.fold s i).config = s.config ∧ (State.fold s i).pending = s.pending := by
  unfold State.fold
  (repeat' split) <;> simp

@[simp] theorem State.openContext_frame (s : State) (i : SlotId) :
    (State.openContext s i).tree = s.tree ∧ (State.openContext s i).home = s.home ∧
    (State.openContext s i).enrol = s.enrol ∧ (State.openContext s i).sched = s.sched ∧
    (State.openContext s i).down = s.down ∧ (State.openContext s i).watch = s.watch ∧
    (State.openContext s i).journal = s.journal ∧ (State.openContext s i).link = s.link ∧
    (State.openContext s i).roster = s.roster ∧ (State.openContext s i).clock = s.clock ∧
    (State.openContext s i).config = s.config ∧ (State.openContext s i).pending = s.pending := by
  unfold State.openContext
  simp

@[simp] theorem State.ensureOpen_frame (s : State) (i : SlotId) :
    (State.ensureOpen s i).tree = s.tree ∧ (State.ensureOpen s i).home = s.home ∧
    (State.ensureOpen s i).enrol = s.enrol ∧ (State.ensureOpen s i).sched = s.sched ∧
    (State.ensureOpen s i).down = s.down ∧ (State.ensureOpen s i).watch = s.watch ∧
    (State.ensureOpen s i).journal = s.journal ∧ (State.ensureOpen s i).link = s.link ∧
    (State.ensureOpen s i).roster = s.roster ∧ (State.ensureOpen s i).clock = s.clock ∧
    (State.ensureOpen s i).config = s.config ∧ (State.ensureOpen s i).pending = s.pending := by
  unfold State.ensureOpen
  (repeat' split) <;> simp

@[simp] theorem State.afterRecord_frame (s : State) (i : SlotId) (final : Bool) :
    (State.afterRecord s i final).tree = s.tree ∧ (State.afterRecord s i final).home = s.home ∧
    (State.afterRecord s i final).enrol = s.enrol ∧ (State.afterRecord s i final).sched = s.sched ∧
    (State.afterRecord s i final).down = s.down ∧ (State.afterRecord s i final).watch = s.watch ∧
    (State.afterRecord s i final).journal = s.journal ∧ (State.afterRecord s i final).link = s.link ∧
    (State.afterRecord s i final).roster = s.roster ∧ (State.afterRecord s i final).clock = s.clock ∧
    (State.afterRecord s i final).config = s.config ∧ (State.afterRecord s i final).pending = s.pending := by
  unfold State.afterRecord
  simp

@[simp] theorem State.appendRecord_frame (s : State) (r : UsageRecord) :
    (State.appendRecord s r).tree = s.tree ∧ (State.appendRecord s r).home = s.home ∧
    (State.appendRecord s r).enrol = s.enrol ∧ (State.appendRecord s r).sched = s.sched ∧
    (State.appendRecord s r).down = s.down ∧ (State.appendRecord s r).watch = s.watch ∧
    (State.appendRecord s r).meter = s.meter ∧ (State.appendRecord s r).roster = s.roster ∧
    (State.appendRecord s r).clock = s.clock ∧ (State.appendRecord s r).config = s.config ∧
    (State.appendRecord s r).pending = s.pending := by
  simp only [State.appendRecord]
  (repeat' split) <;> simp

@[simp] theorem State.closeWithRecord_frame (s : State) (i : SlotId) (reason : CloseReason) :
    (State.closeWithRecord s i reason).tree = s.tree ∧ (State.closeWithRecord s i reason).home = s.home ∧
    (State.closeWithRecord s i reason).enrol = s.enrol ∧ (State.closeWithRecord s i reason).sched = s.sched ∧
    (State.closeWithRecord s i reason).down = s.down ∧ (State.closeWithRecord s i reason).watch = s.watch ∧
    (State.closeWithRecord s i reason).roster = s.roster ∧ (State.closeWithRecord s i reason).clock = s.clock ∧
    (State.closeWithRecord s i reason).config = s.config ∧ (State.closeWithRecord s i reason).pending = s.pending := by
  unfold State.closeWithRecord
  simp

@[simp] theorem State.owe_frame (s : State) (i : SlotId) (st : CtxState) :
    (State.owe s i st).tree = s.tree ∧ (State.owe s i st).home = s.home ∧ (State.owe s i st).enrol = s.enrol ∧
    (State.owe s i st).sched = s.sched ∧ (State.owe s i st).down = s.down ∧ (State.owe s i st).watch = s.watch ∧
    (State.owe s i st).journal = s.journal ∧ (State.owe s i st).link = s.link ∧
    (State.owe s i st).roster = s.roster ∧ (State.owe s i st).clock = s.clock ∧
    (State.owe s i st).config = s.config ∧ (State.owe s i st).pending = s.pending := by
  unfold State.owe
  simp

/-! ### Machine/Table.lean -/

@[simp] theorem State.writeAssured_frame (s : State) (i : SlotId) (a : Nat) (short : Bool) :
    (State.writeAssured s i a short).tree = s.tree ∧ (State.writeAssured s i a short).enrol = s.enrol ∧
    (State.writeAssured s i a short).sched = s.sched ∧ (State.writeAssured s i a short).down = s.down ∧
    (State.writeAssured s i a short).watch = s.watch ∧ (State.writeAssured s i a short).journal = s.journal ∧
    (State.writeAssured s i a short).link = s.link ∧ (State.writeAssured s i a short).roster = s.roster ∧
    (State.writeAssured s i a short).clock = s.clock ∧ (State.writeAssured s i a short).config = s.config ∧
    (State.writeAssured s i a short).pending = s.pending := by
  unfold State.writeAssured
  (repeat' split) <;> simp

@[simp] theorem State.topUpSlot_frame (s : State) (i : SlotId) :
    (State.topUpSlot s i).tree = s.tree ∧ (State.topUpSlot s i).enrol = s.enrol ∧
    (State.topUpSlot s i).sched = s.sched ∧ (State.topUpSlot s i).down = s.down ∧
    (State.topUpSlot s i).watch = s.watch ∧ (State.topUpSlot s i).meter = s.meter ∧
    (State.topUpSlot s i).journal = s.journal ∧ (State.topUpSlot s i).link = s.link ∧
    (State.topUpSlot s i).roster = s.roster ∧ (State.topUpSlot s i).clock = s.clock ∧
    (State.topUpSlot s i).config = s.config ∧ (State.topUpSlot s i).pending = s.pending := by
  simp only [State.topUpSlot]
  (repeat' split) <;> simp

@[simp] theorem State.topUp_frame (s : State) :
    (State.topUp s).tree = s.tree ∧ (State.topUp s).enrol = s.enrol ∧ (State.topUp s).sched = s.sched ∧
    (State.topUp s).down = s.down ∧ (State.topUp s).watch = s.watch ∧ (State.topUp s).meter = s.meter ∧
    (State.topUp s).journal = s.journal ∧ (State.topUp s).link = s.link ∧ (State.topUp s).roster = s.roster ∧
    (State.topUp s).clock = s.clock ∧ (State.topUp s).config = s.config ∧ (State.topUp s).pending = s.pending := by
  unfold State.topUp
  simp

@[simp] theorem State.treeOnSlot_frame (s : State) (i : SlotId) (new : SlotState) :
    (State.treeOnSlot s i new).home = s.home ∧ (State.treeOnSlot s i new).enrol = s.enrol ∧
    (State.treeOnSlot s i new).sched = s.sched ∧ (State.treeOnSlot s i new).down = s.down ∧
    (State.treeOnSlot s i new).watch = s.watch ∧ (State.treeOnSlot s i new).meter = s.meter ∧
    (State.treeOnSlot s i new).journal = s.journal ∧ (State.treeOnSlot s i new).link = s.link ∧
    (State.treeOnSlot s i new).roster = s.roster ∧ (State.treeOnSlot s i new).clock = s.clock ∧
    (State.treeOnSlot s i new).config = s.config ∧ (State.treeOnSlot s i new).pending = s.pending := by
  unfold State.treeOnSlot
  (repeat' split) <;> simp

@[simp] theorem State.enrolOnSlot_frame (s : State) (i : SlotId) (old new : SlotState) :
    (State.enrolOnSlot s i old new).tree = s.tree ∧ (State.enrolOnSlot s i old new).home = s.home ∧
    (State.enrolOnSlot s i old new).sched = s.sched ∧ (State.enrolOnSlot s i old new).down = s.down ∧
    (State.enrolOnSlot s i old new).watch = s.watch ∧ (State.enrolOnSlot s i old new).meter = s.meter ∧
    (State.enrolOnSlot s i old new).journal = s.journal ∧ (State.enrolOnSlot s i old new).link = s.link ∧
    (State.enrolOnSlot s i old new).roster = s.roster ∧ (State.enrolOnSlot s i old new).clock = s.clock ∧
    (State.enrolOnSlot s i old new).config = s.config ∧ (State.enrolOnSlot s i old new).pending = s.pending := by
  unfold State.enrolOnSlot
  (repeat' split) <;> simp

@[simp] theorem State.schedOnSlot_frame (s : State) (i : SlotId) (new : SlotState) :
    (State.schedOnSlot s i new).tree = s.tree ∧ (State.schedOnSlot s i new).home = s.home ∧
    (State.schedOnSlot s i new).enrol = s.enrol ∧ (State.schedOnSlot s i new).down = s.down ∧
    (State.schedOnSlot s i new).watch = s.watch ∧ (State.schedOnSlot s i new).meter = s.meter ∧
    (State.schedOnSlot s i new).journal = s.journal ∧ (State.schedOnSlot s i new).link = s.link ∧
    (State.schedOnSlot s i new).roster = s.roster ∧ (State.schedOnSlot s i new).clock = s.clock ∧
    (State.schedOnSlot s i new).config = s.config ∧ (State.schedOnSlot s i new).pending = s.pending := by
  unfold State.schedOnSlot
  (repeat' split) <;> simp

@[simp] theorem State.downOnSlot_frame (s : State) (i : SlotId) (new : SlotState) :
    (State.downOnSlot s i new).tree = s.tree ∧ (State.downOnSlot s i new).home = s.home ∧
    (State.downOnSlot s i new).enrol = s.enrol ∧ (State.downOnSlot s i new).sched = s.sched ∧
    (State.downOnSlot s i new).watch = s.watch ∧ (State.downOnSlot s i new).meter = s.meter ∧
    (State.downOnSlot s i new).journal = s.journal ∧ (State.downOnSlot s i new).link = s.link ∧
    (State.downOnSlot s i new).roster = s.roster ∧ (State.downOnSlot s i new).clock = s.clock ∧
    (State.downOnSlot s i new).config = s.config ∧ (State.downOnSlot s i new).pending = s.pending := by
  unfold State.downOnSlot
  (repeat' split) <;> simp

@[simp] theorem State.watchOnSlot_frame (s : State) (i : SlotId) (new : SlotState) :
    (State.watchOnSlot s i new).tree = s.tree ∧ (State.watchOnSlot s i new).enrol = s.enrol ∧
    (State.watchOnSlot s i new).sched = s.sched ∧ (State.watchOnSlot s i new).down = s.down ∧
    (State.watchOnSlot s i new).meter = s.meter ∧ (State.watchOnSlot s i new).journal = s.journal ∧
    (State.watchOnSlot s i new).link = s.link ∧ (State.watchOnSlot s i new).roster = s.roster ∧
    (State.watchOnSlot s i new).clock = s.clock ∧ (State.watchOnSlot s i new).config = s.config ∧
    (State.watchOnSlot s i new).pending = s.pending := by
  unfold State.watchOnSlot
  (repeat' split) <;> simp

@[simp] theorem State.meterOnSlot_frame (s : State) (i : SlotId) (fresh : Bool) (new : SlotState) :
    (State.meterOnSlot s i fresh new).tree = s.tree ∧ (State.meterOnSlot s i fresh new).home = s.home ∧
    (State.meterOnSlot s i fresh new).enrol = s.enrol ∧ (State.meterOnSlot s i fresh new).sched = s.sched ∧
    (State.meterOnSlot s i fresh new).down = s.down ∧ (State.meterOnSlot s i fresh new).watch = s.watch ∧
    (State.meterOnSlot s i fresh new).journal = s.journal ∧ (State.meterOnSlot s i fresh new).link = s.link ∧
    (State.meterOnSlot s i fresh new).roster = s.roster ∧ (State.meterOnSlot s i fresh new).clock = s.clock ∧
    (State.meterOnSlot s i fresh new).config = s.config ∧ (State.meterOnSlot s i fresh new).pending = s.pending := by
  unfold State.meterOnSlot
  (repeat' split) <;> simp

@[simp] theorem State.rosterOnSlot_frame (s : State) (i : SlotId) (fresh : Bool) (new : SlotState) :
    (State.rosterOnSlot s i fresh new).tree = s.tree ∧ (State.rosterOnSlot s i fresh new).home = s.home ∧
    (State.rosterOnSlot s i fresh new).enrol = s.enrol ∧ (State.rosterOnSlot s i fresh new).sched = s.sched ∧
    (State.rosterOnSlot s i fresh new).down = s.down ∧ (State.rosterOnSlot s i fresh new).watch = s.watch ∧
    (State.rosterOnSlot s i fresh new).meter = s.meter ∧ (State.rosterOnSlot s i fresh new).journal = s.journal ∧
    (State.rosterOnSlot s i fresh new).link = s.link ∧ (State.rosterOnSlot s i fresh new).clock = s.clock ∧
    (State.rosterOnSlot s i fresh new).config = s.config ∧ (State.rosterOnSlot s i fresh new).pending = s.pending := by
  unfold State.rosterOnSlot
  (repeat' split) <;> simp

@[simp] theorem State.announce_frame (s : State) (i : SlotId) (old : SlotState) (fresh : Bool) :
    (State.announce s i old fresh).journal = s.journal ∧ (State.announce s i old fresh).link = s.link ∧
    (State.announce s i old fresh).clock = s.clock ∧ (State.announce s i old fresh).config = s.config ∧
    (State.announce s i old fresh).pending = s.pending := by
  simp only [State.announce]
  (repeat' split) <;> simp

@[simp] theorem State.enter_frame (s : State) (i : SlotId) (f : SlotRecord → SlotRecord) :
    (State.enter s i f).journal = s.journal ∧ (State.enter s i f).link = s.link ∧
    (State.enter s i f).clock = s.clock ∧ (State.enter s i f).config = s.config ∧
    (State.enter s i f).pending = s.pending := by
  unfold State.enter
  simp

@[simp] theorem State.offerRelease_frame (s : State) (i : SlotId) (g : Gen) :
    (State.offerRelease s i g).enrol = s.enrol ∧ (State.offerRelease s i g).sched = s.sched ∧
    (State.offerRelease s i g).down = s.down ∧ (State.offerRelease s i g).watch = s.watch ∧
    (State.offerRelease s i g).meter = s.meter ∧ (State.offerRelease s i g).journal = s.journal ∧
    (State.offerRelease s i g).link = s.link ∧ (State.offerRelease s i g).roster = s.roster ∧
    (State.offerRelease s i g).clock = s.clock ∧ (State.offerRelease s i g).config = s.config ∧
    (State.offerRelease s i g).pending = s.pending := by
  simp only [State.offerRelease]
  (repeat' split) <;> simp

@[simp] theorem State.releaseHome_frame (s : State) (i : SlotId) :
    (State.releaseHome s i).enrol = s.enrol ∧ (State.releaseHome s i).sched = s.sched ∧
    (State.releaseHome s i).down = s.down ∧ (State.releaseHome s i).watch = s.watch ∧
    (State.releaseHome s i).meter = s.meter ∧ (State.releaseHome s i).journal = s.journal ∧
    (State.releaseHome s i).link = s.link ∧ (State.releaseHome s i).roster = s.roster ∧
    (State.releaseHome s i).clock = s.clock ∧ (State.releaseHome s i).config = s.config ∧
    (State.releaseHome s i).pending = s.pending := by
  unfold State.releaseHome
  simp

@[simp] theorem State.offerSever_frame (s : State) (i : SlotId) (g : Gen) (x : Serial) :
    (State.offerSever s i g x).enrol = s.enrol ∧ (State.offerSever s i g x).sched = s.sched ∧
    (State.offerSever s i g x).down = s.down ∧ (State.offerSever s i g x).watch = s.watch ∧
    (State.offerSever s i g x).meter = s.meter ∧ (State.offerSever s i g x).journal = s.journal ∧
    (State.offerSever s i g x).link = s.link ∧ (State.offerSever s i g x).roster = s.roster ∧
    (State.offerSever s i g x).clock = s.clock ∧ (State.offerSever s i g x).config = s.config ∧
    (State.offerSever s i g x).pending = s.pending := by
  simp only [State.offerSever]
  (repeat' split) <;> simp

@[simp] theorem State.severAgain_frame (s : State) (i : SlotId) :
    (State.severAgain s i).enrol = s.enrol ∧ (State.severAgain s i).sched = s.sched ∧
    (State.severAgain s i).down = s.down ∧ (State.severAgain s i).watch = s.watch ∧
    (State.severAgain s i).meter = s.meter ∧ (State.severAgain s i).journal = s.journal ∧
    (State.severAgain s i).link = s.link ∧ (State.severAgain s i).roster = s.roster ∧
    (State.severAgain s i).clock = s.clock ∧ (State.severAgain s i).config = s.config ∧
    (State.severAgain s i).pending = s.pending := by
  unfold State.severAgain
  (repeat' split) <;> simp

@[simp] theorem State.quarantineLocal_frame (s : State) (x : Serial) (reason : BarReason) :
    (State.quarantineLocal s x reason).tree = s.tree ∧ (State.quarantineLocal s x reason).home = s.home ∧
    (State.quarantineLocal s x reason).enrol = s.enrol ∧ (State.quarantineLocal s x reason).sched = s.sched ∧
    (State.quarantineLocal s x reason).down = s.down ∧ (State.quarantineLocal s x reason).watch = s.watch ∧
    (State.quarantineLocal s x reason).meter = s.meter ∧ (State.quarantineLocal s x reason).journal = s.journal ∧
    (State.quarantineLocal s x reason).link = s.link ∧ (State.quarantineLocal s x reason).clock = s.clock ∧
    (State.quarantineLocal s x reason).config = s.config ∧ (State.quarantineLocal s x reason).pending = s.pending := by
  unfold State.quarantineLocal
  simp

@[simp] theorem State.freeSlot_frame (s : State) (i : SlotId) :
    (State.freeSlot s i).journal = s.journal ∧ (State.freeSlot s i).link = s.link ∧
    (State.freeSlot s i).clock = s.clock ∧ (State.freeSlot s i).config = s.config ∧
    (State.freeSlot s i).pending = s.pending := by
  simp only [State.freeSlot]
  (repeat' split) <;> simp

@[simp] theorem State.abandonAssignment_frame (s : State) (i : SlotId) :
    (State.abandonAssignment s i).journal = s.journal ∧ (State.abandonAssignment s i).link = s.link ∧
    (State.abandonAssignment s i).clock = s.clock ∧ (State.abandonAssignment s i).config = s.config ∧
    (State.abandonAssignment s i).pending = s.pending := by
  unfold State.abandonAssignment
  simp

@[simp] theorem State.closeSlot_frame (s : State) (i : SlotId) (reason : CloseReason) :
    (State.closeSlot s i reason).journal = s.journal ∧ (State.closeSlot s i reason).link = s.link ∧
    (State.closeSlot s i reason).clock = s.clock ∧ (State.closeSlot s i reason).config = s.config ∧
    (State.closeSlot s i reason).pending = s.pending := by
  unfold State.closeSlot
  simp

@[simp] theorem State.loseSlot_frame (s : State) (i : SlotId) :
    (State.loseSlot s i).journal = s.journal ∧ (State.loseSlot s i).link = s.link ∧
    (State.loseSlot s i).clock = s.clock ∧ (State.loseSlot s i).config = s.config ∧
    (State.loseSlot s i).pending = s.pending := by
  simp only [State.loseSlot]
  (repeat' split) <;> simp

@[simp] theorem State.barSlot_frame (s : State) (i : SlotId) (reason : BarReason) :
    (State.barSlot s i reason).journal = s.journal ∧ (State.barSlot s i reason).clock = s.clock ∧
    (State.barSlot s i reason).config = s.config ∧ (State.barSlot s i reason).pending = s.pending := by
  unfold State.barSlot
  simp

@[simp] theorem State.barRequest_frame (s : State) (i : SlotId) (g : Gen) (reason : BarReason) :
    (State.barRequest s i g reason).journal = s.journal ∧ (State.barRequest s i g reason).clock = s.clock ∧
    (State.barRequest s i g reason).config = s.config ∧ (State.barRequest s i g reason).pending = s.pending := by
  unfold State.barRequest
  (repeat' split) <;> simp

@[simp] theorem State.assignSlot_frame (s : State) (i : SlotId) (a : Assignment) :
    (State.assignSlot s i a).1.journal = s.journal ∧ (State.assignSlot s i a).1.link = s.link ∧
    (State.assignSlot s i a).1.clock = s.clock ∧ (State.assignSlot s i a).1.config = s.config ∧
    (State.assignSlot s i a).1.pending = s.pending := by
  unfold State.assignSlot
  (repeat' split) <;> simp

@[simp] theorem State.rejoinSlot_frame (s : State) (i : SlotId) (x : Serial) (rtd : Half) :
    (State.rejoinSlot s i x rtd).1.journal = s.journal ∧ (State.rejoinSlot s i x rtd).1.link = s.link ∧
    (State.rejoinSlot s i x rtd).1.clock = s.clock ∧ (State.rejoinSlot s i x rtd).1.config = s.config ∧
    (State.rejoinSlot s i x rtd).1.pending = s.pending := by
  unfold State.rejoinSlot
  (repeat' split) <;> simp

@[simp] theorem State.echoGood_frame (s : State) (i : SlotId) (g : Gen) (rtd : Half) (n : Round) :
    (State.echoGood s i g rtd n).journal = s.journal ∧ (State.echoGood s i g rtd n).link = s.link ∧
    (State.echoGood s i g rtd n).clock = s.clock ∧ (State.echoGood s i g rtd n).config = s.config ∧
    (State.echoGood s i g rtd n).pending = s.pending := by
  unfold State.echoGood
  (repeat' split) <;> simp

@[simp] theorem State.echoFailed_frame (s : State) (i : SlotId) (g : Gen) :
    (State.echoFailed s i g).journal = s.journal ∧ (State.echoFailed s i g).link = s.link ∧
    (State.echoFailed s i g).clock = s.clock ∧ (State.echoFailed s i g).config = s.config ∧
    (State.echoFailed s i g).pending = s.pending := by
  unfold State.echoFailed
  (repeat' split) <;> simp

@[simp] theorem State.countGarbled_frame (s : State) (i : SlotId) (c : BurstClass) :
    (State.countGarbled s i c).tree = s.tree ∧ (State.countGarbled s i c).home = s.home ∧
    (State.countGarbled s i c).sched = s.sched ∧ (State.countGarbled s i c).down = s.down ∧
    (State.countGarbled s i c).watch = s.watch ∧ (State.countGarbled s i c).meter = s.meter ∧
    (State.countGarbled s i c).journal = s.journal ∧ (State.countGarbled s i c).link = s.link ∧
    (State.countGarbled s i c).roster = s.roster ∧ (State.countGarbled s i c).clock = s.clock ∧
    (State.countGarbled s i c).config = s.config ∧ (State.countGarbled s i c).pending = s.pending := by
  simp only [State.countGarbled]
  (repeat' split) <;> simp

@[simp] theorem State.activeBurst_frame (s : State) (i : SlotId) (c : BurstClass) (n : Round) :
    (State.activeBurst s i c n).journal = s.journal ∧ (State.activeBurst s i c n).link = s.link ∧
    (State.activeBurst s i c n).clock = s.clock ∧ (State.activeBurst s i c n).config = s.config ∧
    (State.activeBurst s i c n).pending = s.pending := by
  simp only [State.activeBurst]
  (repeat' split) <;> simp

@[simp] theorem State.applyClass_frame (s : State) (i : SlotId) (g : Gen) (c : BurstClass) (n : Round) :
    (State.applyClass s i g c n).journal = s.journal ∧ (State.applyClass s i g c n).link = s.link ∧
    (State.applyClass s i g c n).clock = s.clock ∧ (State.applyClass s i g c n).config = s.config ∧
    (State.applyClass s i g c n).pending = s.pending := by
  unfold State.applyClass
  (repeat' split) <;> simp

@[simp] theorem State.cloneSlot_frame (s : State) (i : SlotId) (station : Byte) :
    (State.cloneSlot s i station).journal = s.journal ∧ (State.cloneSlot s i station).clock = s.clock ∧
    (State.cloneSlot s i station).config = s.config ∧ (State.cloneSlot s i station).pending = s.pending := by
  unfold State.cloneSlot
  simp

@[simp] theorem State.applyDecision_frame (s : State) (d : Decision) :
    (State.applyDecision s d).journal = s.journal ∧ (State.applyDecision s d).clock = s.clock ∧
    (State.applyDecision s d).config = s.config ∧ (State.applyDecision s d).pending = s.pending := by
  unfold State.applyDecision
  (repeat' split) <;> simp

@[simp] theorem State.derollSlot_frame (s : State) (i : SlotId) :
    (State.derollSlot s i).journal = s.journal ∧ (State.derollSlot s i).link = s.link ∧
    (State.derollSlot s i).clock = s.clock ∧ (State.derollSlot s i).config = s.config ∧
    (State.derollSlot s i).pending = s.pending := by
  unfold State.derollSlot
  (repeat' split) <;> simp

/-! ### Machine/Exchange.lean -/

@[simp] theorem State.askSpan_frame (s : State) (i : SlotId) :
    (State.askSpan s i).tree = s.tree ∧ (State.askSpan s i).home = s.home ∧ (State.askSpan s i).down = s.down ∧
    (State.askSpan s i).watch = s.watch ∧ (State.askSpan s i).meter = s.meter ∧
    (State.askSpan s i).journal = s.journal ∧ (State.askSpan s i).link = s.link ∧
    (State.askSpan s i).roster = s.roster ∧ (State.askSpan s i).clock = s.clock ∧
    (State.askSpan s i).config = s.config ∧ (State.askSpan s i).pending = s.pending := by
  simp only [State.askSpan]
  (repeat' split) <;> simp

@[simp] theorem State.offerExchange_frame (s : State) (i : SlotId) :
    (State.offerExchange s i).home = s.home ∧ (State.offerExchange s i).down = s.down ∧
    (State.offerExchange s i).watch = s.watch ∧ (State.offerExchange s i).meter = s.meter ∧
    (State.offerExchange s i).journal = s.journal ∧ (State.offerExchange s i).link = s.link ∧
    (State.offerExchange s i).roster = s.roster ∧ (State.offerExchange s i).clock = s.clock ∧
    (State.offerExchange s i).config = s.config ∧ (State.offerExchange s i).pending = s.pending := by
  simp only [State.offerExchange]
  (repeat' split) <;> simp

@[simp] theorem State.startExchange_frame (s : State) (i : SlotId) (p : EchoPurpose) :
    (State.startExchange s i p).home = s.home ∧ (State.startExchange s i p).down = s.down ∧
    (State.startExchange s i p).watch = s.watch ∧ (State.startExchange s i p).meter = s.meter ∧
    (State.startExchange s i p).journal = s.journal ∧ (State.startExchange s i p).link = s.link ∧
    (State.startExchange s i p).roster = s.roster ∧ (State.startExchange s i p).clock = s.clock ∧
    (State.startExchange s i p).config = s.config ∧ (State.startExchange s i p).pending = s.pending := by
  unfold State.startExchange
  (repeat' split) <;> simp

@[simp] theorem State.askAgain_frame (s : State) (i : SlotId) :
    (State.askAgain s i).tree = s.tree ∧ (State.askAgain s i).home = s.home ∧ (State.askAgain s i).down = s.down ∧
    (State.askAgain s i).watch = s.watch ∧ (State.askAgain s i).meter = s.meter ∧
    (State.askAgain s i).journal = s.journal ∧ (State.askAgain s i).link = s.link ∧
    (State.askAgain s i).roster = s.roster ∧ (State.askAgain s i).clock = s.clock ∧
    (State.askAgain s i).config = s.config ∧ (State.askAgain s i).pending = s.pending := by
  unfold State.askAgain
  simp

@[simp] theorem State.echoAnswered_frame (s : State) (i : SlotId) (rtd : Int) (n : Round) :
    (State.echoAnswered s i rtd n).journal = s.journal ∧ (State.echoAnswered s i rtd n).link = s.link ∧
    (State.echoAnswered s i rtd n).clock = s.clock ∧ (State.echoAnswered s i rtd n).config = s.config ∧
    (State.echoAnswered s i rtd n).pending = s.pending := by
  unfold State.echoAnswered
  simp

@[simp] theorem State.echoMissed_frame (s : State) (i : SlotId) (p : EchoPurpose) (n : Round) :
    (State.echoMissed s i p n).journal = s.journal ∧ (State.echoMissed s i p n).link = s.link ∧
    (State.echoMissed s i p n).clock = s.clock ∧ (State.echoMissed s i p n).config = s.config ∧
    (State.echoMissed s i p n).pending = s.pending := by
  simp only [State.echoMissed]
  (repeat' split) <;> simp

@[simp] theorem State.ruleEcho_frame (s : State) (span : EchoSpan) (n : Round) :
    (State.ruleEcho s span n).journal = s.journal ∧ (State.ruleEcho s span n).link = s.link ∧
    (State.ruleEcho s span n).clock = s.clock ∧ (State.ruleEcho s span n).config = s.config ∧
    (State.ruleEcho s span n).pending = s.pending := by
  simp only [State.ruleEcho]
  (repeat' split) <;> simp

@[simp] theorem State.offerHoldoff_frame (s : State) (i : SlotId) :
    (State.offerHoldoff s i).home = s.home ∧ (State.offerHoldoff s i).sched = s.sched ∧
    (State.offerHoldoff s i).down = s.down ∧ (State.offerHoldoff s i).watch = s.watch ∧
    (State.offerHoldoff s i).meter = s.meter ∧ (State.offerHoldoff s i).journal = s.journal ∧
    (State.offerHoldoff s i).link = s.link ∧ (State.offerHoldoff s i).roster = s.roster ∧
    (State.offerHoldoff s i).clock = s.clock ∧ (State.offerHoldoff s i).config = s.config ∧
    (State.offerHoldoff s i).pending = s.pending := by
  simp only [State.offerHoldoff]
  (repeat' split) <;> simp

@[simp] theorem State.reecho_frame (s : State) (i : SlotId) :
    (State.reecho s i).home = s.home ∧ (State.reecho s i).down = s.down ∧ (State.reecho s i).watch = s.watch ∧
    (State.reecho s i).meter = s.meter ∧ (State.reecho s i).journal = s.journal ∧
    (State.reecho s i).link = s.link ∧ (State.reecho s i).roster = s.roster ∧ (State.reecho s i).clock = s.clock ∧
    (State.reecho s i).config = s.config ∧ (State.reecho s i).pending = s.pending := by
  unfold State.reecho
  (repeat' split) <;> simp

@[simp] theorem State.startPending_frame (s : State) (i : SlotId) :
    (State.startPending s i).home = s.home ∧ (State.startPending s i).down = s.down ∧
    (State.startPending s i).watch = s.watch ∧ (State.startPending s i).meter = s.meter ∧
    (State.startPending s i).journal = s.journal ∧ (State.startPending s i).link = s.link ∧
    (State.startPending s i).roster = s.roster ∧ (State.startPending s i).clock = s.clock ∧
    (State.startPending s i).config = s.config ∧ (State.startPending s i).pending = s.pending := by
  unfold State.startPending
  (repeat' split) <;> simp

@[simp] theorem State.beginRoll_frame (s : State) (cause : RollCause) :
    (State.beginRoll s cause).tree = s.tree ∧ (State.beginRoll s cause).home = s.home ∧
    (State.beginRoll s cause).sched = s.sched ∧ (State.beginRoll s cause).down = s.down ∧
    (State.beginRoll s cause).watch = s.watch ∧ (State.beginRoll s cause).meter = s.meter ∧
    (State.beginRoll s cause).journal = s.journal ∧ (State.beginRoll s cause).link = s.link ∧
    (State.beginRoll s cause).roster = s.roster ∧ (State.beginRoll s cause).clock = s.clock ∧
    (State.beginRoll s cause).config = s.config ∧ (State.beginRoll s cause).pending = s.pending := by
  unfold State.beginRoll
  simp

@[simp] theorem State.offerRoll_frame (s : State) :
    (State.offerRoll s).home = s.home ∧ (State.offerRoll s).down = s.down ∧ (State.offerRoll s).watch = s.watch ∧
    (State.offerRoll s).meter = s.meter ∧ (State.offerRoll s).journal = s.journal ∧
    (State.offerRoll s).link = s.link ∧ (State.offerRoll s).roster = s.roster ∧
    (State.offerRoll s).clock = s.clock ∧ (State.offerRoll s).config = s.config ∧
    (State.offerRoll s).pending = s.pending := by
  simp only [State.offerRoll]
  (repeat' split) <;> simp

@[simp] theorem State.askRollAgain_frame (s : State) :
    (State.askRollAgain s).tree = s.tree ∧ (State.askRollAgain s).home = s.home ∧
    (State.askRollAgain s).enrol = s.enrol ∧ (State.askRollAgain s).down = s.down ∧
    (State.askRollAgain s).watch = s.watch ∧ (State.askRollAgain s).meter = s.meter ∧
    (State.askRollAgain s).journal = s.journal ∧ (State.askRollAgain s).link = s.link ∧
    (State.askRollAgain s).roster = s.roster ∧ (State.askRollAgain s).clock = s.clock ∧
    (State.askRollAgain s).config = s.config ∧ (State.askRollAgain s).pending = s.pending := by
  unfold State.askRollAgain
  (repeat' split) <;> simp

/-! ### Machine/Closes.lean -/

@[simp] theorem State.finishClose_frame (s : State) (i : SlotId) :
    (State.finishClose s i).clock = s.clock ∧ (State.finishClose s i).config = s.config ∧
    (State.finishClose s i).pending = s.pending := by
  simp only [State.finishClose]
  (repeat' split) <;> simp

@[simp] theorem State.finalRequest_frame (s : State) (i : SlotId) (g : Gen) (reason : CloseReason) (mark : Seq) :
    (State.finalRequest s i g reason mark).tree = s.tree ∧ (State.finalRequest s i g reason mark).home = s.home ∧
    (State.finalRequest s i g reason mark).enrol = s.enrol ∧
    (State.finalRequest s i g reason mark).sched = s.sched ∧ (State.finalRequest s i g reason mark).down = s.down ∧
    (State.finalRequest s i g reason mark).watch = s.watch ∧
    (State.finalRequest s i g reason mark).journal = s.journal ∧
    (State.finalRequest s i g reason mark).link = s.link ∧
    (State.finalRequest s i g reason mark).roster = s.roster ∧
    (State.finalRequest s i g reason mark).clock = s.clock ∧
    (State.finalRequest s i g reason mark).config = s.config ∧
    (State.finalRequest s i g reason mark).pending = s.pending := by
  unfold State.finalRequest
  (repeat' split) <;> simp

@[simp] theorem State.flushDone_frame (s : State) (i : SlotId) (g : Gen) :
    (State.flushDone s i g).tree = s.tree ∧ (State.flushDone s i g).home = s.home ∧
    (State.flushDone s i g).enrol = s.enrol ∧ (State.flushDone s i g).sched = s.sched ∧
    (State.flushDone s i g).down = s.down ∧ (State.flushDone s i g).watch = s.watch ∧
    (State.flushDone s i g).journal = s.journal ∧ (State.flushDone s i g).link = s.link ∧
    (State.flushDone s i g).roster = s.roster ∧ (State.flushDone s i g).clock = s.clock ∧
    (State.flushDone s i g).config = s.config ∧ (State.flushDone s i g).pending = s.pending := by
  unfold State.flushDone
  (repeat' split) <;> simp

@[simp] theorem State.serveClose_frame (s : State) (i : SlotId) :
    (State.serveClose s i).clock = s.clock ∧ (State.serveClose s i).config = s.config ∧
    (State.serveClose s i).pending = s.pending := by
  unfold State.serveClose
  (repeat' split) <;> simp

@[simp] theorem State.entriesFreed_frame (s : State) :
    (State.entriesFreed s).clock = s.clock ∧ (State.entriesFreed s).config = s.config ∧
    (State.entriesFreed s).pending = s.pending := by
  unfold State.entriesFreed
  simp

@[simp] theorem State.intervalClose_frame (s : State) (i : SlotId) :
    (State.intervalClose s i).tree = s.tree ∧ (State.intervalClose s i).home = s.home ∧
    (State.intervalClose s i).enrol = s.enrol ∧ (State.intervalClose s i).sched = s.sched ∧
    (State.intervalClose s i).down = s.down ∧ (State.intervalClose s i).watch = s.watch ∧
    (State.intervalClose s i).roster = s.roster ∧ (State.intervalClose s i).clock = s.clock ∧
    (State.intervalClose s i).config = s.config ∧ (State.intervalClose s i).pending = s.pending := by
  simp only [State.intervalClose]
  (repeat' split) <;> simp

@[simp] theorem State.profileClose_frame (s : State) (i : SlotId) (g : Gen) :
    (State.profileClose s i g).1.tree = s.tree ∧ (State.profileClose s i g).1.home = s.home ∧
    (State.profileClose s i g).1.enrol = s.enrol ∧ (State.profileClose s i g).1.sched = s.sched ∧
    (State.profileClose s i g).1.down = s.down ∧ (State.profileClose s i g).1.watch = s.watch ∧
    (State.profileClose s i g).1.roster = s.roster ∧ (State.profileClose s i g).1.clock = s.clock ∧
    (State.profileClose s i g).1.config = s.config ∧ (State.profileClose s i g).1.pending = s.pending := by
  simp only [State.profileClose]
  (repeat' split) <;> simp

@[simp] theorem State.flushQueue_frame (s : State) (i : SlotId) (g : Gen) :
    (State.flushQueue s i g).tree = s.tree ∧ (State.flushQueue s i g).home = s.home ∧
    (State.flushQueue s i g).enrol = s.enrol ∧ (State.flushQueue s i g).sched = s.sched ∧
    (State.flushQueue s i g).watch = s.watch ∧ (State.flushQueue s i g).journal = s.journal ∧
    (State.flushQueue s i g).link = s.link ∧ (State.flushQueue s i g).roster = s.roster ∧
    (State.flushQueue s i g).clock = s.clock ∧ (State.flushQueue s i g).config = s.config ∧
    (State.flushQueue s i g).pending = s.pending := by
  simp only [State.flushQueue]
  (repeat' split) <;> simp

/-! ### Machine/Enrolment.lean -/

@[simp] theorem State.stranger_frame (s : State) (x : Serial) (reason : StrangerReason) :
    (State.stranger s x reason).tree = s.tree ∧ (State.stranger s x reason).home = s.home ∧
    (State.stranger s x reason).sched = s.sched ∧ (State.stranger s x reason).down = s.down ∧
    (State.stranger s x reason).watch = s.watch ∧ (State.stranger s x reason).meter = s.meter ∧
    (State.stranger s x reason).journal = s.journal ∧ (State.stranger s x reason).roster = s.roster ∧
    (State.stranger s x reason).clock = s.clock ∧ (State.stranger s x reason).config = s.config ∧
    (State.stranger s x reason).pending = s.pending := by
  unfold State.stranger
  (repeat' split) <;> simp

@[simp] theorem State.newAssignment_frame (s : State) (i : SlotId) (x : Serial) (p : Fin 8) (rtd : Half) :
    (State.newAssignment s i x p rtd).journal = s.journal ∧ (State.newAssignment s i x p rtd).link = s.link ∧
    (State.newAssignment s i x p rtd).clock = s.clock ∧ (State.newAssignment s i x p rtd).config = s.config ∧
    (State.newAssignment s i x p rtd).pending = s.pending := by
  simp only [State.newAssignment]
  (repeat' split) <;> simp

@[simp] theorem State.checkFarFullNew_frame (s : State) (x : Serial) (p : Fin 8) (rtd : Int) :
    (State.checkFarFullNew s x p rtd).journal = s.journal ∧ (State.checkFarFullNew s x p rtd).clock = s.clock ∧
    (State.checkFarFullNew s x p rtd).config = s.config ∧ (State.checkFarFullNew s x p rtd).pending = s.pending := by
  unfold State.checkFarFullNew
  (repeat' split) <;> simp

@[simp] theorem State.checkRejoin_frame (s : State) (i : SlotId) (x : Serial) (rtd : Int) :
    (State.checkRejoin s i x rtd).journal = s.journal ∧ (State.checkRejoin s i x rtd).clock = s.clock ∧
    (State.checkRejoin s i x rtd).config = s.config ∧ (State.checkRejoin s i x rtd).pending = s.pending := by
  simp only [State.checkRejoin]
  (repeat' split) <;> simp

@[simp] theorem State.candidate_frame (s : State) (x : Serial) (rtd : Int) :
    (State.candidate s x rtd).journal = s.journal ∧ (State.candidate s x rtd).clock = s.clock ∧
    (State.candidate s x rtd).config = s.config ∧ (State.candidate s x rtd).pending = s.pending := by
  unfold State.candidate
  (repeat' split) <;> simp

@[simp] theorem State.clearLatch_frame (s : State) :
    (State.clearLatch s).home = s.home ∧ (State.clearLatch s).enrol = s.enrol ∧ (State.clearLatch s).sched = s.sched ∧
    (State.clearLatch s).down = s.down ∧ (State.clearLatch s).watch = s.watch ∧ (State.clearLatch s).meter = s.meter ∧
    (State.clearLatch s).journal = s.journal ∧ (State.clearLatch s).link = s.link ∧
    (State.clearLatch s).roster = s.roster ∧ (State.clearLatch s).clock = s.clock ∧
    (State.clearLatch s).config = s.config ∧ (State.clearLatch s).pending = s.pending := by
  unfold State.clearLatch
  simp

@[simp] theorem State.echoAnswer_frame (s : State) (rx : AnswerRx) (a : Identity) (e : EchoSpan) (n : Round) :
    (State.echoAnswer s rx a e n).home = s.home ∧ (State.echoAnswer s rx a e n).sched = s.sched ∧
    (State.echoAnswer s rx a e n).down = s.down ∧ (State.echoAnswer s rx a e n).watch = s.watch ∧
    (State.echoAnswer s rx a e n).meter = s.meter ∧ (State.echoAnswer s rx a e n).journal = s.journal ∧
    (State.echoAnswer s rx a e n).link = s.link ∧ (State.echoAnswer s rx a e n).roster = s.roster ∧
    (State.echoAnswer s rx a e n).clock = s.clock ∧ (State.echoAnswer s rx a e n).config = s.config ∧
    (State.echoAnswer s rx a e n).pending = s.pending := by
  simp only [State.echoAnswer]
  simp

@[simp] theorem State.noteRollLight_frame (s : State) (light : Bool) :
    (State.noteRollLight s light).tree = s.tree ∧ (State.noteRollLight s light).home = s.home ∧
    (State.noteRollLight s light).sched = s.sched ∧ (State.noteRollLight s light).down = s.down ∧
    (State.noteRollLight s light).watch = s.watch ∧ (State.noteRollLight s light).meter = s.meter ∧
    (State.noteRollLight s light).journal = s.journal ∧ (State.noteRollLight s light).link = s.link ∧
    (State.noteRollLight s light).roster = s.roster ∧ (State.noteRollLight s light).clock = s.clock ∧
    (State.noteRollLight s light).config = s.config ∧ (State.noteRollLight s light).pending = s.pending := by
  unfold State.noteRollLight
  simp

@[simp] theorem State.rollAnswer_frame (s : State) (rx : AnswerRx) (a : Identity) (n m : Round) :
    (State.rollAnswer s rx a n m).journal = s.journal ∧ (State.rollAnswer s rx a n m).clock = s.clock ∧
    (State.rollAnswer s rx a n m).config = s.config ∧ (State.rollAnswer s rx a n m).pending = s.pending := by
  simp only [State.rollAnswer]
  simp

@[simp] theorem State.writeEntry_frame (s : State) (e : ProvisionEntry) :
    (State.writeEntry s e).tree = s.tree ∧ (State.writeEntry s e).home = s.home ∧
    (State.writeEntry s e).sched = s.sched ∧ (State.writeEntry s e).down = s.down ∧
    (State.writeEntry s e).watch = s.watch ∧ (State.writeEntry s e).meter = s.meter ∧
    (State.writeEntry s e).journal = s.journal ∧ (State.writeEntry s e).link = s.link ∧
    (State.writeEntry s e).roster = s.roster ∧ (State.writeEntry s e).clock = s.clock ∧
    (State.writeEntry s e).config = s.config ∧ (State.writeEntry s e).pending = s.pending := by
  unfold State.writeEntry
  simp

@[simp] theorem State.changeProfile_frame (s : State) (i : SlotId) (p : Fin 8) :
    (State.changeProfile s i p).tree = s.tree ∧ (State.changeProfile s i p).enrol = s.enrol ∧
    (State.changeProfile s i p).sched = s.sched ∧ (State.changeProfile s i p).down = s.down ∧
    (State.changeProfile s i p).watch = s.watch ∧ (State.changeProfile s i p).journal = s.journal ∧
    (State.changeProfile s i p).link = s.link ∧ (State.changeProfile s i p).roster = s.roster ∧
    (State.changeProfile s i p).clock = s.clock ∧ (State.changeProfile s i p).config = s.config ∧
    (State.changeProfile s i p).pending = s.pending := by
  simp only [State.changeProfile]
  (repeat' split) <;> simp

@[simp] theorem State.changeHeld_frame (s : State) (c : RxCommand) (i : SlotId) (e : ProvisionEntry) :
    (State.changeHeld s c i e).tree = s.tree ∧ (State.changeHeld s c i e).sched = s.sched ∧
    (State.changeHeld s c i e).down = s.down ∧ (State.changeHeld s c i e).watch = s.watch ∧
    (State.changeHeld s c i e).roster = s.roster ∧ (State.changeHeld s c i e).clock = s.clock ∧
    (State.changeHeld s c i e).config = s.config ∧ (State.changeHeld s c i e).pending = s.pending := by
  unfold State.changeHeld
  (repeat' split) <;> simp

@[simp] theorem State.provisionKnown_frame (s : State) (c : RxCommand) (o e : ProvisionEntry) :
    (State.provisionKnown s c o e).tree = s.tree ∧ (State.provisionKnown s c o e).sched = s.sched ∧
    (State.provisionKnown s c o e).down = s.down ∧ (State.provisionKnown s c o e).watch = s.watch ∧
    (State.provisionKnown s c o e).roster = s.roster ∧ (State.provisionKnown s c o e).clock = s.clock ∧
    (State.provisionKnown s c o e).config = s.config ∧ (State.provisionKnown s c o e).pending = s.pending := by
  unfold State.provisionKnown
  (repeat' split) <;> simp

@[simp] theorem State.provisionBy_frame (s : State) (c : RxCommand) :
    (State.provisionBy s c).tree = s.tree ∧ (State.provisionBy s c).sched = s.sched ∧
    (State.provisionBy s c).down = s.down ∧ (State.provisionBy s c).watch = s.watch ∧
    (State.provisionBy s c).roster = s.roster ∧ (State.provisionBy s c).clock = s.clock ∧
    (State.provisionBy s c).config = s.config ∧ (State.provisionBy s c).pending = s.pending := by
  simp only [State.provisionBy]
  (repeat' split) <;> simp

@[simp] theorem State.applyClose_frame (s : State) (p : ProfileClose) :
    (State.applyClose s p).tree = s.tree ∧ (State.applyClose s p).sched = s.sched ∧
    (State.applyClose s p).down = s.down ∧ (State.applyClose s p).watch = s.watch ∧
    (State.applyClose s p).journal = s.journal ∧ (State.applyClose s p).roster = s.roster ∧
    (State.applyClose s p).clock = s.clock ∧ (State.applyClose s p).config = s.config ∧
    (State.applyClose s p).pending = s.pending := by
  simp only [State.applyClose]
  (repeat' split) <;> simp

/-! ### Machine/Grant.lean -/

@[simp] theorem State.reserveWindow_frame (s : State) (n : Round) (p : Spans) :
    (State.reserveWindow s n p).1.tree = s.tree ∧ (State.reserveWindow s n p).1.home = s.home ∧
    (State.reserveWindow s n p).1.enrol = s.enrol ∧ (State.reserveWindow s n p).1.down = s.down ∧
    (State.reserveWindow s n p).1.meter = s.meter ∧ (State.reserveWindow s n p).1.journal = s.journal ∧
    (State.reserveWindow s n p).1.link = s.link ∧ (State.reserveWindow s n p).1.roster = s.roster ∧
    (State.reserveWindow s n p).1.clock = s.clock ∧ (State.reserveWindow s n p).1.config = s.config ∧
    (State.reserveWindow s n p).1.pending = s.pending := by
  unfold State.reserveWindow
  (repeat' split) <;> simp

@[simp] theorem State.grantEcho_frame (n : Round) (r : State × Spans) :
    (State.grantEcho n r).1.home = r.1.home ∧ (State.grantEcho n r).1.down = r.1.down ∧
    (State.grantEcho n r).1.watch = r.1.watch ∧ (State.grantEcho n r).1.meter = r.1.meter ∧
    (State.grantEcho n r).1.journal = r.1.journal ∧ (State.grantEcho n r).1.link = r.1.link ∧
    (State.grantEcho n r).1.roster = r.1.roster ∧ (State.grantEcho n r).1.clock = r.1.clock ∧
    (State.grantEcho n r).1.config = r.1.config ∧ (State.grantEcho n r).1.pending = r.1.pending := by
  simp only [State.grantEcho]
  (repeat' split) <;> simp

@[simp] theorem State.rollUnbound_frame (s : State) :
    (State.rollUnbound s).tree = s.tree ∧ (State.rollUnbound s).home = s.home ∧
    (State.rollUnbound s).sched = s.sched ∧ (State.rollUnbound s).down = s.down ∧
    (State.rollUnbound s).watch = s.watch ∧ (State.rollUnbound s).meter = s.meter ∧
    (State.rollUnbound s).journal = s.journal ∧ (State.rollUnbound s).link = s.link ∧
    (State.rollUnbound s).roster = s.roster ∧ (State.rollUnbound s).clock = s.clock ∧
    (State.rollUnbound s).config = s.config ∧ (State.rollUnbound s).pending = s.pending := by
  unfold State.rollUnbound
  simp

@[simp] theorem State.grantRoll_frame (s : State) (n : Round) :
    (State.grantRoll s n).home = s.home ∧ (State.grantRoll s n).down = s.down ∧
    (State.grantRoll s n).watch = s.watch ∧ (State.grantRoll s n).meter = s.meter ∧
    (State.grantRoll s n).journal = s.journal ∧ (State.grantRoll s n).link = s.link ∧
    (State.grantRoll s n).roster = s.roster ∧ (State.grantRoll s n).clock = s.clock ∧
    (State.grantRoll s n).config = s.config ∧ (State.grantRoll s n).pending = s.pending := by
  simp only [State.grantRoll]
  (repeat' split) <;> simp

@[simp] theorem State.withdrawRoll_frame (s : State) :
    (State.withdrawRoll s).home = s.home ∧ (State.withdrawRoll s).enrol = s.enrol ∧
    (State.withdrawRoll s).down = s.down ∧ (State.withdrawRoll s).watch = s.watch ∧
    (State.withdrawRoll s).meter = s.meter ∧ (State.withdrawRoll s).journal = s.journal ∧
    (State.withdrawRoll s).link = s.link ∧ (State.withdrawRoll s).roster = s.roster ∧
    (State.withdrawRoll s).clock = s.clock ∧ (State.withdrawRoll s).config = s.config ∧
    (State.withdrawRoll s).pending = s.pending := by
  unfold State.withdrawRoll
  (repeat' split) <;> simp

@[simp] theorem State.passBindings_frame (s : State) (n : Round) :
    (State.passBindings s n).home = s.home ∧ (State.passBindings s n).down = s.down ∧
    (State.passBindings s n).watch = s.watch ∧ (State.passBindings s n).meter = s.meter ∧
    (State.passBindings s n).journal = s.journal ∧ (State.passBindings s n).link = s.link ∧
    (State.passBindings s n).roster = s.roster ∧ (State.passBindings s n).clock = s.clock ∧
    (State.passBindings s n).config = s.config ∧ (State.passBindings s n).pending = s.pending := by
  unfold State.passBindings
  (repeat' split) <;> simp

@[simp] theorem State.takeFill_frame (s : State) (i : SlotId) (g : Gen) (fill : Nat) (n : Round) :
    (State.takeFill s i g fill n).tree = s.tree ∧ (State.takeFill s i g fill n).home = s.home ∧
    (State.takeFill s i g fill n).enrol = s.enrol ∧ (State.takeFill s i g fill n).down = s.down ∧
    (State.takeFill s i g fill n).watch = s.watch ∧ (State.takeFill s i g fill n).meter = s.meter ∧
    (State.takeFill s i g fill n).journal = s.journal ∧ (State.takeFill s i g fill n).link = s.link ∧
    (State.takeFill s i g fill n).roster = s.roster ∧ (State.takeFill s i g fill n).clock = s.clock ∧
    (State.takeFill s i g fill n).config = s.config ∧ (State.takeFill s i g fill n).pending = s.pending := by
  unfold State.takeFill
  (repeat' split) <;> simp

@[simp] theorem State.buildPlan_frame (s : State) (n : Round) :
    (State.buildPlan s n).home = s.home ∧ (State.buildPlan s n).down = s.down ∧
    (State.buildPlan s n).meter = s.meter ∧ (State.buildPlan s n).journal = s.journal ∧
    (State.buildPlan s n).link = s.link ∧ (State.buildPlan s n).roster = s.roster ∧
    (State.buildPlan s n).clock = s.clock ∧ (State.buildPlan s n).config = s.config ∧
    (State.buildPlan s n).pending = s.pending := by
  unfold State.buildPlan
  (repeat' split) <;> simp

/-! ### Machine/Downstream.lean -/

@[simp] theorem State.enqueue_frame (s : State) (i : SlotId) (content : List Byte) :
    (State.enqueue s i content).tree = s.tree ∧ (State.enqueue s i content).home = s.home ∧
    (State.enqueue s i content).enrol = s.enrol ∧ (State.enqueue s i content).sched = s.sched ∧
    (State.enqueue s i content).watch = s.watch ∧ (State.enqueue s i content).meter = s.meter ∧
    (State.enqueue s i content).journal = s.journal ∧ (State.enqueue s i content).link = s.link ∧
    (State.enqueue s i content).roster = s.roster ∧ (State.enqueue s i content).clock = s.clock ∧
    (State.enqueue s i content).config = s.config ∧ (State.enqueue s i content).pending = s.pending := by
  unfold State.enqueue
  simp

@[simp] theorem State.dropPacket_frame (s : State) (i : SlotId) (content : List Byte) :
    (State.dropPacket s i content).tree = s.tree ∧ (State.dropPacket s i content).home = s.home ∧
    (State.dropPacket s i content).enrol = s.enrol ∧ (State.dropPacket s i content).sched = s.sched ∧
    (State.dropPacket s i content).down = s.down ∧ (State.dropPacket s i content).watch = s.watch ∧
    (State.dropPacket s i content).journal = s.journal ∧ (State.dropPacket s i content).link = s.link ∧
    (State.dropPacket s i content).roster = s.roster ∧ (State.dropPacket s i content).clock = s.clock ∧
    (State.dropPacket s i content).config = s.config ∧ (State.dropPacket s i content).pending = s.pending := by
  unfold State.dropPacket
  simp

@[simp] theorem State.setPointer_frame (s : State) (i : SlotId) :
    (State.setPointer s i).tree = s.tree ∧ (State.setPointer s i).home = s.home ∧
    (State.setPointer s i).enrol = s.enrol ∧ (State.setPointer s i).sched = s.sched ∧
    (State.setPointer s i).watch = s.watch ∧ (State.setPointer s i).meter = s.meter ∧
    (State.setPointer s i).journal = s.journal ∧ (State.setPointer s i).link = s.link ∧
    (State.setPointer s i).roster = s.roster ∧ (State.setPointer s i).clock = s.clock ∧
    (State.setPointer s i).config = s.config ∧ (State.setPointer s i).pending = s.pending := by
  unfold State.setPointer
  simp

@[simp] theorem State.openVisit_frame (s : State) (i : SlotId) :
    (State.openVisit s i).tree = s.tree ∧ (State.openVisit s i).home = s.home ∧
    (State.openVisit s i).enrol = s.enrol ∧ (State.openVisit s i).sched = s.sched ∧
    (State.openVisit s i).watch = s.watch ∧ (State.openVisit s i).meter = s.meter ∧
    (State.openVisit s i).journal = s.journal ∧ (State.openVisit s i).link = s.link ∧
    (State.openVisit s i).roster = s.roster ∧ (State.openVisit s i).clock = s.clock ∧
    (State.openVisit s i).config = s.config ∧ (State.openVisit s i).pending = s.pending := by
  unfold State.openVisit
  simp

@[simp] theorem State.takePacket_frame (s : State) (i : SlotId) (content : List Byte) (rest : List (List Byte)) :
    (State.takePacket s i content rest).tree = s.tree ∧ (State.takePacket s i content rest).home = s.home ∧
    (State.takePacket s i content rest).enrol = s.enrol ∧ (State.takePacket s i content rest).sched = s.sched ∧
    (State.takePacket s i content rest).watch = s.watch ∧ (State.takePacket s i content rest).journal = s.journal ∧
    (State.takePacket s i content rest).link = s.link ∧ (State.takePacket s i content rest).roster = s.roster ∧
    (State.takePacket s i content rest).clock = s.clock ∧ (State.takePacket s i content rest).config = s.config ∧
    (State.takePacket s i content rest).pending = s.pending := by
  unfold State.takePacket
  (repeat' split) <;> simp

@[simp] theorem State.visits_frame  (x0 : Nat) (x1 : Option SlotId) (x2 : Nat) (s : State) :
    (State.visits x0 x1 x2 s).1.tree = s.tree ∧ (State.visits x0 x1 x2 s).1.home = s.home ∧
    (State.visits x0 x1 x2 s).1.enrol = s.enrol ∧ (State.visits x0 x1 x2 s).1.sched = s.sched ∧
    (State.visits x0 x1 x2 s).1.watch = s.watch ∧ (State.visits x0 x1 x2 s).1.journal = s.journal ∧
    (State.visits x0 x1 x2 s).1.link = s.link ∧ (State.visits x0 x1 x2 s).1.roster = s.roster ∧
    (State.visits x0 x1 x2 s).1.clock = s.clock ∧ (State.visits x0 x1 x2 s).1.config = s.config ∧
    (State.visits x0 x1 x2 s).1.pending = s.pending := by
  induction x0 generalizing x1 x2 s with
  | zero => unfold State.visits; simp
  | succ n ih =>
    cases x1 <;> unfold State.visits <;> (repeat' split) <;> simp [ih]

@[simp] theorem State.composePayload_frame (s : State) :
    (State.composePayload s).1.tree = s.tree ∧ (State.composePayload s).1.home = s.home ∧
    (State.composePayload s).1.enrol = s.enrol ∧ (State.composePayload s).1.sched = s.sched ∧
    (State.composePayload s).1.watch = s.watch ∧ (State.composePayload s).1.journal = s.journal ∧
    (State.composePayload s).1.link = s.link ∧ (State.composePayload s).1.roster = s.roster ∧
    (State.composePayload s).1.clock = s.clock ∧ (State.composePayload s).1.config = s.config ∧
    (State.composePayload s).1.pending = s.pending := by
  unfold State.composePayload
  simp

@[simp] theorem State.endTransmission_frame (s : State) :
    (State.endTransmission s).home = s.home ∧ (State.endTransmission s).enrol = s.enrol ∧
    (State.endTransmission s).sched = s.sched ∧ (State.endTransmission s).watch = s.watch ∧
    (State.endTransmission s).meter = s.meter ∧ (State.endTransmission s).journal = s.journal ∧
    (State.endTransmission s).link = s.link ∧ (State.endTransmission s).roster = s.roster ∧
    (State.endTransmission s).clock = s.clock ∧ (State.endTransmission s).config = s.config ∧
    (State.endTransmission s).pending = s.pending := by
  simp only [State.endTransmission]
  (repeat' split) <;> simp

@[simp] theorem State.forward_frame (s : State) (i : SlotId) (packets : List (List Byte)) :
    (State.forward s i packets).tree = s.tree ∧ (State.forward s i packets).home = s.home ∧
    (State.forward s i packets).enrol = s.enrol ∧ (State.forward s i packets).sched = s.sched ∧
    (State.forward s i packets).watch = s.watch ∧ (State.forward s i packets).meter = s.meter ∧
    (State.forward s i packets).journal = s.journal ∧ (State.forward s i packets).link = s.link ∧
    (State.forward s i packets).roster = s.roster ∧ (State.forward s i packets).clock = s.clock ∧
    (State.forward s i packets).config = s.config ∧ (State.forward s i packets).pending = s.pending := by
  unfold State.forward
  (repeat' split) <;> simp

/-! ### Machine/Watch.lean -/

@[simp] theorem State.enterWatch_frame (s : State) (new : WatchState) :
    (State.enterWatch s new).home = s.home ∧ (State.enterWatch s new).enrol = s.enrol ∧
    (State.enterWatch s new).down = s.down ∧ (State.enterWatch s new).meter = s.meter ∧
    (State.enterWatch s new).journal = s.journal ∧ (State.enterWatch s new).link = s.link ∧
    (State.enterWatch s new).roster = s.roster ∧ (State.enterWatch s new).clock = s.clock ∧
    (State.enterWatch s new).config = s.config ∧ (State.enterWatch s new).pending = s.pending := by
  unfold State.enterWatch
  (repeat' split) <;> simp

@[simp] theorem State.openTest_frame (s : State) (n : Nat) :
    (State.openTest s n).tree = s.tree ∧ (State.openTest s n).home = s.home ∧
    (State.openTest s n).enrol = s.enrol ∧ (State.openTest s n).down = s.down ∧
    (State.openTest s n).meter = s.meter ∧ (State.openTest s n).journal = s.journal ∧
    (State.openTest s n).link = s.link ∧ (State.openTest s n).roster = s.roster ∧
    (State.openTest s n).clock = s.clock ∧ (State.openTest s n).config = s.config ∧
    (State.openTest s n).pending = s.pending := by
  unfold State.openTest
  simp

@[simp] theorem State.beginHeldRetest_frame (s : State) :
    (State.beginHeldRetest s).tree = s.tree ∧ (State.beginHeldRetest s).home = s.home ∧
    (State.beginHeldRetest s).enrol = s.enrol ∧ (State.beginHeldRetest s).down = s.down ∧
    (State.beginHeldRetest s).meter = s.meter ∧ (State.beginHeldRetest s).journal = s.journal ∧
    (State.beginHeldRetest s).link = s.link ∧ (State.beginHeldRetest s).roster = s.roster ∧
    (State.beginHeldRetest s).clock = s.clock ∧ (State.beginHeldRetest s).config = s.config ∧
    (State.beginHeldRetest s).pending = s.pending := by
  unfold State.beginHeldRetest
  (repeat' split) <;> simp

@[simp] theorem State.enterConfirming_frame (s : State) :
    (State.enterConfirming s).home = s.home ∧ (State.enterConfirming s).enrol = s.enrol ∧
    (State.enterConfirming s).down = s.down ∧ (State.enterConfirming s).meter = s.meter ∧
    (State.enterConfirming s).journal = s.journal ∧ (State.enterConfirming s).link = s.link ∧
    (State.enterConfirming s).roster = s.roster ∧ (State.enterConfirming s).clock = s.clock ∧
    (State.enterConfirming s).config = s.config ∧ (State.enterConfirming s).pending = s.pending := by
  unfold State.enterConfirming
  simp

@[simp] theorem State.evidence_frame (s : State) :
    (State.evidence s).home = s.home ∧ (State.evidence s).enrol = s.enrol ∧ (State.evidence s).down = s.down ∧
    (State.evidence s).meter = s.meter ∧ (State.evidence s).journal = s.journal ∧
    (State.evidence s).link = s.link ∧ (State.evidence s).roster = s.roster ∧ (State.evidence s).clock = s.clock ∧
    (State.evidence s).config = s.config ∧ (State.evidence s).pending = s.pending := by
  unfold State.evidence
  (repeat' split) <;> simp

@[simp] theorem State.offerWatchOrder_frame (s : State) (w : WatchOrder) :
    (State.offerWatchOrder s w).enrol = s.enrol ∧ (State.offerWatchOrder s w).sched = s.sched ∧
    (State.offerWatchOrder s w).down = s.down ∧ (State.offerWatchOrder s w).meter = s.meter ∧
    (State.offerWatchOrder s w).journal = s.journal ∧ (State.offerWatchOrder s w).link = s.link ∧
    (State.offerWatchOrder s w).roster = s.roster ∧ (State.offerWatchOrder s w).clock = s.clock ∧
    (State.offerWatchOrder s w).config = s.config ∧ (State.offerWatchOrder s w).pending = s.pending := by
  simp only [State.offerWatchOrder]
  (repeat' split) <;> simp

@[simp] theorem State.offerWatchOrders_frame (s : State) :
    (State.offerWatchOrders s).enrol = s.enrol ∧ (State.offerWatchOrders s).sched = s.sched ∧
    (State.offerWatchOrders s).down = s.down ∧ (State.offerWatchOrders s).meter = s.meter ∧
    (State.offerWatchOrders s).journal = s.journal ∧ (State.offerWatchOrders s).link = s.link ∧
    (State.offerWatchOrders s).roster = s.roster ∧ (State.offerWatchOrders s).clock = s.clock ∧
    (State.offerWatchOrders s).config = s.config ∧ (State.offerWatchOrders s).pending = s.pending := by
  unfold State.offerWatchOrders
  simp

@[simp] theorem State.beginStage_frame (s : State) (cands : List (SlotId × Gen)) (stage : LocateStage) (members : List (SlotId × Gen)) :
    (State.beginStage s cands stage members).enrol = s.enrol ∧
    (State.beginStage s cands stage members).sched = s.sched ∧
    (State.beginStage s cands stage members).down = s.down ∧
    (State.beginStage s cands stage members).meter = s.meter ∧
    (State.beginStage s cands stage members).journal = s.journal ∧
    (State.beginStage s cands stage members).link = s.link ∧
    (State.beginStage s cands stage members).roster = s.roster ∧
    (State.beginStage s cands stage members).clock = s.clock ∧
    (State.beginStage s cands stage members).config = s.config ∧
    (State.beginStage s cands stage members).pending = s.pending := by
  unfold State.beginStage
  simp

@[simp] theorem State.search_frame (s : State) (cands : List (SlotId × Gen)) :
    (State.search s cands).enrol = s.enrol ∧ (State.search s cands).sched = s.sched ∧
    (State.search s cands).down = s.down ∧ (State.search s cands).meter = s.meter ∧
    (State.search s cands).journal = s.journal ∧ (State.search s cands).link = s.link ∧
    (State.search s cands).roster = s.roster ∧ (State.search s cands).clock = s.clock ∧
    (State.search s cands).config = s.config ∧ (State.search s cands).pending = s.pending := by
  unfold State.search
  (repeat' split) <;> simp

@[simp] theorem State.startLocate_frame (s : State) :
    (State.startLocate s).enrol = s.enrol ∧ (State.startLocate s).sched = s.sched ∧
    (State.startLocate s).down = s.down ∧ (State.startLocate s).meter = s.meter ∧
    (State.startLocate s).journal = s.journal ∧ (State.startLocate s).link = s.link ∧
    (State.startLocate s).roster = s.roster ∧ (State.startLocate s).clock = s.clock ∧
    (State.startLocate s).config = s.config ∧ (State.startLocate s).pending = s.pending := by
  unfold State.startLocate
  (repeat' split) <;> simp

@[simp] theorem State.unlocated_frame (s : State) (last : Option SlotId) :
    (State.unlocated s last).enrol = s.enrol ∧ (State.unlocated s last).down = s.down ∧
    (State.unlocated s last).meter = s.meter ∧ (State.unlocated s last).journal = s.journal ∧
    (State.unlocated s last).roster = s.roster ∧ (State.unlocated s last).clock = s.clock ∧
    (State.unlocated s last).config = s.config ∧ (State.unlocated s last).pending = s.pending := by
  unfold State.unlocated
  simp

@[simp] theorem State.located_frame (s : State) (c : SlotId × Gen) :
    (State.located s c).journal = s.journal ∧ (State.located s c).clock = s.clock ∧
    (State.located s c).config = s.config ∧ (State.located s c).pending = s.pending := by
  unfold State.located
  simp

@[simp] theorem State.intermittent_frame (s : State) :
    (State.intermittent s).home = s.home ∧ (State.intermittent s).enrol = s.enrol ∧
    (State.intermittent s).down = s.down ∧ (State.intermittent s).meter = s.meter ∧
    (State.intermittent s).journal = s.journal ∧ (State.intermittent s).link = s.link ∧
    (State.intermittent s).roster = s.roster ∧ (State.intermittent s).clock = s.clock ∧
    (State.intermittent s).config = s.config ∧ (State.intermittent s).pending = s.pending := by
  unfold State.intermittent
  simp

@[simp] theorem State.enterLocating_frame (s : State) :
    (State.enterLocating s).enrol = s.enrol ∧ (State.enterLocating s).down = s.down ∧
    (State.enterLocating s).meter = s.meter ∧ (State.enterLocating s).journal = s.journal ∧
    (State.enterLocating s).roster = s.roster ∧ (State.enterLocating s).clock = s.clock ∧
    (State.enterLocating s).config = s.config ∧ (State.enterLocating s).pending = s.pending := by
  simp only [State.enterLocating]
  (repeat' split) <;> simp

@[simp] theorem State.confirmOutcome_frame (s : State) (violated : Nat) :
    (State.confirmOutcome s violated).enrol = s.enrol ∧ (State.confirmOutcome s violated).down = s.down ∧
    (State.confirmOutcome s violated).meter = s.meter ∧ (State.confirmOutcome s violated).journal = s.journal ∧
    (State.confirmOutcome s violated).roster = s.roster ∧ (State.confirmOutcome s violated).clock = s.clock ∧
    (State.confirmOutcome s violated).config = s.config ∧ (State.confirmOutcome s violated).pending = s.pending := by
  unfold State.confirmOutcome
  (repeat' split) <;> simp

@[simp] theorem State.retestOutcome_frame (s : State) (violated : Nat) :
    (State.retestOutcome s violated).home = s.home ∧ (State.retestOutcome s violated).enrol = s.enrol ∧
    (State.retestOutcome s violated).down = s.down ∧ (State.retestOutcome s violated).meter = s.meter ∧
    (State.retestOutcome s violated).journal = s.journal ∧ (State.retestOutcome s violated).roster = s.roster ∧
    (State.retestOutcome s violated).clock = s.clock ∧ (State.retestOutcome s violated).config = s.config ∧
    (State.retestOutcome s violated).pending = s.pending := by
  unfold State.retestOutcome
  (repeat' split) <;> simp

@[simp] theorem State.afterStep_frame (s : State) (cands : List (SlotId × Gen)) :
    (State.afterStep s cands).enrol = s.enrol ∧ (State.afterStep s cands).down = s.down ∧
    (State.afterStep s cands).meter = s.meter ∧ (State.afterStep s cands).journal = s.journal ∧
    (State.afterStep s cands).roster = s.roster ∧ (State.afterStep s cands).clock = s.clock ∧
    (State.afterStep s cands).config = s.config ∧ (State.afterStep s cands).pending = s.pending := by
  unfold State.afterStep
  (repeat' split) <;> simp

@[simp] theorem State.locateOutcome_frame (s : State) (violated : Nat) :
    (State.locateOutcome s violated).journal = s.journal ∧ (State.locateOutcome s violated).clock = s.clock ∧
    (State.locateOutcome s violated).config = s.config ∧ (State.locateOutcome s violated).pending = s.pending := by
  unfold State.locateOutcome
  (repeat' split) <;> simp

@[simp] theorem State.testOutcome_frame (s : State) (violated : Nat) :
    (State.testOutcome s violated).journal = s.journal ∧ (State.testOutcome s violated).clock = s.clock ∧
    (State.testOutcome s violated).config = s.config ∧ (State.testOutcome s violated).pending = s.pending := by
  simp only [State.testOutcome]
  (repeat' split) <;> simp

@[simp] theorem State.strikeTail_frame (s : State) (violation : Bool) (i : SlotId) (g : Gen) :
    (State.strikeTail s violation i g).journal = s.journal ∧ (State.strikeTail s violation i g).clock = s.clock ∧
    (State.strikeTail s violation i g).config = s.config ∧ (State.strikeTail s violation i g).pending = s.pending := by
  simp only [State.strikeTail]
  (repeat' split) <;> simp

@[simp] theorem State.strikeHead_frame (s : State) (violation : Bool) (i : SlotId) (g : Gen) :
    (State.strikeHead s violation i g).tree = s.tree ∧ (State.strikeHead s violation i g).home = s.home ∧
    (State.strikeHead s violation i g).sched = s.sched ∧ (State.strikeHead s violation i g).down = s.down ∧
    (State.strikeHead s violation i g).meter = s.meter ∧ (State.strikeHead s violation i g).journal = s.journal ∧
    (State.strikeHead s violation i g).link = s.link ∧ (State.strikeHead s violation i g).roster = s.roster ∧
    (State.strikeHead s violation i g).clock = s.clock ∧ (State.strikeHead s violation i g).config = s.config ∧
    (State.strikeHead s violation i g).pending = s.pending := by
  simp only [State.strikeHead]
  (repeat' split) <;> simp

@[simp] theorem State.scoreGuard_frame (s : State) (c : GuardSample) :
    (State.scoreGuard s c).journal = s.journal ∧ (State.scoreGuard s c).clock = s.clock ∧
    (State.scoreGuard s c).config = s.config ∧ (State.scoreGuard s c).pending = s.pending := by
  unfold State.scoreGuard
  (repeat' split) <;> simp

@[simp] theorem State.scoreRound_frame (s : State) (c : RoundScore) :
    (State.scoreRound s c).journal = s.journal ∧ (State.scoreRound s c).clock = s.clock ∧
    (State.scoreRound s c).config = s.config ∧ (State.scoreRound s c).pending = s.pending := by
  simp only [State.scoreRound]
  (repeat' split) <;> simp

@[simp] theorem State.judgeWindow_frame (s : State) (n : Round) (c : RoundScore) :
    (State.judgeWindow s n c).journal = s.journal ∧ (State.judgeWindow s n c).clock = s.clock ∧
    (State.judgeWindow s n c).config = s.config ∧ (State.judgeWindow s n c).pending = s.pending := by
  unfold State.judgeWindow
  (repeat' split) <;> simp

@[simp] theorem State.judge_frame (s : State) (count : Nat) :
    (State.judge s count).1.tree = s.tree ∧ (State.judge s count).1.home = s.home ∧
    (State.judge s count).1.enrol = s.enrol ∧ (State.judge s count).1.sched = s.sched ∧
    (State.judge s count).1.down = s.down ∧ (State.judge s count).1.meter = s.meter ∧
    (State.judge s count).1.journal = s.journal ∧ (State.judge s count).1.link = s.link ∧
    (State.judge s count).1.roster = s.roster ∧ (State.judge s count).1.clock = s.clock ∧
    (State.judge s count).1.config = s.config ∧ (State.judge s count).1.pending = s.pending := by
  unfold State.judge
  simp

@[simp] theorem State.guardSample_frame (s : State) (p : Plan) (k : Nat) (count : Nat) :
    (State.guardSample s p k count).tree = s.tree ∧ (State.guardSample s p k count).home = s.home ∧
    (State.guardSample s p k count).enrol = s.enrol ∧ (State.guardSample s p k count).sched = s.sched ∧
    (State.guardSample s p k count).down = s.down ∧ (State.guardSample s p k count).meter = s.meter ∧
    (State.guardSample s p k count).journal = s.journal ∧ (State.guardSample s p k count).link = s.link ∧
    (State.guardSample s p k count).roster = s.roster ∧ (State.guardSample s p k count).clock = s.clock ∧
    (State.guardSample s p k count).config = s.config ∧ (State.guardSample s p k count).pending = s.pending := by
  unfold State.guardSample
  (repeat' split) <;> simp

@[simp] theorem State.quietSample_frame (s : State) (p : Plan) (offset : Nat) (count : Nat) :
    (State.quietSample s p offset count).tree = s.tree ∧ (State.quietSample s p offset count).home = s.home ∧
    (State.quietSample s p offset count).enrol = s.enrol ∧ (State.quietSample s p offset count).sched = s.sched ∧
    (State.quietSample s p offset count).down = s.down ∧ (State.quietSample s p offset count).meter = s.meter ∧
    (State.quietSample s p offset count).journal = s.journal ∧ (State.quietSample s p offset count).link = s.link ∧
    (State.quietSample s p offset count).roster = s.roster ∧ (State.quietSample s p offset count).clock = s.clock ∧
    (State.quietSample s p offset count).config = s.config ∧
    (State.quietSample s p offset count).pending = s.pending := by
  unfold State.quietSample
  (repeat' split) <;> simp

@[simp] theorem State.offerWakeDue_frame (s : State) (i : SlotId) :
    (State.offerWakeDue s i).enrol = s.enrol ∧ (State.offerWakeDue s i).sched = s.sched ∧
    (State.offerWakeDue s i).down = s.down ∧ (State.offerWakeDue s i).watch = s.watch ∧
    (State.offerWakeDue s i).meter = s.meter ∧ (State.offerWakeDue s i).journal = s.journal ∧
    (State.offerWakeDue s i).link = s.link ∧ (State.offerWakeDue s i).roster = s.roster ∧
    (State.offerWakeDue s i).clock = s.clock ∧ (State.offerWakeDue s i).config = s.config ∧
    (State.offerWakeDue s i).pending = s.pending := by
  simp only [State.offerWakeDue]
  (repeat' split) <;> simp

@[simp] theorem State.hushedToWake_frame (s : State) (i : SlotId) :
    (State.hushedToWake s i).tree = s.tree ∧ (State.hushedToWake s i).enrol = s.enrol ∧
    (State.hushedToWake s i).sched = s.sched ∧ (State.hushedToWake s i).down = s.down ∧
    (State.hushedToWake s i).watch = s.watch ∧ (State.hushedToWake s i).meter = s.meter ∧
    (State.hushedToWake s i).journal = s.journal ∧ (State.hushedToWake s i).link = s.link ∧
    (State.hushedToWake s i).roster = s.roster ∧ (State.hushedToWake s i).clock = s.clock ∧
    (State.hushedToWake s i).config = s.config ∧ (State.hushedToWake s i).pending = s.pending := by
  unfold State.hushedToWake
  simp

@[simp] theorem State.watchRetreat_frame (s : State) :
    (State.watchRetreat s).enrol = s.enrol ∧ (State.watchRetreat s).down = s.down ∧
    (State.watchRetreat s).meter = s.meter ∧ (State.watchRetreat s).journal = s.journal ∧
    (State.watchRetreat s).link = s.link ∧ (State.watchRetreat s).roster = s.roster ∧
    (State.watchRetreat s).clock = s.clock ∧ (State.watchRetreat s).config = s.config ∧
    (State.watchRetreat s).pending = s.pending := by
  unfold State.watchRetreat
  simp

/-! ### Machine/Metering.lean -/

@[simp] theorem State.creditUpdate_frame (s : State) (u : MeterUpdate) :
    (State.creditUpdate s u).tree = s.tree ∧ (State.creditUpdate s u).home = s.home ∧
    (State.creditUpdate s u).enrol = s.enrol ∧ (State.creditUpdate s u).sched = s.sched ∧
    (State.creditUpdate s u).down = s.down ∧ (State.creditUpdate s u).watch = s.watch ∧
    (State.creditUpdate s u).journal = s.journal ∧ (State.creditUpdate s u).roster = s.roster ∧
    (State.creditUpdate s u).clock = s.clock ∧ (State.creditUpdate s u).config = s.config ∧
    (State.creditUpdate s u).pending = s.pending := by
  unfold State.creditUpdate
  (repeat' split) <;> simp

@[simp] theorem State.stepTime_frame (s : State) (t : DTime) :
    (State.stepTime s t).tree = s.tree ∧ (State.stepTime s t).home = s.home ∧
    (State.stepTime s t).enrol = s.enrol ∧ (State.stepTime s t).sched = s.sched ∧
    (State.stepTime s t).down = s.down ∧ (State.stepTime s t).watch = s.watch ∧
    (State.stepTime s t).journal = s.journal ∧ (State.stepTime s t).link = s.link ∧
    (State.stepTime s t).roster = s.roster ∧ (State.stepTime s t).config = s.config ∧
    (State.stepTime s t).pending = s.pending := by
  simp only [State.stepTime]
  (repeat' split) <;> simp

/-! ### Machine/Publish.lean -/

@[simp] theorem State.offerUsage_frame (s : State) :
    (State.offerUsage s).tree = s.tree ∧ (State.offerUsage s).home = s.home ∧
    (State.offerUsage s).enrol = s.enrol ∧ (State.offerUsage s).sched = s.sched ∧
    (State.offerUsage s).down = s.down ∧ (State.offerUsage s).watch = s.watch ∧
    (State.offerUsage s).meter = s.meter ∧ (State.offerUsage s).roster = s.roster ∧
    (State.offerUsage s).clock = s.clock ∧ (State.offerUsage s).config = s.config ∧
    (State.offerUsage s).pending = s.pending := by
  unfold State.offerUsage
  (repeat' split) <;> simp

@[simp] theorem State.pacingTick_frame (s : State) :
    (State.pacingTick s).tree = s.tree ∧ (State.pacingTick s).home = s.home ∧ (State.pacingTick s).enrol = s.enrol ∧
    (State.pacingTick s).sched = s.sched ∧ (State.pacingTick s).down = s.down ∧ (State.pacingTick s).watch = s.watch ∧
    (State.pacingTick s).meter = s.meter ∧ (State.pacingTick s).roster = s.roster ∧
    (State.pacingTick s).clock = s.clock ∧ (State.pacingTick s).config = s.config ∧
    (State.pacingTick s).pending = s.pending := by
  simp only [State.pacingTick]
  (repeat' split) <;> simp

@[simp] theorem State.acknowledge_frame (s : State) (q : Seq) :
    (State.acknowledge s q).clock = s.clock ∧ (State.acknowledge s q).config = s.config ∧
    (State.acknowledge s q).pending = s.pending := by
  simp only [State.acknowledge]
  (repeat' split) <;> simp

/-! ### Machine/Claims.lean -/

@[simp] theorem State.markClaim_frame (s : State) (i : SlotId) :
    (State.markClaim s i).tree = s.tree ∧ (State.markClaim s i).home = s.home ∧
    (State.markClaim s i).enrol = s.enrol ∧ (State.markClaim s i).sched = s.sched ∧
    (State.markClaim s i).down = s.down ∧ (State.markClaim s i).watch = s.watch ∧
    (State.markClaim s i).meter = s.meter ∧ (State.markClaim s i).journal = s.journal ∧
    (State.markClaim s i).link = s.link ∧ (State.markClaim s i).clock = s.clock ∧
    (State.markClaim s i).config = s.config ∧ (State.markClaim s i).pending = s.pending := by
  unfold State.markClaim
  simp

@[simp] theorem State.updateContested_frame (s : State) (x : Serial) :
    (State.updateContested s x).tree = s.tree ∧ (State.updateContested s x).enrol = s.enrol ∧
    (State.updateContested s x).sched = s.sched ∧ (State.updateContested s x).down = s.down ∧
    (State.updateContested s x).watch = s.watch ∧ (State.updateContested s x).meter = s.meter ∧
    (State.updateContested s x).journal = s.journal ∧ (State.updateContested s x).link = s.link ∧
    (State.updateContested s x).roster = s.roster ∧ (State.updateContested s x).clock = s.clock ∧
    (State.updateContested s x).config = s.config ∧ (State.updateContested s x).pending = s.pending := by
  unfold State.updateContested
  (repeat' split) <;> simp

@[simp] theorem State.evictClaim_frame (s : State) :
    (State.evictClaim s).tree = s.tree ∧ (State.evictClaim s).enrol = s.enrol ∧
    (State.evictClaim s).sched = s.sched ∧ (State.evictClaim s).down = s.down ∧
    (State.evictClaim s).watch = s.watch ∧ (State.evictClaim s).meter = s.meter ∧
    (State.evictClaim s).journal = s.journal ∧ (State.evictClaim s).link = s.link ∧
    (State.evictClaim s).clock = s.clock ∧ (State.evictClaim s).config = s.config ∧
    (State.evictClaim s).pending = s.pending := by
  unfold State.evictClaim
  (repeat' split) <;> simp

@[simp] theorem State.recordClaim_frame (s : State) (x : Serial) (p : Byte) (t : DTime) :
    (State.recordClaim s x p t).1.tree = s.tree ∧ (State.recordClaim s x p t).1.enrol = s.enrol ∧
    (State.recordClaim s x p t).1.sched = s.sched ∧ (State.recordClaim s x p t).1.down = s.down ∧
    (State.recordClaim s x p t).1.watch = s.watch ∧ (State.recordClaim s x p t).1.meter = s.meter ∧
    (State.recordClaim s x p t).1.journal = s.journal ∧ (State.recordClaim s x p t).1.link = s.link ∧
    (State.recordClaim s x p t).1.clock = s.clock ∧ (State.recordClaim s x p t).1.config = s.config ∧
    (State.recordClaim s x p t).1.pending = s.pending := by
  unfold State.recordClaim
  (repeat' split) <;> simp

@[simp] theorem State.decide_frame (s : State) (d : Decision) :
    (State.decide s d).tree = s.tree ∧ (State.decide s d).home = s.home ∧ (State.decide s d).enrol = s.enrol ∧
    (State.decide s d).sched = s.sched ∧ (State.decide s d).down = s.down ∧ (State.decide s d).watch = s.watch ∧
    (State.decide s d).meter = s.meter ∧ (State.decide s d).journal = s.journal ∧
    (State.decide s d).link = s.link ∧ (State.decide s d).clock = s.clock ∧ (State.decide s d).config = s.config ∧
    (State.decide s d).pending = s.pending := by
  unfold State.decide
  simp

@[simp] theorem State.contest_frame (s : State) (i : SlotId) (x : Serial) (p : Byte) (t : DTime) (standing inserted : Bool) :
    (State.contest s i x p t standing inserted).tree = s.tree ∧
    (State.contest s i x p t standing inserted).home = s.home ∧
    (State.contest s i x p t standing inserted).enrol = s.enrol ∧
    (State.contest s i x p t standing inserted).sched = s.sched ∧
    (State.contest s i x p t standing inserted).down = s.down ∧
    (State.contest s i x p t standing inserted).watch = s.watch ∧
    (State.contest s i x p t standing inserted).meter = s.meter ∧
    (State.contest s i x p t standing inserted).journal = s.journal ∧
    (State.contest s i x p t standing inserted).link = s.link ∧
    (State.contest s i x p t standing inserted).clock = s.clock ∧
    (State.contest s i x p t standing inserted).config = s.config ∧
    (State.contest s i x p t standing inserted).pending = s.pending := by
  unfold State.contest
  (repeat' split) <;> simp

@[simp] theorem State.takeClaim_frame (s : State) (p : Byte) (x : Serial) (t : DTime) (standing : Bool) :
    (State.takeClaim s p x t standing).tree = s.tree ∧ (State.takeClaim s p x t standing).enrol = s.enrol ∧
    (State.takeClaim s p x t standing).sched = s.sched ∧ (State.takeClaim s p x t standing).down = s.down ∧
    (State.takeClaim s p x t standing).watch = s.watch ∧ (State.takeClaim s p x t standing).meter = s.meter ∧
    (State.takeClaim s p x t standing).journal = s.journal ∧ (State.takeClaim s p x t standing).link = s.link ∧
    (State.takeClaim s p x t standing).clock = s.clock ∧ (State.takeClaim s p x t standing).config = s.config ∧
    (State.takeClaim s p x t standing).pending = s.pending := by
  simp only [State.takeClaim]
  (repeat' split) <;> simp

@[simp] theorem State.takeRelease_frame (s : State) (p : Byte) (x : Serial) :
    (State.takeRelease s p x).tree = s.tree ∧ (State.takeRelease s p x).enrol = s.enrol ∧
    (State.takeRelease s p x).sched = s.sched ∧ (State.takeRelease s p x).down = s.down ∧
    (State.takeRelease s p x).watch = s.watch ∧ (State.takeRelease s p x).meter = s.meter ∧
    (State.takeRelease s p x).journal = s.journal ∧ (State.takeRelease s p x).link = s.link ∧
    (State.takeRelease s p x).clock = s.clock ∧ (State.takeRelease s p x).config = s.config ∧
    (State.takeRelease s p x).pending = s.pending := by
  unfold State.takeRelease
  (repeat' split) <;> simp

@[simp] theorem State.takeBar_frame (s : State) (p : Byte) (x : Serial) (reason : BarReason) (t : DTime) :
    (State.takeBar s p x reason t).tree = s.tree ∧ (State.takeBar s p x reason t).home = s.home ∧
    (State.takeBar s p x reason t).enrol = s.enrol ∧ (State.takeBar s p x reason t).sched = s.sched ∧
    (State.takeBar s p x reason t).down = s.down ∧ (State.takeBar s p x reason t).watch = s.watch ∧
    (State.takeBar s p x reason t).meter = s.meter ∧ (State.takeBar s p x reason t).journal = s.journal ∧
    (State.takeBar s p x reason t).link = s.link ∧ (State.takeBar s p x reason t).clock = s.clock ∧
    (State.takeBar s p x reason t).config = s.config ∧ (State.takeBar s p x reason t).pending = s.pending := by
  unfold State.takeBar
  (repeat' split) <;> simp

@[simp] theorem State.takeUnbar_frame (s : State) (x : Serial) :
    (State.takeUnbar s x).tree = s.tree ∧ (State.takeUnbar s x).home = s.home ∧
    (State.takeUnbar s x).enrol = s.enrol ∧ (State.takeUnbar s x).sched = s.sched ∧
    (State.takeUnbar s x).down = s.down ∧ (State.takeUnbar s x).watch = s.watch ∧
    (State.takeUnbar s x).meter = s.meter ∧ (State.takeUnbar s x).journal = s.journal ∧
    (State.takeUnbar s x).link = s.link ∧ (State.takeUnbar s x).clock = s.clock ∧
    (State.takeUnbar s x).config = s.config ∧ (State.takeUnbar s x).pending = s.pending := by
  unfold State.takeUnbar
  simp

@[simp] theorem State.offerBars_frame (s : State) :
    (State.offerBars s).1.tree = s.tree ∧ (State.offerBars s).1.home = s.home ∧
    (State.offerBars s).1.enrol = s.enrol ∧ (State.offerBars s).1.sched = s.sched ∧
    (State.offerBars s).1.down = s.down ∧ (State.offerBars s).1.watch = s.watch ∧
    (State.offerBars s).1.meter = s.meter ∧ (State.offerBars s).1.journal = s.journal ∧
    (State.offerBars s).1.clock = s.clock ∧ (State.offerBars s).1.config = s.config ∧
    (State.offerBars s).1.pending = s.pending := by
  unfold State.offerBars
  simp

@[simp] theorem State.offerReleases_frame (s : State) :
    (State.offerReleases s).1.tree = s.tree ∧ (State.offerReleases s).1.home = s.home ∧
    (State.offerReleases s).1.enrol = s.enrol ∧ (State.offerReleases s).1.sched = s.sched ∧
    (State.offerReleases s).1.down = s.down ∧ (State.offerReleases s).1.watch = s.watch ∧
    (State.offerReleases s).1.meter = s.meter ∧ (State.offerReleases s).1.journal = s.journal ∧
    (State.offerReleases s).1.clock = s.clock ∧ (State.offerReleases s).1.config = s.config ∧
    (State.offerReleases s).1.pending = s.pending := by
  unfold State.offerReleases
  simp

@[simp] theorem State.offerClaims_frame  (x0 : List SlotId) (s : State) :
    (State.offerClaims x0 s).tree = s.tree ∧ (State.offerClaims x0 s).home = s.home ∧
    (State.offerClaims x0 s).enrol = s.enrol ∧ (State.offerClaims x0 s).sched = s.sched ∧
    (State.offerClaims x0 s).down = s.down ∧ (State.offerClaims x0 s).watch = s.watch ∧
    (State.offerClaims x0 s).meter = s.meter ∧ (State.offerClaims x0 s).journal = s.journal ∧
    (State.offerClaims x0 s).clock = s.clock ∧ (State.offerClaims x0 s).config = s.config ∧
    (State.offerClaims x0 s).pending = s.pending := by
  induction x0 generalizing s with
  | nil => unfold State.offerClaims; simp
  | cons i l ih =>
    unfold State.offerClaims
    (repeat' split) <;> simp [ih]

@[simp] theorem State.offerRoster_frame (s : State) :
    (State.offerRoster s).tree = s.tree ∧ (State.offerRoster s).home = s.home ∧
    (State.offerRoster s).enrol = s.enrol ∧ (State.offerRoster s).sched = s.sched ∧
    (State.offerRoster s).down = s.down ∧ (State.offerRoster s).watch = s.watch ∧
    (State.offerRoster s).meter = s.meter ∧ (State.offerRoster s).journal = s.journal ∧
    (State.offerRoster s).clock = s.clock ∧ (State.offerRoster s).config = s.config ∧
    (State.offerRoster s).pending = s.pending := by
  simp only [State.offerRoster]
  (repeat' split) <;> simp

/-! ### Machine/District.lean -/

@[simp] theorem State.advanceTime_frame (s : State) :
    (State.advanceTime s).tree = s.tree ∧ (State.advanceTime s).home = s.home ∧
    (State.advanceTime s).enrol = s.enrol ∧ (State.advanceTime s).sched = s.sched ∧
    (State.advanceTime s).down = s.down ∧ (State.advanceTime s).watch = s.watch ∧
    (State.advanceTime s).journal = s.journal ∧ (State.advanceTime s).link = s.link ∧
    (State.advanceTime s).roster = s.roster ∧ (State.advanceTime s).config = s.config ∧
    (State.advanceTime s).pending = s.pending := by
  simp only [State.advanceTime]
  (repeat' split) <;> simp

@[simp] theorem State.enterTime_frame (s : State) (new : TimeState) :
    (State.enterTime s new).tree = s.tree ∧ (State.enterTime s new).home = s.home ∧
    (State.enterTime s new).enrol = s.enrol ∧ (State.enterTime s new).sched = s.sched ∧
    (State.enterTime s new).down = s.down ∧ (State.enterTime s new).watch = s.watch ∧
    (State.enterTime s new).journal = s.journal ∧ (State.enterTime s new).link = s.link ∧
    (State.enterTime s new).roster = s.roster ∧ (State.enterTime s new).config = s.config ∧
    (State.enterTime s new).pending = s.pending := by
  unfold State.enterTime
  (repeat' split) <;> simp

@[simp] theorem State.offerBeacon_frame (s : State) :
    (State.offerBeacon s).tree = s.tree ∧ (State.offerBeacon s).home = s.home ∧
    (State.offerBeacon s).enrol = s.enrol ∧ (State.offerBeacon s).sched = s.sched ∧
    (State.offerBeacon s).down = s.down ∧ (State.offerBeacon s).watch = s.watch ∧
    (State.offerBeacon s).meter = s.meter ∧ (State.offerBeacon s).journal = s.journal ∧
    (State.offerBeacon s).roster = s.roster ∧ (State.offerBeacon s).config = s.config ∧
    (State.offerBeacon s).pending = s.pending := by
  unfold State.offerBeacon
  (repeat' split) <;> simp

@[simp] theorem State.offerWaitingBeacon_frame (s : State) :
    (State.offerWaitingBeacon s).tree = s.tree ∧ (State.offerWaitingBeacon s).home = s.home ∧
    (State.offerWaitingBeacon s).enrol = s.enrol ∧ (State.offerWaitingBeacon s).sched = s.sched ∧
    (State.offerWaitingBeacon s).down = s.down ∧ (State.offerWaitingBeacon s).watch = s.watch ∧
    (State.offerWaitingBeacon s).meter = s.meter ∧ (State.offerWaitingBeacon s).journal = s.journal ∧
    (State.offerWaitingBeacon s).roster = s.roster ∧ (State.offerWaitingBeacon s).config = s.config ∧
    (State.offerWaitingBeacon s).pending = s.pending := by
  unfold State.offerWaitingBeacon
  (repeat' split) <;> simp

@[simp] theorem State.stepBy_frame (s : State) (m : Int) :
    (State.stepBy s m).tree = s.tree ∧ (State.stepBy s m).home = s.home ∧ (State.stepBy s m).enrol = s.enrol ∧
    (State.stepBy s m).sched = s.sched ∧ (State.stepBy s m).down = s.down ∧ (State.stepBy s m).watch = s.watch ∧
    (State.stepBy s m).journal = s.journal ∧ (State.stepBy s m).link = s.link ∧
    (State.stepBy s m).roster = s.roster ∧ (State.stepBy s m).config = s.config ∧
    (State.stepBy s m).pending = s.pending := by
  unfold State.stepBy
  simp

@[simp] theorem State.correct_frame (s : State) :
    (State.correct s).tree = s.tree ∧ (State.correct s).home = s.home ∧ (State.correct s).enrol = s.enrol ∧
    (State.correct s).sched = s.sched ∧ (State.correct s).down = s.down ∧ (State.correct s).watch = s.watch ∧
    (State.correct s).journal = s.journal ∧ (State.correct s).link = s.link ∧ (State.correct s).roster = s.roster ∧
    (State.correct s).config = s.config ∧ (State.correct s).pending = s.pending := by
  simp only [State.correct]
  (repeat' split) <;> simp

@[simp] theorem State.secondTick_frame (s : State) :
    (State.secondTick s).tree = s.tree ∧ (State.secondTick s).home = s.home ∧ (State.secondTick s).enrol = s.enrol ∧
    (State.secondTick s).sched = s.sched ∧ (State.secondTick s).down = s.down ∧ (State.secondTick s).watch = s.watch ∧
    (State.secondTick s).journal = s.journal ∧ (State.secondTick s).roster = s.roster ∧
    (State.secondTick s).config = s.config ∧ (State.secondTick s).pending = s.pending := by
  simp only [State.secondTick]
  (repeat' split) <;> simp

@[simp] theorem State.takeTime_frame (s : State) (source : Byte) (sender : TimeState) (t : DTime) :
    (State.takeTime s source sender t).tree = s.tree ∧ (State.takeTime s source sender t).home = s.home ∧
    (State.takeTime s source sender t).enrol = s.enrol ∧ (State.takeTime s source sender t).sched = s.sched ∧
    (State.takeTime s source sender t).down = s.down ∧ (State.takeTime s source sender t).watch = s.watch ∧
    (State.takeTime s source sender t).journal = s.journal ∧ (State.takeTime s source sender t).link = s.link ∧
    (State.takeTime s source sender t).roster = s.roster ∧ (State.takeTime s source sender t).config = s.config ∧
    (State.takeTime s source sender t).pending = s.pending := by
  simp only [State.takeTime]
  (repeat' split) <;> simp

/-! ### Machine/Shelf.lean -/

@[simp] theorem State.dispatchFrame_frame (s : State) (x0 : RxFrame) :
    (State.dispatchFrame s x0).tree = s.tree ∧ (State.dispatchFrame s x0).enrol = s.enrol ∧
    (State.dispatchFrame s x0).sched = s.sched ∧ (State.dispatchFrame s x0).down = s.down ∧
    (State.dispatchFrame s x0).watch = s.watch ∧ (State.dispatchFrame s x0).config = s.config ∧
    (State.dispatchFrame s x0).pending = s.pending := by
  unfold State.dispatchFrame
  (repeat' split) <;> simp

@[simp] theorem State.rememberCommand_frame (s : State) (c : RxCommand) :
    (State.rememberCommand s c).tree = s.tree ∧ (State.rememberCommand s c).home = s.home ∧
    (State.rememberCommand s c).enrol = s.enrol ∧ (State.rememberCommand s c).sched = s.sched ∧
    (State.rememberCommand s c).down = s.down ∧ (State.rememberCommand s c).watch = s.watch ∧
    (State.rememberCommand s c).meter = s.meter ∧ (State.rememberCommand s c).journal = s.journal ∧
    (State.rememberCommand s c).roster = s.roster ∧ (State.rememberCommand s c).clock = s.clock ∧
    (State.rememberCommand s c).config = s.config ∧ (State.rememberCommand s c).pending = s.pending := by
  unfold State.rememberCommand
  simp

@[simp] theorem State.dispatchCommand_frame (s : State) (c : RxCommand) :
    (State.dispatchCommand s c).tree = s.tree ∧ (State.dispatchCommand s c).home = s.home ∧
    (State.dispatchCommand s c).enrol = s.enrol ∧ (State.dispatchCommand s c).sched = s.sched ∧
    (State.dispatchCommand s c).down = s.down ∧ (State.dispatchCommand s c).watch = s.watch ∧
    (State.dispatchCommand s c).meter = s.meter ∧ (State.dispatchCommand s c).journal = s.journal ∧
    (State.dispatchCommand s c).roster = s.roster ∧ (State.dispatchCommand s c).clock = s.clock ∧
    (State.dispatchCommand s c).config = s.config ∧ (State.dispatchCommand s c).pending = s.pending := by
  simp only [State.dispatchCommand]
  (repeat' split) <;> simp

@[simp] theorem State.countFlight_frame (s : State) :
    (State.countFlight s).tree = s.tree ∧ (State.countFlight s).home = s.home ∧
    (State.countFlight s).enrol = s.enrol ∧ (State.countFlight s).sched = s.sched ∧
    (State.countFlight s).down = s.down ∧ (State.countFlight s).watch = s.watch ∧
    (State.countFlight s).meter = s.meter ∧ (State.countFlight s).journal = s.journal ∧
    (State.countFlight s).roster = s.roster ∧ (State.countFlight s).clock = s.clock ∧
    (State.countFlight s).config = s.config ∧ (State.countFlight s).pending = s.pending := by
  unfold State.countFlight
  simp

@[simp] theorem State.compareCommand_frame (s : State) (c : RxCommand) :
    (State.compareCommand s c).tree = s.tree ∧ (State.compareCommand s c).home = s.home ∧
    (State.compareCommand s c).enrol = s.enrol ∧ (State.compareCommand s c).sched = s.sched ∧
    (State.compareCommand s c).down = s.down ∧ (State.compareCommand s c).watch = s.watch ∧
    (State.compareCommand s c).meter = s.meter ∧ (State.compareCommand s c).journal = s.journal ∧
    (State.compareCommand s c).roster = s.roster ∧ (State.compareCommand s c).clock = s.clock ∧
    (State.compareCommand s c).config = s.config ∧ (State.compareCommand s c).pending = s.pending := by
  unfold State.compareCommand
  (repeat' split) <;> simp

@[simp] theorem State.takeCommandFrame_frame (s : State) (c : RxCommand) :
    (State.takeCommandFrame s c).tree = s.tree ∧ (State.takeCommandFrame s c).home = s.home ∧
    (State.takeCommandFrame s c).enrol = s.enrol ∧ (State.takeCommandFrame s c).sched = s.sched ∧
    (State.takeCommandFrame s c).down = s.down ∧ (State.takeCommandFrame s c).watch = s.watch ∧
    (State.takeCommandFrame s c).meter = s.meter ∧ (State.takeCommandFrame s c).journal = s.journal ∧
    (State.takeCommandFrame s c).roster = s.roster ∧ (State.takeCommandFrame s c).clock = s.clock ∧
    (State.takeCommandFrame s c).config = s.config ∧ (State.takeCommandFrame s c).pending = s.pending := by
  unfold State.takeCommandFrame
  (repeat' split) <;> simp

@[simp] theorem State.reportFrame_frame (s : State) (m : Message) (o : SendReport) :
    (State.reportFrame s m o).tree = s.tree ∧ (State.reportFrame s m o).home = s.home ∧
    (State.reportFrame s m o).enrol = s.enrol ∧ (State.reportFrame s m o).sched = s.sched ∧
    (State.reportFrame s m o).down = s.down ∧ (State.reportFrame s m o).watch = s.watch ∧
    (State.reportFrame s m o).meter = s.meter ∧ (State.reportFrame s m o).link = s.link ∧
    (State.reportFrame s m o).roster = s.roster ∧ (State.reportFrame s m o).config = s.config ∧
    (State.reportFrame s m o).pending = s.pending := by
  unfold State.reportFrame
  (repeat' split) <;> simp

@[simp] theorem State.rivalOffer_frame (s : State) (o : RivalOffer) :
    (State.rivalOffer s o).tree = s.tree ∧ (State.rivalOffer s o).home = s.home ∧
    (State.rivalOffer s o).enrol = s.enrol ∧ (State.rivalOffer s o).sched = s.sched ∧
    (State.rivalOffer s o).down = s.down ∧ (State.rivalOffer s o).watch = s.watch ∧
    (State.rivalOffer s o).config = s.config ∧ (State.rivalOffer s o).pending = s.pending := by
  cases o <;> simp [State.rivalOffer]

@[simp] theorem State.releaseFrame_frame (s : State) (e : TxEntry) (o : SendReport) :
    (State.releaseFrame s e o).tree = s.tree ∧ (State.releaseFrame s e o).home = s.home ∧
    (State.releaseFrame s e o).enrol = s.enrol ∧ (State.releaseFrame s e o).sched = s.sched ∧
    (State.releaseFrame s e o).down = s.down ∧ (State.releaseFrame s e o).watch = s.watch ∧
    (State.releaseFrame s e o).meter = s.meter ∧ (State.releaseFrame s e o).roster = s.roster ∧
    (State.releaseFrame s e o).config = s.config ∧ (State.releaseFrame s e o).pending = s.pending := by
  unfold State.releaseFrame
  simp

@[simp] theorem State.removeFrame_frame (s : State) (e : TxEntry) (o : SendReport) :
    (State.removeFrame s e o).tree = s.tree ∧ (State.removeFrame s e o).home = s.home ∧
    (State.removeFrame s e o).enrol = s.enrol ∧ (State.removeFrame s e o).sched = s.sched ∧
    (State.removeFrame s e o).down = s.down ∧ (State.removeFrame s e o).watch = s.watch ∧
    (State.removeFrame s e o).config = s.config ∧ (State.removeFrame s e o).pending = s.pending := by
  unfold State.removeFrame
  split <;> simp

/-! ### Machine/Port.lean -/

@[simp] theorem State.enterLit_frame (s : State) :
    (State.enterLit s).home = s.home ∧ (State.enterLit s).down = s.down ∧ (State.enterLit s).watch = s.watch ∧
    (State.enterLit s).meter = s.meter ∧ (State.enterLit s).journal = s.journal ∧
    (State.enterLit s).link = s.link ∧ (State.enterLit s).roster = s.roster ∧ (State.enterLit s).clock = s.clock ∧
    (State.enterLit s).config = s.config ∧ (State.enterLit s).pending = s.pending := by
  unfold State.enterLit
  simp

@[simp] theorem State.enterCalibrating_frame (s : State) :
    (State.enterCalibrating s).home = s.home ∧ (State.enterCalibrating s).enrol = s.enrol ∧
    (State.enterCalibrating s).sched = s.sched ∧ (State.enterCalibrating s).down = s.down ∧
    (State.enterCalibrating s).watch = s.watch ∧ (State.enterCalibrating s).meter = s.meter ∧
    (State.enterCalibrating s).journal = s.journal ∧ (State.enterCalibrating s).link = s.link ∧
    (State.enterCalibrating s).roster = s.roster ∧ (State.enterCalibrating s).clock = s.clock ∧
    (State.enterCalibrating s).config = s.config ∧ (State.enterCalibrating s).pending = s.pending := by
  unfold State.enterCalibrating
  simp

@[simp] theorem State.darkSlot_frame (s : State) (i : SlotId) :
    (State.darkSlot s i).journal = s.journal ∧ (State.darkSlot s i).link = s.link ∧
    (State.darkSlot s i).clock = s.clock ∧ (State.darkSlot s i).config = s.config ∧
    (State.darkSlot s i).pending = s.pending := by
  unfold State.darkSlot
  (repeat' split) <;> simp

@[simp] theorem State.enterDark_frame (s : State) :
    (State.enterDark s).journal = s.journal ∧ (State.enterDark s).link = s.link ∧
    (State.enterDark s).clock = s.clock ∧ (State.enterDark s).config = s.config ∧
    (State.enterDark s).pending = s.pending := by
  unfold State.enterDark
  simp

@[simp] theorem State.failTree_frame (s : State) :
    (State.failTree s).journal = s.journal ∧ (State.failTree s).link = s.link ∧
    (State.failTree s).clock = s.clock ∧ (State.failTree s).config = s.config ∧
    (State.failTree s).pending = s.pending := by
  unfold State.failTree
  (repeat' split) <;> simp

@[simp] theorem State.noteFailure_frame (s : State) :
    (State.noteFailure s).tree = s.tree ∧ (State.noteFailure s).home = s.home ∧
    (State.noteFailure s).enrol = s.enrol ∧ (State.noteFailure s).sched = s.sched ∧
    (State.noteFailure s).down = s.down ∧ (State.noteFailure s).watch = s.watch ∧
    (State.noteFailure s).meter = s.meter ∧ (State.noteFailure s).journal = s.journal ∧
    (State.noteFailure s).roster = s.roster ∧ (State.noteFailure s).config = s.config ∧
    (State.noteFailure s).pending = s.pending := by
  unfold State.noteFailure
  (repeat' split) <;> simp

@[simp] theorem State.switchIn_frame (s : State) :
    (State.switchIn s).tree = s.tree ∧ (State.switchIn s).home = s.home ∧ (State.switchIn s).enrol = s.enrol ∧
    (State.switchIn s).sched = s.sched ∧ (State.switchIn s).down = s.down ∧ (State.switchIn s).watch = s.watch ∧
    (State.switchIn s).meter = s.meter ∧ (State.switchIn s).journal = s.journal ∧
    (State.switchIn s).roster = s.roster ∧ (State.switchIn s).config = s.config ∧
    (State.switchIn s).pending = s.pending := by
  simp only [State.switchIn]
  (repeat' split) <;> simp

@[simp] theorem State.configFault_frame (s : State) :
    (State.configFault s).tree = s.tree ∧ (State.configFault s).home = s.home ∧
    (State.configFault s).enrol = s.enrol ∧ (State.configFault s).sched = s.sched ∧
    (State.configFault s).down = s.down ∧ (State.configFault s).watch = s.watch ∧
    (State.configFault s).meter = s.meter ∧ (State.configFault s).journal = s.journal ∧
    (State.configFault s).roster = s.roster ∧ (State.configFault s).config = s.config ∧
    (State.configFault s).pending = s.pending := by
  unfold State.configFault
  simp

@[simp] theorem State.handOver_frame (s : State) (c : Configuration) (mark : Half) :
    (State.handOver s c mark).home = s.home ∧ (State.handOver s c mark).enrol = s.enrol ∧
    (State.handOver s c mark).sched = s.sched ∧ (State.handOver s c mark).down = s.down ∧
    (State.handOver s c mark).watch = s.watch ∧ (State.handOver s c mark).link = s.link ∧
    (State.handOver s c mark).roster = s.roster ∧ (State.handOver s c mark).pending = s.pending := by
  unfold State.handOver
  simp

@[simp] theorem State.restartPort_frame (s : State) :
    (State.restartPort s).meter = s.meter ∧ (State.restartPort s).journal = s.journal ∧
    (State.restartPort s).link = s.link ∧ (State.restartPort s).roster = s.roster ∧
    (State.restartPort s).clock = s.clock ∧ (State.restartPort s).config = s.config ∧
    (State.restartPort s).pending = s.pending := by
  simp only [State.restartPort]
  (repeat' split) <;> simp

@[simp] theorem State.restartSlot_frame (s : State) (i : SlotId) :
    (State.restartSlot s i).journal = s.journal ∧ (State.restartSlot s i).link = s.link ∧
    (State.restartSlot s i).clock = s.clock ∧ (State.restartSlot s i).config = s.config ∧
    (State.restartSlot s i).pending = s.pending := by
  unfold State.restartSlot
  (repeat' split) <;> simp

@[simp] theorem State.restartManager_frame (s : State) :
    (State.restartManager s).journal = s.journal ∧ (State.restartManager s).link = s.link ∧
    (State.restartManager s).clock = s.clock ∧ (State.restartManager s).config = s.config ∧
    (State.restartManager s).pending = s.pending := by
  unfold State.restartManager
  simp

@[simp] theorem State.restart_frame (s : State) (o : RestartOrder) :
    (State.restart s o).journal = s.journal ∧ (State.restart s o).link = s.link ∧
    (State.restart s o).config = s.config ∧ (State.restart s o).pending = s.pending := by
  unfold State.restart
  (repeat' split) <;> simp

@[simp] theorem State.upstream_frame (s : State) (e : PlanEntry) (packets : List (List Byte)) :
    (State.upstream s e packets).tree = s.tree ∧ (State.upstream s e packets).home = s.home ∧
    (State.upstream s e packets).enrol = s.enrol ∧ (State.upstream s e packets).sched = s.sched ∧
    (State.upstream s e packets).watch = s.watch ∧ (State.upstream s e packets).journal = s.journal ∧
    (State.upstream s e packets).link = s.link ∧ (State.upstream s e packets).roster = s.roster ∧
    (State.upstream s e packets).clock = s.clock ∧ (State.upstream s e packets).config = s.config ∧
    (State.upstream s e packets).pending = s.pending := by
  simp only [State.upstream]
  (repeat' split) <;> simp

@[simp] theorem State.heardBurst_frame (s : State) (e : PlanEntry) (n : Round) (rx : BurstRx) :
    (State.heardBurst s e n rx).journal = s.journal ∧ (State.heardBurst s e n rx).link = s.link ∧
    (State.heardBurst s e n rx).roster = s.roster ∧ (State.heardBurst s e n rx).clock = s.clock ∧
    (State.heardBurst s e n rx).config = s.config ∧ (State.heardBurst s e n rx).pending = s.pending := by
  unfold State.heardBurst
  (repeat' split) <;> simp

@[simp] theorem State.applyUpsets_frame (s : State) (us : List TallyUpset) :
    (State.applyUpsets s us).tree = s.tree ∧ (State.applyUpsets s us).home = s.home ∧
    (State.applyUpsets s us).enrol = s.enrol ∧ (State.applyUpsets s us).sched = s.sched ∧
    (State.applyUpsets s us).down = s.down ∧ (State.applyUpsets s us).watch = s.watch ∧
    (State.applyUpsets s us).journal = s.journal ∧ (State.applyUpsets s us).link = s.link ∧
    (State.applyUpsets s us).roster = s.roster ∧ (State.applyUpsets s us).clock = s.clock ∧
    (State.applyUpsets s us).config = s.config ∧ (State.applyUpsets s us).pending = s.pending := by
  unfold State.applyUpsets
  simp

@[simp] theorem State.countRound_frame (s : State) :
    (State.countRound s).tree = s.tree ∧ (State.countRound s).home = s.home ∧
    (State.countRound s).sched = s.sched ∧ (State.countRound s).down = s.down ∧
    (State.countRound s).link = s.link ∧ (State.countRound s).config = s.config ∧
    (State.countRound s).pending = s.pending := by
  unfold State.countRound
  simp

@[simp] theorem State.offerOwed_frame (s : State) (i : SlotId) :
    (State.offerOwed s i).enrol = s.enrol ∧ (State.offerOwed s i).sched = s.sched ∧
    (State.offerOwed s i).down = s.down ∧ (State.offerOwed s i).watch = s.watch ∧
    (State.offerOwed s i).meter = s.meter ∧ (State.offerOwed s i).journal = s.journal ∧
    (State.offerOwed s i).link = s.link ∧ (State.offerOwed s i).roster = s.roster ∧
    (State.offerOwed s i).clock = s.clock ∧ (State.offerOwed s i).config = s.config ∧
    (State.offerOwed s i).pending = s.pending := by
  simp only [State.offerOwed]
  (repeat' split) <;> simp

@[simp] theorem State.offerEnrolment_frame (s : State) (i : SlotId) :
    (State.offerEnrolment s i).home = s.home ∧ (State.offerEnrolment s i).down = s.down ∧
    (State.offerEnrolment s i).watch = s.watch ∧ (State.offerEnrolment s i).meter = s.meter ∧
    (State.offerEnrolment s i).journal = s.journal ∧ (State.offerEnrolment s i).link = s.link ∧
    (State.offerEnrolment s i).roster = s.roster ∧ (State.offerEnrolment s i).clock = s.clock ∧
    (State.offerEnrolment s i).config = s.config ∧ (State.offerEnrolment s i).pending = s.pending := by
  unfold State.offerEnrolment
  simp

@[simp] theorem State.roundOffers_frame (s : State) :
    (State.roundOffers s).down = s.down ∧ (State.roundOffers s).meter = s.meter ∧
    (State.roundOffers s).journal = s.journal ∧ (State.roundOffers s).config = s.config ∧
    (State.roundOffers s).pending = s.pending := by
  unfold State.roundOffers
  simp

@[simp] theorem State.composeRound_frame (s : State) (n : Round) :
    (State.composeRound s n).journal = s.journal ∧ (State.composeRound s n).link = s.link ∧
    (State.composeRound s n).roster = s.roster ∧ (State.composeRound s n).clock = s.clock ∧
    (State.composeRound s n).config = s.config ∧ (State.composeRound s n).pending = s.pending := by
  unfold State.composeRound
  simp

@[simp] theorem State.beginPeriodic_frame (s : State) :
    (State.beginPeriodic s).tree = s.tree ∧ (State.beginPeriodic s).home = s.home ∧
    (State.beginPeriodic s).sched = s.sched ∧ (State.beginPeriodic s).down = s.down ∧
    (State.beginPeriodic s).watch = s.watch ∧ (State.beginPeriodic s).meter = s.meter ∧
    (State.beginPeriodic s).journal = s.journal ∧ (State.beginPeriodic s).link = s.link ∧
    (State.beginPeriodic s).roster = s.roster ∧ (State.beginPeriodic s).clock = s.clock ∧
    (State.beginPeriodic s).config = s.config ∧ (State.beginPeriodic s).pending = s.pending := by
  unfold State.beginPeriodic
  (repeat' split) <;> simp

end Sys2Proof.Machine
end

