-- ==== Sys2Proof/Laws/Commands.lean ====
section
/-! SUPPORT. Laws/Commands.lean: every meaning answers a next state, and the blocks it leaves as they were; `exec` and `step`
always answer a next state. -/

namespace Sys2Proof.Machine

theorem execHoldoffTimeout_next (i : SlotId) (s : State) :
    ∃ t, execHoldoffTimeout i s = .next t ∧
      t.down = s.down ∧ t.meter = s.meter ∧ t.journal = s.journal ∧ t.link = s.link ∧ t.roster = s.roster ∧
      t.clock = s.clock ∧ t.config = s.config ∧ t.pending = s.pending := by
  simp only [execHoldoffTimeout]
  (repeat' split) <;> exact ⟨_, rfl, by simp⟩

theorem execLostExpiry_next (i : SlotId) (s : State) :
    ∃ t, execLostExpiry i s = .next t ∧
      t.journal = s.journal ∧ t.link = s.link ∧ t.clock = s.clock ∧ t.config = s.config ∧ t.pending = s.pending := by
  simp only [execLostExpiry]
  (repeat' split) <;> exact ⟨_, rfl, by simp⟩

theorem execRosterDecision_next (s : State) :
    ∃ t, execRosterDecision s = .next t ∧
      t.journal = s.journal ∧ t.clock = s.clock ∧ t.config = s.config ∧ t.pending = s.pending := by
  simp only [execRosterDecision]
  (repeat' split) <;> exact ⟨_, rfl, by simp⟩

theorem execDeroll_next (s : State) :
    ∃ t, execDeroll s = .next t ∧
      t.journal = s.journal ∧ t.clock = s.clock ∧ t.config = s.config ∧ t.pending = s.pending := by
  simp only [execDeroll]
  cases h : s.takeCommand 3 with
  | none => exact ⟨s, rfl, by simp⟩
  | some r =>
    obtain ⟨c, u⟩ := r
    obtain rfl := takeCommand_frame h
    clear h
    dsimp only
    (repeat' split) <;> exact ⟨_, rfl, by simp⟩

theorem execReadHome_next (s : State) :
    ∃ t, execReadHome s = .next t ∧
      t.tree = s.tree ∧ t.home = s.home ∧ t.enrol = s.enrol ∧ t.sched = s.sched ∧ t.down = s.down ∧
      t.watch = s.watch ∧ t.meter = s.meter ∧ t.journal = s.journal ∧ t.roster = s.roster ∧ t.clock = s.clock ∧
      t.config = s.config ∧ t.pending = s.pending := by
  simp only [execReadHome]
  cases h : s.takeCommand 4 with
  | none => exact ⟨s, rfl, by simp⟩
  | some r =>
    obtain ⟨c, u⟩ := r
    obtain rfl := takeCommand_frame h
    clear h
    dsimp only
    (repeat' split) <;> exact ⟨_, rfl, by simp⟩

theorem execEchoSpanEnd_next (report : EchoSpanReport) (s : State) :
    ∃ t, execEchoSpanEnd report s = .next t ∧
      t.journal = s.journal ∧ t.link = s.link ∧ t.clock = s.clock ∧ t.config = s.config ∧ t.pending = s.pending := by
  simp only [execEchoSpanEnd]
  (repeat' split) <;> exact ⟨_, rfl, by simp⟩

theorem execReechoRequest_next (s : State) :
    ∃ t, execReechoRequest s = .next t ∧
      t.home = s.home ∧ t.down = s.down ∧ t.watch = s.watch ∧ t.meter = s.meter ∧ t.journal = s.journal ∧
      t.link = s.link ∧ t.roster = s.roster ∧ t.clock = s.clock ∧ t.config = s.config ∧ t.pending = s.pending := by
  simp only [execReechoRequest]
  (repeat' split) <;> exact ⟨_, rfl, by simp⟩

theorem execRollCallDue_next (s : State) :
    ∃ t, execRollCallDue s = .next t ∧
      t.tree = s.tree ∧ t.home = s.home ∧ t.sched = s.sched ∧ t.down = s.down ∧ t.watch = s.watch ∧
      t.meter = s.meter ∧ t.journal = s.journal ∧ t.link = s.link ∧ t.roster = s.roster ∧ t.clock = s.clock ∧
      t.config = s.config ∧ t.pending = s.pending := by
  simp only [execRollCallDue]
  (repeat' split) <;> exact ⟨_, rfl, by simp⟩

theorem execFollowUpDue_next (s : State) :
    ∃ t, execFollowUpDue s = .next t ∧
      t.tree = s.tree ∧ t.home = s.home ∧ t.sched = s.sched ∧ t.down = s.down ∧ t.watch = s.watch ∧
      t.meter = s.meter ∧ t.journal = s.journal ∧ t.link = s.link ∧ t.roster = s.roster ∧ t.clock = s.clock ∧
      t.config = s.config ∧ t.pending = s.pending := by
  simp only [execFollowUpDue]
  (repeat' split) <;> exact ⟨_, rfl, by simp⟩

theorem execRollNow_next (s : State) :
    ∃ t, execRollNow s = .next t ∧
      t.tree = s.tree ∧ t.home = s.home ∧ t.sched = s.sched ∧ t.down = s.down ∧ t.watch = s.watch ∧
      t.meter = s.meter ∧ t.journal = s.journal ∧ t.roster = s.roster ∧ t.clock = s.clock ∧
      t.config = s.config ∧ t.pending = s.pending := by
  simp only [execRollNow]
  cases h : s.takeCommand 8 with
  | none => exact ⟨s, rfl, by simp⟩
  | some r =>
    obtain ⟨c, u⟩ := r
    obtain rfl := takeCommand_frame h
    clear h
    dsimp only
    (repeat' split) <;> exact ⟨_, rfl, by simp⟩

theorem execDrainComplete_next (i : SlotId) (s : State) :
    ∃ t, execDrainComplete i s = .next t ∧
      t.clock = s.clock ∧ t.config = s.config ∧ t.pending = s.pending := by
  simp only [execDrainComplete]
  (repeat' split) <;> exact ⟨_, rfl, by simp⟩

theorem execIntervalRound_next (s : State) :
    ∃ t, execIntervalRound s = .next t ∧
      t.tree = s.tree ∧ t.home = s.home ∧ t.enrol = s.enrol ∧ t.sched = s.sched ∧ t.down = s.down ∧
      t.watch = s.watch ∧ t.roster = s.roster ∧ t.clock = s.clock ∧ t.config = s.config ∧ t.pending = s.pending := by
  simp only [execIntervalRound]
  (repeat' split) <;> exact ⟨_, rfl, by simp⟩

theorem execQueueFlush_next (s : State) :
    ∃ t, execQueueFlush s = .next t ∧
      t.tree = s.tree ∧ t.home = s.home ∧ t.enrol = s.enrol ∧ t.sched = s.sched ∧ t.watch = s.watch ∧
      t.journal = s.journal ∧ t.link = s.link ∧ t.roster = s.roster ∧ t.clock = s.clock ∧ t.config = s.config ∧
      t.pending = s.pending := by
  simp only [execQueueFlush]
  (repeat' split) <;> exact ⟨_, rfl, by simp⟩

theorem execAnswerDecode_next (rx : AnswerRx) (s : State) :
    ∃ t, execAnswerDecode rx s = .next t ∧
      t.journal = s.journal ∧ t.clock = s.clock ∧ t.config = s.config ∧ t.pending = s.pending := by
  simp only [execAnswerDecode]
  (repeat' split) <;> exact ⟨_, rfl, by simp⟩

theorem execProvision_next (s : State) :
    ∃ t, execProvision s = .next t ∧
      t.tree = s.tree ∧ t.sched = s.sched ∧ t.down = s.down ∧ t.watch = s.watch ∧ t.roster = s.roster ∧
      t.clock = s.clock ∧ t.config = s.config ∧ t.pending = s.pending := by
  simp only [execProvision]
  cases h : s.takeCommand 1 with
  | none => exact ⟨s, rfl, by simp⟩
  | some r =>
    obtain ⟨c, u⟩ := r
    obtain rfl := takeCommand_frame h
    clear h
    dsimp only
    exact ⟨_, rfl, by simp⟩

theorem execProfileCloseAnswer_next (s : State) :
    ∃ t, execProfileCloseAnswer s = .next t ∧
      t.tree = s.tree ∧ t.sched = s.sched ∧ t.down = s.down ∧ t.watch = s.watch ∧ t.journal = s.journal ∧
      t.roster = s.roster ∧ t.clock = s.clock ∧ t.config = s.config ∧ t.pending = s.pending := by
  simp only [execProfileCloseAnswer]
  (repeat' split) <;> exact ⟨_, rfl, by simp⟩

theorem execUnprovision_next (s : State) :
    ∃ t, execUnprovision s = .next t ∧
      t.tree = s.tree ∧ t.home = s.home ∧ t.sched = s.sched ∧ t.down = s.down ∧ t.watch = s.watch ∧
      t.meter = s.meter ∧ t.journal = s.journal ∧ t.roster = s.roster ∧ t.clock = s.clock ∧
      t.config = s.config ∧ t.pending = s.pending := by
  simp only [execUnprovision]
  cases h : s.takeCommand 2 with
  | none => exact ⟨s, rfl, by simp⟩
  | some r =>
    obtain ⟨c, u⟩ := r
    obtain rfl := takeCommand_frame h
    clear h
    dsimp only
    (repeat' split) <;> exact ⟨_, rfl, by simp⟩

theorem execReadStrangers_next (s : State) :
    ∃ t, execReadStrangers s = .next t ∧
      t.tree = s.tree ∧ t.home = s.home ∧ t.enrol = s.enrol ∧ t.sched = s.sched ∧ t.down = s.down ∧
      t.watch = s.watch ∧ t.meter = s.meter ∧ t.journal = s.journal ∧ t.roster = s.roster ∧ t.clock = s.clock ∧
      t.config = s.config ∧ t.pending = s.pending := by
  simp only [execReadStrangers]
  cases h : s.takeCommand 6 with
  | none => exact ⟨s, rfl, by simp⟩
  | some r =>
    obtain ⟨c, u⟩ := r
    obtain rfl := takeCommand_frame h
    clear h
    dsimp only
    (repeat' split) <;> exact ⟨_, rfl, by simp⟩

theorem execForgetStrangers_next (s : State) :
    ∃ t, execForgetStrangers s = .next t ∧
      t.tree = s.tree ∧ t.home = s.home ∧ t.sched = s.sched ∧ t.down = s.down ∧ t.watch = s.watch ∧
      t.meter = s.meter ∧ t.journal = s.journal ∧ t.roster = s.roster ∧ t.clock = s.clock ∧
      t.config = s.config ∧ t.pending = s.pending := by
  simp only [execForgetStrangers]
  cases h : s.takeCommand 7 with
  | none => exact ⟨s, rfl, by simp⟩
  | some r =>
    obtain ⟨c, u⟩ := r
    obtain rfl := takeCommand_frame h
    clear h
    dsimp only
    exact ⟨_, rfl, by simp⟩

theorem execPacketIngress_next (tag : Half) (content : List Byte) (s : State) :
    ∃ t, execPacketIngress tag content s = .next t ∧
      t.tree = s.tree ∧ t.home = s.home ∧ t.enrol = s.enrol ∧ t.sched = s.sched ∧ t.watch = s.watch ∧
      t.journal = s.journal ∧ t.link = s.link ∧ t.roster = s.roster ∧ t.clock = s.clock ∧ t.config = s.config ∧
      t.pending = s.pending := by
  simp only [execPacketIngress]
  (repeat' split) <;> exact ⟨_, rfl, by simp⟩

theorem execRoundTransmissionEnd_next (s : State) :
    ∃ t, execRoundTransmissionEnd s = .next t ∧
      t.home = s.home ∧ t.enrol = s.enrol ∧ t.sched = s.sched ∧ t.watch = s.watch ∧ t.meter = s.meter ∧
      t.journal = s.journal ∧ t.link = s.link ∧ t.roster = s.roster ∧ t.clock = s.clock ∧ t.config = s.config ∧
      t.pending = s.pending := by
  simp only [execRoundTransmissionEnd]
  exact ⟨_, rfl, by simp⟩

theorem execRoundReceptionEnd_next (s : State) :
    ∃ t, execRoundReceptionEnd s = .next t ∧
      t.journal = s.journal ∧ t.clock = s.clock ∧ t.config = s.config ∧ t.pending = s.pending := by
  simp only [execRoundReceptionEnd]
  (repeat' split) <;> exact ⟨_, rfl, by simp⟩

theorem execLightSample_next (place : SamplePlace) (count : BitVec 12) (s : State) :
    ∃ t, execLightSample place count s = .next t ∧
      t.tree = s.tree ∧ t.home = s.home ∧ t.enrol = s.enrol ∧ t.sched = s.sched ∧ t.down = s.down ∧
      t.meter = s.meter ∧ t.journal = s.journal ∧ t.link = s.link ∧ t.roster = s.roster ∧ t.clock = s.clock ∧
      t.config = s.config ∧ t.pending = s.pending := by
  simp only [execLightSample]
  (repeat' split) <;> exact ⟨_, rfl, by simp⟩

theorem execLocateOrdersSettled_next (s : State) :
    ∃ t, execLocateOrdersSettled s = .next t ∧
      t.tree = s.tree ∧ t.home = s.home ∧ t.enrol = s.enrol ∧ t.down = s.down ∧ t.meter = s.meter ∧
      t.journal = s.journal ∧ t.link = s.link ∧ t.roster = s.roster ∧ t.clock = s.clock ∧ t.config = s.config ∧
      t.pending = s.pending := by
  simp only [execLocateOrdersSettled]
  (repeat' split) <;> exact ⟨_, rfl, by simp⟩

theorem execAlertExpiry_next (s : State) :
    ∃ t, execAlertExpiry s = .next t ∧
      t.home = s.home ∧ t.enrol = s.enrol ∧ t.down = s.down ∧ t.meter = s.meter ∧ t.journal = s.journal ∧
      t.link = s.link ∧ t.roster = s.roster ∧ t.clock = s.clock ∧ t.config = s.config ∧ t.pending = s.pending := by
  simp only [execAlertExpiry]
  (repeat' split) <;> exact ⟨_, rfl, by simp⟩

theorem execForeignLightRetest_next (s : State) :
    ∃ t, execForeignLightRetest s = .next t ∧
      t.tree = s.tree ∧ t.home = s.home ∧ t.enrol = s.enrol ∧ t.down = s.down ∧ t.meter = s.meter ∧
      t.journal = s.journal ∧ t.link = s.link ∧ t.roster = s.roster ∧ t.clock = s.clock ∧ t.config = s.config ∧
      t.pending = s.pending := by
  simp only [execForeignLightRetest]
  (repeat' split) <;> exact ⟨_, rfl, by simp⟩

theorem execMeterUpdateConsume_next (s : State) :
    ∃ t, execMeterUpdateConsume s = .next t ∧
      t.tree = s.tree ∧ t.home = s.home ∧ t.enrol = s.enrol ∧ t.sched = s.sched ∧ t.down = s.down ∧
      t.watch = s.watch ∧ t.journal = s.journal ∧ t.roster = s.roster ∧ t.clock = s.clock ∧
      t.config = s.config ∧ t.pending = s.pending := by
  simp only [execMeterUpdateConsume]
  (repeat' split) <;> exact ⟨_, rfl, by simp⟩

theorem execScrubPass_next (s : State) :
    ∃ t, execScrubPass s = .next t ∧
      t.tree = s.tree ∧ t.home = s.home ∧ t.enrol = s.enrol ∧ t.sched = s.sched ∧ t.down = s.down ∧
      t.watch = s.watch ∧ t.journal = s.journal ∧ t.roster = s.roster ∧ t.clock = s.clock ∧
      t.config = s.config ∧ t.pending = s.pending := by
  simp only [execScrubPass]
  (repeat' split) <;> exact ⟨_, rfl, by simp⟩

theorem execPacingTick_next (s : State) :
    ∃ t, execPacingTick s = .next t ∧
      t.tree = s.tree ∧ t.home = s.home ∧ t.enrol = s.enrol ∧ t.sched = s.sched ∧ t.down = s.down ∧
      t.watch = s.watch ∧ t.meter = s.meter ∧ t.roster = s.roster ∧ t.clock = s.clock ∧ t.config = s.config ∧
      t.pending = s.pending := by
  exact ⟨_, rfl, by simp⟩

theorem execUsageAck_next (s : State) :
    ∃ t, execUsageAck s = .next t ∧
      t.clock = s.clock ∧ t.config = s.config ∧ t.pending = s.pending := by
  simp only [execUsageAck]
  (repeat' split) <;> exact ⟨_, rfl, by simp⟩

theorem execAckTimeout_next (s : State) :
    ∃ t, execAckTimeout s = .next t ∧
      t.tree = s.tree ∧ t.home = s.home ∧ t.enrol = s.enrol ∧ t.sched = s.sched ∧ t.down = s.down ∧
      t.watch = s.watch ∧ t.meter = s.meter ∧ t.link = s.link ∧ t.roster = s.roster ∧ t.clock = s.clock ∧
      t.config = s.config ∧ t.pending = s.pending := by
  simp only [execAckTimeout]
  (repeat' split) <;> exact ⟨_, rfl, by simp⟩

theorem execClaimRefresh_next (s : State) :
    ∃ t, execClaimRefresh s = .next t ∧
      t.tree = s.tree ∧ t.home = s.home ∧ t.enrol = s.enrol ∧ t.sched = s.sched ∧ t.down = s.down ∧
      t.watch = s.watch ∧ t.meter = s.meter ∧ t.journal = s.journal ∧ t.link = s.link ∧ t.clock = s.clock ∧
      t.config = s.config ∧ t.pending = s.pending := by
  simp only [execClaimRefresh]
  (repeat' split) <;> exact ⟨_, rfl, by simp⟩

theorem execRosterAgeing_next (s : State) :
    ∃ t, execRosterAgeing s = .next t ∧
      t.tree = s.tree ∧ t.enrol = s.enrol ∧ t.sched = s.sched ∧ t.down = s.down ∧ t.watch = s.watch ∧
      t.meter = s.meter ∧ t.journal = s.journal ∧ t.link = s.link ∧ t.clock = s.clock ∧ t.config = s.config ∧
      t.pending = s.pending := by
  simp only [execRosterAgeing]
  exact ⟨_, rfl, by simp⟩

theorem execBarRebroadcast_next (s : State) :
    ∃ t, execBarRebroadcast s = .next t ∧
      t.tree = s.tree ∧ t.home = s.home ∧ t.enrol = s.enrol ∧ t.sched = s.sched ∧ t.down = s.down ∧
      t.watch = s.watch ∧ t.meter = s.meter ∧ t.journal = s.journal ∧ t.link = s.link ∧ t.clock = s.clock ∧
      t.config = s.config ∧ t.pending = s.pending := by
  simp only [execBarRebroadcast]
  (repeat' split) <;> exact ⟨_, rfl, by simp⟩

theorem execSecondTick_next (s : State) :
    ∃ t, execSecondTick s = .next t ∧
      t.tree = s.tree ∧ t.home = s.home ∧ t.enrol = s.enrol ∧ t.sched = s.sched ∧ t.down = s.down ∧
      t.watch = s.watch ∧ t.journal = s.journal ∧ t.roster = s.roster ∧ t.config = s.config ∧
      t.pending = s.pending := by
  exact ⟨_, rfl, by simp⟩

theorem execTimeSetExpiry_next (s : State) :
    ∃ t, execTimeSetExpiry s = .next t ∧
      t.tree = s.tree ∧ t.home = s.home ∧ t.enrol = s.enrol ∧ t.sched = s.sched ∧ t.down = s.down ∧
      t.watch = s.watch ∧ t.journal = s.journal ∧ t.link = s.link ∧ t.roster = s.roster ∧ t.config = s.config ∧
      t.pending = s.pending := by
  simp only [execTimeSetExpiry]
  (repeat' split) <;> exact ⟨_, rfl, by simp⟩

theorem execFrameReceive_next (bytes : List Byte) (s : State) :
    ∃ t, execFrameReceive bytes s = .next t ∧
      t.tree = s.tree ∧ t.enrol = s.enrol ∧ t.sched = s.sched ∧ t.down = s.down ∧ t.watch = s.watch ∧
      t.config = s.config ∧ t.pending = s.pending := by
  simp only [execFrameReceive]
  (repeat' split) <;> exact ⟨_, rfl, by simp⟩

theorem execCommandReceive_next (s : State) :
    ∃ t, execCommandReceive s = .next t ∧
      t.tree = s.tree ∧ t.home = s.home ∧ t.enrol = s.enrol ∧ t.sched = s.sched ∧ t.down = s.down ∧
      t.watch = s.watch ∧ t.meter = s.meter ∧ t.journal = s.journal ∧ t.roster = s.roster ∧ t.clock = s.clock ∧
      t.config = s.config ∧ t.pending = s.pending := by
  simp only [execCommandReceive]
  (repeat' split) <;> exact ⟨_, rfl, by simp⟩

theorem execReadStatus_next (s : State) :
    ∃ t, execReadStatus s = .next t ∧
      t.tree = s.tree ∧ t.home = s.home ∧ t.enrol = s.enrol ∧ t.sched = s.sched ∧ t.down = s.down ∧
      t.watch = s.watch ∧ t.meter = s.meter ∧ t.journal = s.journal ∧ t.roster = s.roster ∧ t.clock = s.clock ∧
      t.config = s.config ∧ t.pending = s.pending := by
  simp only [execReadStatus]
  cases h : s.takeCommand readStatusCode with
  | none => exact ⟨s, rfl, by simp⟩
  | some r =>
    obtain ⟨c, u⟩ := r
    obtain rfl := takeCommand_frame h
    clear h
    dsimp only
    exact ⟨_, rfl, by simp⟩

theorem execClearFlags_next (s : State) :
    ∃ t, execClearFlags s = .next t ∧
      t.tree = s.tree ∧ t.home = s.home ∧ t.enrol = s.enrol ∧ t.sched = s.sched ∧ t.down = s.down ∧
      t.watch = s.watch ∧ t.meter = s.meter ∧ t.journal = s.journal ∧ t.roster = s.roster ∧ t.clock = s.clock ∧
      t.config = s.config ∧ t.pending = s.pending := by
  simp only [execClearFlags]
  cases h : s.takeCommand 10 with
  | none => exact ⟨s, rfl, by simp⟩
  | some r =>
    obtain ⟨c, u⟩ := r
    obtain rfl := takeCommand_frame h
    clear h
    dsimp only
    exact ⟨_, rfl, by simp⟩

theorem execFrameTransmitStart_next (start : TransmitStart) (s : State) :
    ∃ t, execFrameTransmitStart start s = .next t ∧
      t.tree = s.tree ∧ t.home = s.home ∧ t.enrol = s.enrol ∧ t.sched = s.sched ∧ t.down = s.down ∧
      t.watch = s.watch ∧ t.meter = s.meter ∧ t.journal = s.journal ∧ t.roster = s.roster ∧ t.clock = s.clock ∧
      t.config = s.config ∧ t.pending = s.pending := by
  simp only [execFrameTransmitStart]
  (repeat' split) <;> exact ⟨_, rfl, by simp⟩

/-- A stopped frame changes nothing of the link but what stands on the pair. -/
theorem Link.stopAndJam_frame (l : Link) :
    l.stopAndJam = { l with wire := l.stopAndJam.wire, cut := l.stopAndJam.cut } := rfl

/-- No more of a collided frame went out than the frame holds, and its last byte is the one in which it was stopped. -/
theorem Link.stopAndJam_wire (l : Link) (h : l.mismatch < 8 * l.wire.length) :
    l.stopAndJam.cut = some { bits := l.mismatch + 1, jam := 8 }
      ∧ l.stopAndJam.wire.length = l.mismatch / 8 + 1 := by
  have hb : l.mismatch / 8 + 1 ≤ l.wire.length := by omega
  simp only [Link.stopAndJam, Config.jamBits, List.length_take]
  exact ⟨by rw [Nat.min_eq_left (by omega)], by omega⟩

theorem execCollision_next (s : State) :
    ∃ t, execCollision s = .next t ∧
      t.tree = s.tree ∧ t.home = s.home ∧ t.enrol = s.enrol ∧ t.sched = s.sched ∧ t.down = s.down ∧
      t.watch = s.watch ∧ t.config = s.config ∧ t.pending = s.pending := by
  simp only [execCollision]
  (repeat' split) <;> exact ⟨_, rfl, by simp⟩

theorem execBackoffEnd_next (s : State) :
    ∃ t, execBackoffEnd s = .next t ∧
      t.tree = s.tree ∧ t.home = s.home ∧ t.enrol = s.enrol ∧ t.sched = s.sched ∧ t.down = s.down ∧
      t.watch = s.watch ∧ t.meter = s.meter ∧ t.journal = s.journal ∧ t.roster = s.roster ∧ t.clock = s.clock ∧
      t.config = s.config ∧ t.pending = s.pending := by
  simp only [execBackoffEnd]
  (repeat' split) <;> exact ⟨_, rfl, by simp⟩

theorem execFrameSent_next (s : State) :
    ∃ t, execFrameSent s = .next t ∧
      t.tree = s.tree ∧ t.home = s.home ∧ t.enrol = s.enrol ∧ t.sched = s.sched ∧ t.down = s.down ∧
      t.watch = s.watch ∧ t.config = s.config ∧ t.pending = s.pending := by
  simp only [execFrameSent]
  (repeat' split) <;> exact ⟨_, rfl, by simp⟩

theorem execLinkActivity_next (event : LinkEvent) (s : State) :
    ∃ t, execLinkActivity event s = .next t ∧
      t.tree = s.tree ∧ t.home = s.home ∧ t.enrol = s.enrol ∧ t.sched = s.sched ∧ t.down = s.down ∧
      t.watch = s.watch ∧ t.meter = s.meter ∧ t.journal = s.journal ∧ t.roster = s.roster ∧ t.clock = s.clock ∧
      t.config = s.config ∧ t.pending = s.pending := by
  simp only [execLinkActivity]
  (repeat' split) <;> exact ⟨_, rfl, by simp⟩

theorem execDarkHoldEnd_next (s : State) :
    ∃ t, execDarkHoldEnd s = .next t ∧
      t.home = s.home ∧ t.enrol = s.enrol ∧ t.sched = s.sched ∧ t.down = s.down ∧ t.watch = s.watch ∧
      t.meter = s.meter ∧ t.journal = s.journal ∧ t.link = s.link ∧ t.roster = s.roster ∧ t.clock = s.clock ∧
      t.config = s.config ∧ t.pending = s.pending := by
  simp only [execDarkHoldEnd]
  (repeat' split) <;> exact ⟨_, rfl, by simp⟩

theorem execCalibrationSample_next (count : BitVec 12) (s : State) :
    ∃ t, execCalibrationSample count s = .next t ∧
      t.home = s.home ∧ t.down = s.down ∧ t.meter = s.meter ∧ t.journal = s.journal ∧ t.link = s.link ∧
      t.roster = s.roster ∧ t.clock = s.clock ∧ t.config = s.config ∧ t.pending = s.pending := by
  simp only [execCalibrationSample]
  (repeat' split) <;> exact ⟨_, rfl, by simp⟩

theorem execLineClockFailure_next (s : State) :
    ∃ t, execLineClockFailure s = .next t ∧
      t.journal = s.journal ∧ t.config = s.config ∧ t.pending = s.pending := by
  simp only [execLineClockFailure]
  (repeat' split) <;> exact ⟨_, rfl, by simp⟩

theorem execStartCountComplete_next (s : State) :
    ∃ t, execStartCountComplete s = .next t ∧
      t.home = s.home ∧ t.enrol = s.enrol ∧ t.sched = s.sched ∧ t.down = s.down ∧ t.watch = s.watch ∧
      t.meter = s.meter ∧ t.journal = s.journal ∧ t.roster = s.roster ∧ t.config = s.config ∧
      t.pending = s.pending := by
  simp only [execStartCountComplete]
  (repeat' split) <;> exact ⟨_, rfl, by simp⟩

theorem execRestoreCountComplete_next (s : State) :
    ∃ t, execRestoreCountComplete s = .next t ∧
      t.home = s.home ∧ t.down = s.down ∧ t.watch = s.watch ∧ t.meter = s.meter ∧ t.journal = s.journal ∧
      t.roster = s.roster ∧ t.config = s.config ∧ t.pending = s.pending := by
  simp only [execRestoreCountComplete]
  (repeat' split) <;> exact ⟨_, rfl, by simp⟩

theorem execPowerOnReset_next (straps : BitVec 5) (s : State) :
    ∃ t, execPowerOnReset straps s = .next t ∧
      t.pending = s.pending := by
  exact ⟨_, rfl, rfl⟩

theorem execPinReset_next (straps : BitVec 5) (s : State) :
    ∃ t, execPinReset straps s = .next t ∧
      t.pending = s.pending := by
  exact ⟨_, rfl, rfl⟩

theorem execConfigReadAttempt_next (answer : Option (List Byte)) (s : State) :
    ∃ t, execConfigReadAttempt answer s = .next t ∧
      t.tree = s.tree ∧ t.home = s.home ∧ t.enrol = s.enrol ∧ t.sched = s.sched ∧ t.down = s.down ∧
      t.watch = s.watch ∧ t.meter = s.meter ∧ t.journal = s.journal ∧ t.roster = s.roster ∧
      t.config = s.config ∧ t.pending = s.pending := by
  simp only [execConfigReadAttempt]
  (repeat' split) <;> exact ⟨_, rfl, by simp⟩

/-- The write-back writes the two bytes of the count at 207 and 208, most significant first, and no others (R197). -/
theorem startCountWrites_eq (count : Half) :
    startCountWrites count = [(207, BitVec.ofNat 8 (count.toNat / 256)), (208, BitVec.ofNat 8 count.toNat)] := rfl

theorem execStartCountWriteBack_next (readBack : Option Half) (s : State) :
    ∃ t, execStartCountWriteBack readBack s = .next t ∧
      t.home = s.home ∧ t.enrol = s.enrol ∧ t.sched = s.sched ∧ t.down = s.down ∧ t.watch = s.watch ∧
      t.roster = s.roster ∧ t.pending = s.pending := by
  simp only [execStartCountWriteBack]
  (repeat' split) <;> exact ⟨_, rfl, by simp⟩

theorem execTreeRestart_next (o : RestartOrder) (s : State) :
    ∃ t, execTreeRestart o s = .next t ∧
      t.journal = s.journal ∧ t.config = s.config ∧ t.pending = s.pending := by
  simp only [execTreeRestart]
  cases h : s.takeCommand 9 with
  | none => exact ⟨s, rfl, by simp⟩
  | some r =>
    obtain ⟨c, u⟩ := r
    obtain rfl := takeCommand_frame h
    clear h
    dsimp only
    exact ⟨_, rfl, by simp⟩

theorem execBurstClassify_next (rx : BurstRx) (s : State) :
    ∃ t, execBurstClassify rx s = .next t ∧
      t.journal = s.journal ∧ t.link = s.link ∧ t.clock = s.clock ∧ t.config = s.config ∧ t.pending = s.pending := by
  simp only [execBurstClassify]
  (repeat' split) <;> exact ⟨_, rfl, by simp⟩

theorem execRollCallSpanReport_next (light : Bool) (s : State) :
    ∃ t, execRollCallSpanReport light s = .next t ∧
      t.home = s.home ∧ t.down = s.down ∧ t.meter = s.meter ∧ t.journal = s.journal ∧ t.link = s.link ∧
      t.roster = s.roster ∧ t.clock = s.clock ∧ t.config = s.config ∧ t.pending = s.pending := by
  simp only [execRollCallSpanReport]
  (repeat' split) <;> exact ⟨_, rfl, by simp⟩

theorem execRoundBoundary_next (offersFirst : Bool) (upsets : List TallyUpset) (s : State) :
    ∃ t, execRoundBoundary offersFirst upsets s = .next t ∧
      t.config = s.config ∧ t.pending = s.pending := by
  simp only [execRoundBoundary]
  (repeat' split) <;> exact ⟨_, rfl, by simp⟩

/-- Every command has an effect: `exec` answers a next state and leaves the queue of waiting commands as it was. -/
theorem exec_next (i : Instr) (s : State) : ∃ t, exec i s = .next t ∧ t.pending = s.pending := by
  cases i <;> unfold exec <;> dsimp only
  · obtain ⟨t, h, k⟩ := execPowerOnReset_next _ s
    exact ⟨t, h, by simp_all⟩
  · obtain ⟨t, h, k⟩ := execPinReset_next _ s
    exact ⟨t, h, by simp_all⟩
  · obtain ⟨t, h, k⟩ := execConfigReadAttempt_next _ s
    exact ⟨t, h, by simp_all⟩
  · obtain ⟨t, h, k⟩ := execStartCountWriteBack_next _ s
    exact ⟨t, h, by simp_all⟩
  · obtain ⟨t, h, k⟩ := execRoundBoundary_next _ _ s
    exact ⟨t, h, by simp_all⟩
  · obtain ⟨t, h, k⟩ := execRollCallDue_next s
    exact ⟨t, h, by simp_all⟩
  · obtain ⟨t, h, k⟩ := execFollowUpDue_next s
    exact ⟨t, h, by simp_all⟩
  · obtain ⟨t, h, k⟩ := execDarkHoldEnd_next s
    exact ⟨t, h, by simp_all⟩
  · obtain ⟨t, h, k⟩ := execCalibrationSample_next _ s
    exact ⟨t, h, by simp_all⟩
  · obtain ⟨t, h, k⟩ := execLineClockFailure_next s
    exact ⟨t, h, by simp_all⟩
  · obtain ⟨t, h, k⟩ := execStartCountComplete_next s
    exact ⟨t, h, by simp_all⟩
  · obtain ⟨t, h, k⟩ := execRestoreCountComplete_next s
    exact ⟨t, h, by simp_all⟩
  · obtain ⟨t, h, k⟩ := execBurstClassify_next _ s
    exact ⟨t, h, by simp_all⟩
  · obtain ⟨t, h, k⟩ := execHoldoffTimeout_next _ s
    exact ⟨t, h, by simp_all⟩
  · obtain ⟨t, h, k⟩ := execAnswerDecode_next _ s
    exact ⟨t, h, by simp_all⟩
  · obtain ⟨t, h, k⟩ := execRollCallSpanReport_next _ s
    exact ⟨t, h, by simp_all⟩
  · obtain ⟨t, h, k⟩ := execEchoSpanEnd_next _ s
    exact ⟨t, h, by simp_all⟩
  · obtain ⟨t, h, k⟩ := execReechoRequest_next s
    exact ⟨t, h, by simp_all⟩
  · obtain ⟨t, h, k⟩ := execLightSample_next _ _ s
    exact ⟨t, h, by simp_all⟩
  · obtain ⟨t, h, k⟩ := execRoundReceptionEnd_next s
    exact ⟨t, h, by simp_all⟩
  · obtain ⟨t, h, k⟩ := execLocateOrdersSettled_next s
    exact ⟨t, h, by simp_all⟩
  · obtain ⟨t, h, k⟩ := execAlertExpiry_next s
    exact ⟨t, h, by simp_all⟩
  · obtain ⟨t, h, k⟩ := execForeignLightRetest_next s
    exact ⟨t, h, by simp_all⟩
  · obtain ⟨t, h, k⟩ := execLostExpiry_next _ s
    exact ⟨t, h, by simp_all⟩
  · obtain ⟨t, h, k⟩ := execQueueFlush_next s
    exact ⟨t, h, by simp_all⟩
  · obtain ⟨t, h, k⟩ := execPacketIngress_next _ _ s
    exact ⟨t, h, by simp_all⟩
  · obtain ⟨t, h, k⟩ := execRoundTransmissionEnd_next s
    exact ⟨t, h, by simp_all⟩
  · obtain ⟨t, h, k⟩ := execMeterUpdateConsume_next s
    exact ⟨t, h, by simp_all⟩
  · obtain ⟨t, h, k⟩ := execDrainComplete_next _ s
    exact ⟨t, h, by simp_all⟩
  · obtain ⟨t, h, k⟩ := execScrubPass_next s
    exact ⟨t, h, by simp_all⟩
  · obtain ⟨t, h, k⟩ := execIntervalRound_next s
    exact ⟨t, h, by simp_all⟩
  · obtain ⟨t, h, k⟩ := execPacingTick_next s
    exact ⟨t, h, by simp_all⟩
  · obtain ⟨t, h, k⟩ := execUsageAck_next s
    exact ⟨t, h, by simp_all⟩
  · obtain ⟨t, h, k⟩ := execAckTimeout_next s
    exact ⟨t, h, by simp_all⟩
  · obtain ⟨t, h, k⟩ := execFrameReceive_next _ s
    exact ⟨t, h, by simp_all⟩
  · obtain ⟨t, h, k⟩ := execRosterDecision_next s
    exact ⟨t, h, by simp_all⟩
  · obtain ⟨t, h, k⟩ := execCommandReceive_next s
    exact ⟨t, h, by simp_all⟩
  · obtain ⟨t, h, k⟩ := execProvision_next s
    exact ⟨t, h, by simp_all⟩
  · obtain ⟨t, h, k⟩ := execProfileCloseAnswer_next s
    exact ⟨t, h, by simp_all⟩
  · obtain ⟨t, h, k⟩ := execUnprovision_next s
    exact ⟨t, h, by simp_all⟩
  · obtain ⟨t, h, k⟩ := execDeroll_next s
    exact ⟨t, h, by simp_all⟩
  · obtain ⟨t, h, k⟩ := execReadHome_next s
    exact ⟨t, h, by simp_all⟩
  · obtain ⟨t, h, k⟩ := execReadStatus_next s
    exact ⟨t, h, by simp_all⟩
  · obtain ⟨t, h, k⟩ := execReadStrangers_next s
    exact ⟨t, h, by simp_all⟩
  · obtain ⟨t, h, k⟩ := execForgetStrangers_next s
    exact ⟨t, h, by simp_all⟩
  · obtain ⟨t, h, k⟩ := execRollNow_next s
    exact ⟨t, h, by simp_all⟩
  · obtain ⟨t, h, k⟩ := execTreeRestart_next _ s
    exact ⟨t, h, by simp_all⟩
  · obtain ⟨t, h, k⟩ := execClearFlags_next s
    exact ⟨t, h, by simp_all⟩
  · obtain ⟨t, h, k⟩ := execFrameTransmitStart_next _ s
    exact ⟨t, h, by simp_all⟩
  · obtain ⟨t, h, k⟩ := execCollision_next s
    exact ⟨t, h, by simp_all⟩
  · obtain ⟨t, h, k⟩ := execBackoffEnd_next s
    exact ⟨t, h, by simp_all⟩
  · obtain ⟨t, h, k⟩ := execFrameSent_next s
    exact ⟨t, h, by simp_all⟩
  · obtain ⟨t, h, k⟩ := execSecondTick_next s
    exact ⟨t, h, by simp_all⟩
  · obtain ⟨t, h, k⟩ := execTimeSetExpiry_next s
    exact ⟨t, h, by simp_all⟩
  · obtain ⟨t, h, k⟩ := execClaimRefresh_next s
    exact ⟨t, h, by simp_all⟩
  · obtain ⟨t, h, k⟩ := execBarRebroadcast_next s
    exact ⟨t, h, by simp_all⟩
  · obtain ⟨t, h, k⟩ := execRosterAgeing_next s
    exact ⟨t, h, by simp_all⟩
  · obtain ⟨t, h, k⟩ := execLinkActivity_next _ s
    exact ⟨t, h, by simp_all⟩

end Sys2Proof.Machine
end

