-- ==== Sys2Proof/Laws/PerInstr.lean ====
section
/-! SUPPORT. Laws/PerInstr.lean: what the check of well-formedness decides, command by command: the sizes of its operands
that chapter 12 fixes, and nothing of a command that carries no item of chapter 12. -/

namespace Sys2Proof.Laws.WellFormedDecides

/-- The operand sizes of a command that carries an item of chapter 12. -/
def Sized : Instr → Prop
  | .configReadAttempt answer => ∀ bytes, answer = some bytes → bytes.length ≤ Config.imageBytes
  | .burstClassify rx => rx.header.length = tickBytes ∧ rx.payload.length ≤ payloadMax
  | .answerDecode rx => rx.copyA.length = tickBytes ∧ rx.copyB.length = tickBytes
  | .lightSample (.guard index) _ => index < 128
  | .lightSample (.quiet offset) _ => offset.val % 32 = 0
  | .frameReceive bytes => bytes.length ≤ frameMax
  | _ => True

/-- The check of a command holds exactly when its operands have their sizes. -/
def Statement (i : Instr) : Prop := i.wellFormed = true ↔ Sized i

theorem powerOnReset (straps : BitVec 5) : Statement (.powerOnReset straps) := ⟨fun _ => trivial, fun _ => rfl⟩
theorem pinReset (straps : BitVec 5) : Statement (.pinReset straps) := ⟨fun _ => trivial, fun _ => rfl⟩
theorem configReadAttempt (answer : Option (List Byte)) : Statement (.configReadAttempt answer) := by
  cases answer <;> simp [Statement, Instr.wellFormed, Sized]
theorem startCountWriteBack (readBack : Option Half) : Statement (.startCountWriteBack readBack) := ⟨fun _ => trivial, fun _ => rfl⟩
theorem roundBoundary (offersFirst : Bool) (upsets : List TallyUpset) : Statement (.roundBoundary offersFirst upsets) := ⟨fun _ => trivial, fun _ => rfl⟩
theorem rollCallDue : Statement .rollCallDue := ⟨fun _ => trivial, fun _ => rfl⟩
theorem followUpDue : Statement .followUpDue := ⟨fun _ => trivial, fun _ => rfl⟩
theorem darkHoldEnd : Statement .darkHoldEnd := ⟨fun _ => trivial, fun _ => rfl⟩
theorem calibrationSample (count : BitVec 12) : Statement (.calibrationSample count) := ⟨fun _ => trivial, fun _ => rfl⟩
theorem lineClockFailure : Statement .lineClockFailure := ⟨fun _ => trivial, fun _ => rfl⟩
theorem startCountComplete : Statement .startCountComplete := ⟨fun _ => trivial, fun _ => rfl⟩
theorem restoreCountComplete : Statement .restoreCountComplete := ⟨fun _ => trivial, fun _ => rfl⟩
theorem burstClassify (rx : BurstRx) : Statement (.burstClassify rx) := by
  simp [Statement, Instr.wellFormed, Sized]
theorem holdoffTimeout (slot : SlotId) : Statement (.holdoffTimeout slot) := ⟨fun _ => trivial, fun _ => rfl⟩
theorem answerDecode (rx : AnswerRx) : Statement (.answerDecode rx) := by
  simp [Statement, Instr.wellFormed, Sized]
theorem rollCallSpanReport (light : Bool) : Statement (.rollCallSpanReport light) := ⟨fun _ => trivial, fun _ => rfl⟩
theorem echoSpanEnd (report : EchoSpanReport) : Statement (.echoSpanEnd report) := ⟨fun _ => trivial, fun _ => rfl⟩
theorem reechoRequest : Statement .reechoRequest := ⟨fun _ => trivial, fun _ => rfl⟩
theorem lightSample (place : SamplePlace) (count : BitVec 12) : Statement (.lightSample place count) := by
  cases place <;> simp [Statement, Instr.wellFormed, Sized]
theorem roundReceptionEnd : Statement .roundReceptionEnd := ⟨fun _ => trivial, fun _ => rfl⟩
theorem locateOrdersSettled : Statement .locateOrdersSettled := ⟨fun _ => trivial, fun _ => rfl⟩
theorem alertExpiry : Statement .alertExpiry := ⟨fun _ => trivial, fun _ => rfl⟩
theorem foreignLightRetest : Statement .foreignLightRetest := ⟨fun _ => trivial, fun _ => rfl⟩
theorem lostExpiry (slot : SlotId) : Statement (.lostExpiry slot) := ⟨fun _ => trivial, fun _ => rfl⟩
theorem queueFlush : Statement .queueFlush := ⟨fun _ => trivial, fun _ => rfl⟩
theorem packetIngress (tag : Half) (content : List Byte) : Statement (.packetIngress tag content) := ⟨fun _ => trivial, fun _ => rfl⟩
theorem roundTransmissionEnd : Statement .roundTransmissionEnd := ⟨fun _ => trivial, fun _ => rfl⟩
theorem meterUpdateConsume : Statement .meterUpdateConsume := ⟨fun _ => trivial, fun _ => rfl⟩
theorem drainComplete (slot : SlotId) : Statement (.drainComplete slot) := ⟨fun _ => trivial, fun _ => rfl⟩
theorem scrubPass : Statement .scrubPass := ⟨fun _ => trivial, fun _ => rfl⟩
theorem intervalRound : Statement .intervalRound := ⟨fun _ => trivial, fun _ => rfl⟩
theorem pacingTick : Statement .pacingTick := ⟨fun _ => trivial, fun _ => rfl⟩
theorem usageAck : Statement .usageAck := ⟨fun _ => trivial, fun _ => rfl⟩
theorem ackTimeout : Statement .ackTimeout := ⟨fun _ => trivial, fun _ => rfl⟩
theorem frameReceive (bytes : List Byte) : Statement (.frameReceive bytes) := by
  simp [Statement, Instr.wellFormed, Sized]
theorem rosterDecision : Statement .rosterDecision := ⟨fun _ => trivial, fun _ => rfl⟩
theorem commandReceive : Statement .commandReceive := ⟨fun _ => trivial, fun _ => rfl⟩
theorem provision : Statement .provision := ⟨fun _ => trivial, fun _ => rfl⟩
theorem profileCloseAnswer : Statement .profileCloseAnswer := ⟨fun _ => trivial, fun _ => rfl⟩
theorem unprovision : Statement .unprovision := ⟨fun _ => trivial, fun _ => rfl⟩
theorem deroll : Statement .deroll := ⟨fun _ => trivial, fun _ => rfl⟩
theorem readHome : Statement .readHome := ⟨fun _ => trivial, fun _ => rfl⟩
theorem readStatus : Statement .readStatus := ⟨fun _ => trivial, fun _ => rfl⟩
theorem readStrangers : Statement .readStrangers := ⟨fun _ => trivial, fun _ => rfl⟩
theorem forgetStrangers : Statement .forgetStrangers := ⟨fun _ => trivial, fun _ => rfl⟩
theorem rollNow : Statement .rollNow := ⟨fun _ => trivial, fun _ => rfl⟩
theorem treeRestart (order : RestartOrder) : Statement (.treeRestart order) := ⟨fun _ => trivial, fun _ => rfl⟩
theorem clearFlags : Statement .clearFlags := ⟨fun _ => trivial, fun _ => rfl⟩
theorem frameTransmitStart (start : TransmitStart) : Statement (.frameTransmitStart start) := ⟨fun _ => trivial, fun _ => rfl⟩
theorem collision : Statement .collision := ⟨fun _ => trivial, fun _ => rfl⟩
theorem backoffEnd : Statement .backoffEnd := ⟨fun _ => trivial, fun _ => rfl⟩
theorem frameSent : Statement .frameSent := ⟨fun _ => trivial, fun _ => rfl⟩
theorem secondTick : Statement .secondTick := ⟨fun _ => trivial, fun _ => rfl⟩
theorem timeSetExpiry : Statement .timeSetExpiry := ⟨fun _ => trivial, fun _ => rfl⟩
theorem claimRefresh : Statement .claimRefresh := ⟨fun _ => trivial, fun _ => rfl⟩
theorem barRebroadcast : Statement .barRebroadcast := ⟨fun _ => trivial, fun _ => rfl⟩
theorem rosterAgeing : Statement .rosterAgeing := ⟨fun _ => trivial, fun _ => rfl⟩
theorem linkActivity (event : LinkEvent) : Statement (.linkActivity event) := ⟨fun _ => trivial, fun _ => rfl⟩

end Sys2Proof.Laws.WellFormedDecides
end

