-- ==== Sys2Proof/Tests/Slice0.lean ====
section
/-! SUPPORT. Tests/Slice0.lean: the smoke tests of WellFormed, one-step tests on values of the spec's own examples, and for
each statement of Obligations.lean with hypotheses a state and operands that meet them, clause by clause. -/

namespace Sys2Proof.Tests

-- One test after another: each asks the kernel, and many at once would hold many stacks.
set_option Elab.async false

open Sys2Proof.Machine

/-! ### WellFormed: an ill-formed term for each check -/

theorem test_wf_config_image : (Instr.configReadAttempt (some (List.replicate 210 0))).wellFormed = false
    ∧ (Instr.configReadAttempt (some (List.replicate 209 0))).wellFormed = true := by decide +kernel

theorem test_wf_burst_header :
    (Instr.burstClassify { header := List.replicate 15 0, light := false, payload := [] }).wellFormed = false
    ∧ (Instr.burstClassify { header := List.replicate 16 0, light := false, payload := [] }).wellFormed = true := by
  decide +kernel

theorem test_wf_burst_payload (n : Nat) (h : 16384 < n) :
    (Instr.burstClassify { header := List.replicate 16 0, light := false, payload := List.replicate n 0 }).wellFormed
      = false := by
  simp [Instr.wellFormed, payloadMax, tickBytes]; omega

theorem test_wf_identity_copies :
    (Instr.answerDecode { offset := 0, phase := 0, preamble := true, copyA := List.replicate 16 0
                          copyB := List.replicate 17 0, light := false }).wellFormed = false
    ∧ (Instr.answerDecode { offset := 0, phase := 0, preamble := true, copyA := []
                            copyB := List.replicate 16 0, light := false }).wellFormed = false := by decide +kernel

theorem test_wf_light_sample : (Instr.lightSample (.guard 128) 0).wellFormed = false
    ∧ (Instr.lightSample (.guard 127) 0).wellFormed = true ∧ (Instr.lightSample (.quiet 33) 0).wellFormed = false
    ∧ (Instr.lightSample (.quiet 32) 0).wellFormed = true := by decide +kernel

theorem test_wf_frame : (Instr.frameReceive (List.replicate 152 0)).wellFormed = false
    ∧ (Instr.frameReceive (List.replicate 151 0)).wellFormed = true := by decide +kernel

/-! ### Small states -/

/-- RUNNING and LIT at round 1,000 with time SET. -/
def lit : State :=
  { State.reset with
    tree := { State.reset.tree with state := .lit }
    clock := { State.reset.clock with phase := .running, state := .set, round := 1000, time := 500000 } }

/-- A slot record of a home in a state. -/
def home (st : SlotState) (x : Serial) : SlotRecord :=
  { SlotRecord.reset with
    gen := 3, state := st, serial := some x, profile := some 0, ceiling := 100, tariff := some 0
    rtd := some 8005, holdoff := some 57531, claimTime := some 5 }

/-- A state with one slot record replaced. -/
def put (s : State) (i : SlotId) (r : SlotRecord) : State := s.modSlot i fun _ => r

/-- A state in another tree port state, and in another watch state. -/
def port (s : State) (p : PortState) : State := s.modTree fun t => { t with state := p }
def watch (s : State) (w : WatchState) : State := s.modWatch fun v => { v with state := w }

/-- The issued-plan record of upstream round 998: bursts of slots 4 and 7 at generation 3 and these spans. -/
def firstEntry : PlanEntry := { slot := 4, gen := 3, start := 0, payload := 10, assured := 4 }
def secondEntry : PlanEntry := { slot := 7, gen := 3, start := 13, payload := 0, assured := 0 }
def record (spans : Spans) : Issued :=
  { plan := {
      round := 998, spans := spans
      entries := [{ slot := 4, gen := 3, start := spans.headEnd, payload := 10, assured := 4 },
                  { slot := 7, gen := 3, start := spans.headEnd + 13, payload := 0, assured := 0 }] }
    classified := 0, echoesEnded := [], echoLight := [] }

/-- No span; a head part; a tail part; a watch window; one echo span of slot 4. -/
def noSpans : Spans := { rollHead := false, rollTail := false, window := false, echoes := [] }
def headSpan : Spans := { noSpans with rollHead := true }
def tailSpan : Spans := { noSpans with rollTail := true }
def windowSpan : Spans := { noSpans with window := true }
def echoSpan : Spans := { noSpans with echoes := [{ slot := 4, gen := 3, start := 2032 }] }

/-- A state that receives upstream round 998. -/
def receiving (s : State) (spans : Spans) : State := s.modTree fun t => { t with issued := [record spans] }

/-- A burst header of a slot with a fill report and a last-order sequence, and an identity copy, with their checks. -/
def checked (bs : List Byte) : List Byte := bs ++ be32 (check32 bs)
def headerOf (slot fill seq : Nat) : List Byte := checked (be 1 slot ++ be 3 fill ++ be 1 seq ++ List.replicate 7 0)
def copyOf (x : Serial) (delay : Nat) : List Byte := checked (beSerial x ++ be 1 delay ++ List.replicate 3 0)

/-- A burst with a header and 10 payload ticks that hold one packet of 64 bytes. -/
def burst (header : List Byte) (light : Bool) : BurstRx :=
  { header := header, light := light
    payload := packetBytes (List.replicate 64 7) ++ List.replicate 90 0 }

/-- An answer of a serial at an offset. -/
def answer (x : Serial) (offset : Fin 2048) : AnswerRx :=
  { offset := offset, phase := 5, preamble := true, copyA := copyOf x 20, copyB := copyOf x 20, light := false }

/-- A command of the controller, and a state with it dispatched to its owner. -/
def command (code : Byte) (args : List Byte) : RxCommand := { source := 0, tag := 9, code := code, args := args }
def dispatched (s : State) (c : RxCommand) : State :=
  s.modLink fun l =>
    { l with
      dispatched := [c], inFlight := 1
      lastCommand := some { tag := c.tag, code := c.code, args := c.args, reply := none } }

/-- A frame on the pair with its check. -/
def frame (dest source : Byte) (kind : Nat) (p : List Byte) : List Byte :=
  let body := [dest, source] ++ be 1 kind ++ be 1 p.length ++ p
  0xA5 :: body ++ be16 (check16 body)

/-- A state whose queue of waiting commands holds one command, and the state a command leads to. -/
def after (c : Instr) (s : State) : State :=
  match exec c s with
  | .next t => t
  | .fault _ | .refused _ => s

/-! ### What meets the hypotheses of each statement -/

theorem test_meets_StepTakesFront : State.reset.pending = [] := by decide +kernel

/-- A configuration image with its checksum (two bytes that bring the check to 0, then zeros) and a start count of 7,
and a state with that image waiting. -/
def image : List Byte := [255, 255] ++ List.replicate 203 0 ++ [0, 0, 0, 7]
def imaged : State := State.reset.modClock fun c => { c with image := some (imageOf image) }

theorem test_checksum_of_zeros (n : Nat) : (List.replicate n (0 : Byte)).foldl (checkByte (0x1021 : BitVec 16)) 0 = 0 := by
  have one : checkByte (0x1021 : BitVec 16) 0 0 = 0 := by decide +kernel
  induction n with
  | zero => rfl
  | succ n ih => rw [List.replicate_succ, List.foldl_cons, one, ih]

theorem test_checksum_of_image : check16 ([255, 255] ++ List.replicate 203 0) = 0 := by
  have two : [255, 255].foldl (checkByte (0x1021 : BitVec 16)) 0xFFFF = 0 := by decide +kernel
  rw [check16, List.foldl_append, two, test_checksum_of_zeros]

theorem test_meets_StartUpRuns_read : image.length = 209 ∧ fieldNat image 205 2 = (check16 (field image 0 205)).toNat
    ∧ (image.take 208).length < 209
    ∧ fieldNat (image.set 206 1) 205 2 ≠ (check16 (field (image.set 206 1) 0 205)).toNat := by
  have good : field image 0 205 = [255, 255] ++ List.replicate 203 0 := by decide +kernel
  have bad : field (image.set 206 1) 0 205 = [255, 255] ++ List.replicate 203 0 := by decide +kernel
  rw [good, bad, test_checksum_of_image]
  decide +kernel

theorem test_meets_StartUpRuns_retry : State.reset.clock.phase = .loading ∧ State.reset.clock.image = none
    ∧ State.reset.clock.reads < 2
    ∧ 2 ≤ (State.reset.modClock fun c => { c with reads := 2 }).clock.reads := by decide +kernel

theorem test_meets_StartUpRuns_count : (imageOf image).startCount = 7 := by decide +kernel

theorem test_meets_StartUpRuns_image : imaged.clock.image = some (imageOf image) := rfl

theorem test_meets_StartUpRuns_write : imaged.clock.phase = .loading
    ∧ imaged.clock.writes < 2
    ∧ 2 ≤ (imaged.modClock fun c => { c with writes := 2 }).clock.writes ∧ (none : Option Half) ≠ some 8 := by
  decide +kernel

theorem test_write_back_writes_two_bytes :
    (after (.startCountWriteBack (some 8)) imaged).clock.startWritten = [(207, 0), (208, 8)]
    ∧ startCountWrites 0x1234 = [(207, 0x12), (208, 0x34)] := by decide +kernel

/-- LOADING with two failed reads behind it, time SET by a TIME frame, a beacon waiting and one RELEASE beside it. -/
def timedInLoading : State :=
  (State.reset.modClock fun c => { c with reads := 2, state := .set, trim := 500, beacon := .queued }).modLink fun l =>
    { l with
      queue := [{ message := .time .set, attempts := 0, age := 1 }, { message := .release 1, attempts := 0, age := 2 }]
      nextAge := 3 }

theorem test_meets_StartUpRuns_timed : timedInLoading.clock.phase = .loading ∧ timedInLoading.clock.image = none
    ∧ 2 ≤ timedInLoading.clock.reads ∧ (∀ bs : List Byte, (none : Option (List Byte)) ≠ some bs)
    ∧ timedInLoading.link.backAlerts ++ timedInLoading.link.backReplies = [] := by
  refine ⟨rfl, rfl, by decide +kernel, ?_, rfl⟩
  intro bs h
  cases h

theorem test_config_fault_leaves_time_unset :
    let t := after (.configReadAttempt none) timedInLoading
    t.clock.phase = .configFault ∧ t.clock.state = .unset ∧ t.clock.trim = 0 ∧ t.clock.beacon = .none
    ∧ (t.link.queue.filter (·.message.isTime)) = [] ∧ (t.link.queue.map (·.age)).head? = some 2
    ∧ t.link.flags.getLsbD 12 = true := by decide +kernel

theorem test_meets_ClockMonitorMoves_failure : State.reset.tree.state = .off ∧ lit.tree.state = .lit
    ∧ (port lit .starting).tree.state = .starting ∧ (port lit .calibrating).tree.state = .calibrating
    ∧ (port lit .dark).tree.state = .dark := by decide +kernel

/-- LIT with a home in each of the states that DARK or TREE_RESTART acts on, and with orders of both kinds. -/
def crowded : State :=
  let s := put (put (put lit 4 (home .active 0xA1)) 5 (home .assigning 0xA2)) 6 (home .lost 0xA3)
  let s := put (put s 7 { home .barred 0xA4 with barReason := some .stray }) 8 { home .closing 0xA5 with closeReason := some .deroll }
  let s := put s 9 { home .active 0xA6 with hushed := true }
  ((s.offerOrder .urgent .hush (some (9, 3))).1.offerOrder .normal .release (some (8, 3))).1

theorem test_meets_DarkEntryClears : crowded.tree.state = .lit
    ∧ (crowded.slot 4).state = .active ∧ (crowded.slot 6).state = .lost
    ∧ (crowded.slot 5).state = .assigning ∧ (crowded.slot 5).rejoin = false
    ∧ (crowded.slot 7).state = .barred ∧ (crowded.slot 8).state = .closing ∧ (crowded.slot 127).state = .free
    ∧ crowded.tree.urgent.any (·.body.leavesInDark) = true
    ∧ crowded.tree.normal.any (fun e => !e.body.leavesInDark) = true := by decide +kernel

/-- LIT with a rejoin whose slot was never lost, one lost short of 60 s and one lost 60 s, and two hushed slots. -/
def rejoining : State :=
  let back (lost : Option LostSince) (x : Serial) := { home .assigning x with rejoin := true, lostSince := lost }
  let s := put (put lit 4 (back none 0xA1)) 5 (back (some { round := 1000 - 239999, time := 1 }) 0xA2)
  let s := put s 6 (back (some { round := 1000 - 240000, time := 1 }) 0xA3)
  put (put s 7 { home .active 0xA4 with hushed := true }) 8 { home .assigning 0xA5 with hushed := true }

theorem test_meets_DarkEntryClears_rejoin :
    (rejoining.slot 4).state = .assigning ∧ (rejoining.slot 4).rejoin = true ∧ (rejoining.slot 4).lostSince = none
    ∧ (rejoining.clock.round - (1000 - 239999)).toNat < 240000 ∧ 240000 ≤ (rejoining.clock.round - (1000 - 240000)).toNat
    ∧ (let t := after .lineClockFailure rejoining
       (t.slot 4).state = .lost ∧ (t.slot 4).lostSince = some { round := 1000, time := 500000 } ∧ (t.slot 5).state = .lost
       ∧ (t.slot 6).state = .closing ∧ (t.slot 6).closeReason = some .lost
       ∧ (t.slot 7).hushed = false ∧ (t.slot 7).wakeDue = true ∧ (t.slot 8).state = .free
       ∧ (t.slot 8).wakeDue = false) := by decide +kernel

theorem test_meets_ClockMonitorMoves_count : (port lit .starting).tree.state = .starting
    ∧ (port lit .dark).tree.state = .dark ∧ (port lit .dark).tree.recalDue = false
    ∧ ((port lit .dark).modTree fun t => { t with recalDue := true }).tree.recalDue = true
    ∧ ((put (port lit .dark) 4 (home .resuming 0xA1)).slot 4).state = .resuming
    ∧ ((put (port lit .dark) 4 (home .resuming 0xA1)).slot 5).state ≠ .resuming := by decide +kernel

/-- CALIBRATING, its dark hold begun at a round, with samples gathered. -/
def calibrating (held : Round) (samples : Nat) : State :=
  (lit.modTree fun t => { t with state := .calibrating, holdStart := some held, sampling := true }).modWatch fun w =>
    { w with calib := List.replicate samples 100 }

theorem test_meets_CalibrationRuns : (calibrating (1000 - 12000) 0).tree.state = .calibrating
    ∧ (calibrating (1000 - 12000) 0).tree.holdStart = some (1000 - 12000)
    ∧ 12000 ≤ ((calibrating 0 0).clock.round - (1000 - 12000)).toNat
    ∧ ((calibrating 0 0).clock.round - (1000 - 11999)).toNat < 12000
    ∧ (calibrating 0 0).tree.sampling = true ∧ (calibrating 0 62).watch.calib.length < 63
    ∧ (calibrating 0 63).watch.calib.length = 63 := by decide +kernel

theorem test_meets_RoundBoundary : lit.tree.state = .lit ∧ (port lit .dark).tree.state ≠ .lit
    ∧ lit.sched.nextPlan = none
    ∧ (lit.buildPlan 1001).sched.nextPlan.map (·.round) = some (lit.clock.round + 1)
    ∧ ((put lit 4 (home .active 0xA1)).buildPlan 1001).sched.nextPlan.map (·.entries.length) = some 1 := by
  decide +kernel

/-- Four switch points, two of one minute, and a configuration that has them. -/
def points : List SwitchPoint :=
  [{ minute := 9, band := 1 }, { minute := 8, band := 3 }, { minute := 8, band := 0 }, { minute := 700, band := 2 }]
def switched (ps : List SwitchPoint) : Configuration :=
  { Configuration.beforeHandOver with switchPoints := ps, fallback := 3 }

theorem test_meets_RoundBoundary_band :
    (539999 : DTime).toNat / 60000 % 1440 = 8 ∧ (540000 : DTime).toNat / 60000 % 1440 = 9
    ∧ points = [points[0], points[1]] ++ points[2] :: [points[3]] ∧ points[2].minute ≤ 8
    ∧ points = [points[0], points[1], points[2]] ++ points[3] :: []
    ∧ (∀ q ∈ points, (0 : DTime).toNat / 60000 % 1440 < q.minute) ∧ (∀ q ∈ points, q.minute ≤ points[3].minute)
    ∧ bandAt (switched points) .set 539999 = 0 ∧ bandAt (switched points) .coasting 540000 = 1
    ∧ bandAt (switched points) .set 0 = 2 ∧ bandAt (switched points) .unset 0 = 3 ∧ bandAt (switched []) .set 0 = 3
    ∧ (let s := { lit with config := switched points }.modClock fun c => { c with time := 539999, frac := 750000 }
       s.clock.phase = .running ∧ (after (.roundBoundary false []) s).clock.time = 540000
         ∧ (after (.roundBoundary false []) s).meter.band = 1) := by decide +kernel

/-- LIT with slot 4 ACTIVE and slot 6 LOST, a packet in the queue of each, every weight in range. -/
def queued : State :=
  ((put (put lit 4 (home .active 0xA1)) 6 (home .lost 0xA3)).modQueue 4 fun q =>
    { q with packets := [List.replicate 64 7] }).modQueue 6 fun q => { q with packets := [List.replicate 2048 7] }

theorem test_meets_PayloadVisited : queued.tree.state = .lit
    ∧ (∀ i, ∀ p ∈ (queued.queue i).packets, 64 ≤ p.length ∧ p.length ≤ 2048)
    ∧ (∀ p : Fin 8, 1 ≤ (queued.config.profiles.get p).weight)
    ∧ (queued.slot 4).state = .active ∧ (queued.queue 4).packets ≠ [] ∧ (queued.queue 4).held = false
    ∧ (∀ j : SlotId, (j - queued.down.pointer).val < (4 - queued.down.pointer).val → (queued.queue j).packets = [])
    ∧ (queued.slot 6).state ≠ .active ∧ queued.meter.queue.length + 1 ≤ 64 := by decide +kernel

/-- Round 998 in reception with a home in slot 4 in a state. -/
def heardIn (st : SlotState) : State :=
  put (receiving lit noSpans) 4
    { home st 0xA1 with lostSince := if st = .lost then some { round := 900, time := 1 } else none }
def silentAt (n : Nat) : State := put (receiving lit noSpans) 4 { home .active 0xA1 with silent := n }
def hushed : State := put (receiving lit noSpans) 4 { home .active 0xA1 with hushed := true }

theorem test_meets_BurstNotHeard : (silentAt 2).reception = some (record noSpans)
    ∧ (record noSpans).plan.entries[(record noSpans).classified]? = some firstEntry
    ∧ burstHeader [] = none ∧ (burstHeader (headerOf 7 0 0)).map (·.slot) = some 7
    ∧ ((silentAt 2).slot 4).gen = 3 ∧ ((silentAt 2).slot 4).state = .active ∧ ((silentAt 2).slot 4).silent < 3
    ∧ ¬ ((silentAt 3).slot 4).silent < 3 ∧ ((silentAt 3).slot 4).lostSince = none ∧ (hushed.slot 4).hushed = true
    ∧ ((heardIn .lost).slot 4).state ≠ .active ∧ (put (silentAt 0) 4 { home .active 0xA1 with gen := 4 }).slot 4 ≠ (silentAt 0).slot 4
    ∧ ((silentAt 0).echo 4).garbledRun < 7
    ∧ ¬ (((silentAt 0).modEcho 4 fun r => { r with garbledRun := 7 }).echo 4).garbledRun < 7 := by decide +kernel

/-- The home of serial A1 provisioned with tag 17. -/
def provisioned (s : State) : State :=
  s.modEnrol fun e => { e with provision := [{ serial := 0xA1, profile := 0, tag := 17 }] }

theorem test_meets_BurstHeard :
    let rx := burst (headerOf 4 500 9) true
    (heardIn .active).reception = some (record noSpans)
    ∧ burstHeader rx.header = some { slot := 4, fill := 500, lastOrder := 9 }
    ∧ ((heardIn .active).slot 4).gen = 3 ∧ 0 < ((burstPackets 10 rx.payload).map List.length).sum
    ∧ ((burstPackets 0 rx.payload).map List.length).sum = 0
    ∧ ((heardIn .lost).slot 4).state = .lost ∧ ((heardIn .barred).slot 4).state = .barred
    ∧ ((heardIn .closing).slot 4).state = .closing ∧ ((heardIn .resuming).slot 4).state = .resuming
    ∧ ((heardIn .assigning).slot 4).state = .assigning ∧ ((heardIn .free).slot 4).state = .free
    ∧ (provisioned (heardIn .active)).entryOf 0xA1 = some { serial := 0xA1, profile := 0, tag := 17 }
    ∧ ((heardIn .active).demand 4).report = none
    ∧ 0 < ((998 : Round) - 997).toInt := by decide +kernel

theorem test_meets_EchoAnswerKept :
    (receiving lit echoSpan).reception = some (record echoSpan)
    ∧ validAnswer (answer 0xA1 2032) = some { serial := 0xA1, delay := 20 }
    ∧ validAnswer (answer 0xA1 2044) = some { serial := 0xA1, delay := 20 } ∧ 2044 + 4 ≤ 2032 + 16
    ∧ validAnswer { answer 0xA1 2038 with preamble := false } = none
    ∧ echoSpan.echoes = [{ slot := 4, gen := 3, start := 2032 }]
    ∧ echoSpan.rollTail = false ∧ echoSpan.rollHead = false
    ∧ (∀ e ∈ echoSpan.echoes, 2031 < e.start) ∧ (∀ e ∈ echoSpan.echoes, e.start + 12 < 2045)
    ∧ headSpan.rollHead = true ∧ headSpan.echoes = [] ∧ 64 < 65 ∧ tailSpan.rollTail = true ∧ 347 < 348 := by
  decide +kernel

theorem test_answer_past_its_span_changes_nothing :
    ([(echoSpan, 2045), (headSpan, 65), (tailSpan, 347)] : List (Spans × Fin 2048)).all (fun c =>
      let s := (receiving lit c.1).modTree fun t => { t with latch := true }
      decide (after (.answerDecode (answer 0xA1 c.2)) s = s)) = true
    ∧ (after (.answerDecode { answer 0xA1 2044 with light := true }) (receiving lit echoSpan)).reception.map (·.echoLight)
      = some [2032] := by decide +kernel

/-- A roll call opened in downstream round 997, whose tail part is in upstream round 998. -/
def rolling (s : State) : State :=
  (receiving s tailSpan).modRoll fun r => { r with phase := .opened, openRound := some 997 }
def inQuarantine (s : State) : State :=
  s.modRoster fun r => { r with quarantine := [{ serial := 0xA1, reason := .stray, origin := 3, time := 0 }] }
/-- Every slot taken by some other home. -/
def full (s : State) : State :=
  s.modHome fun h => { h with slots := Vector.ofFn fun i : SlotId => home .active (BitVec.ofNat 64 (1000 + i.val)) }

theorem test_meets_RollAnswerOfNewHome :
    (rolling lit).reception = some (record tailSpan) ∧ (rolling lit).enrol.roll.openRound = some 997
    ∧ validAnswer (answer 0xA1 868) = some { serial := 0xA1, delay := 20 }
    ∧ spanAt (record tailSpan).plan 868 = some .roll ∧ spanAt (record tailSpan).plan 348 = some .roll
    ∧ (rolling lit).holder 0xA1 = none
    ∧ (rolling lit).quarantined 0xA1 = false ∧ (rolling (inQuarantine lit)).quarantined 0xA1 = true
    ∧ (rolling lit).entryOf 0xA1 = none
    ∧ (rolling (provisioned lit)).entryOf 0xA1 = some { serial := 0xA1, profile := 0, tag := 17 }
    ∧ (16 : Int) * ((2048 * 3 + 868 : Nat) - 6492 - 20) + 5 = 8005
    ∧ (16 : Int) * ((2048 * 3 + 348 : Nat) - 6492 - 20) + 5 < 16
    ∧ ((rolling (provisioned lit)).slot 0).available = true
    ∧ (rolling lit).enrol.strangers = [] := by decide +kernel

theorem test_meets_RollAnswerOfNewHome_full :
    (rolling (full (provisioned lit))).holder 0xA1 = none
    ∧ ∀ i, ((rolling (full (provisioned lit))).slot i).available = false := by decide +kernel

/-- A strangers list: an entry of a serial last seen at a time, and a full list whose fourth entry is the oldest. -/
def strangerAt (x : Serial) (seen : DTime) : Stranger :=
  { serial := x, reason := .unprovisioned, firstSeen := 1, lastSeen := seen, seen := 255 }
def younger : List Stranger := [strangerAt 1 9, strangerAt 2 8, strangerAt 3 7]
def later12 : List Stranger := (List.replicate 11 (strangerAt 4 5)) ++ [strangerAt 5 6]
def withStrangers (l : List Stranger) : State := (rolling lit).modEnrol fun e => { e with strangers := l }

theorem test_meets_RollAnswerOfNewHome_strangers :
    (∃ e ∈ (withStrangers [strangerAt 0xA1 9]).enrol.strangers, e.serial = 0xA1)
    ∧ (∀ e ∈ (withStrangers younger).enrol.strangers, e.serial ≠ 0xA1)
    ∧ (withStrangers younger).enrol.strangers.length < 16
    ∧ (withStrangers (younger ++ strangerAt 6 5 :: later12)).enrol.strangers.length = 16
    ∧ (∀ e ∈ younger, (5 : DTime).toNat < e.lastSeen.toNat) ∧ (∀ e ∈ later12, (5 : DTime).toNat ≤ e.lastSeen.toNat)
    ∧ (∀ e ∈ younger ++ strangerAt 6 5 :: later12, e.serial ≠ 0xA1) := by decide +kernel

theorem test_full_strangers_list_drops_its_oldest :
    (after (.answerDecode (answer 0xA1 868)) (withStrangers (younger ++ strangerAt 6 5 :: later12))).enrol.strangers
      = younger ++ later12 ++ [{ strangerAt 0xA1 500000 with firstSeen := 500000, seen := 1 }] := by decide +kernel

/-- A roll call of round 997 answered by the home of serial A1 that slot 4 holds in a state. -/
def rollHeld (st : SlotState) : State := rolling (put lit 4 (home st 0xA1))

/-- A SEVER of slot 4 waiting, and an urgent lane full of HUSH orders of another slot. -/
def severWaiting : OrderEntry :=
  { body := .sever 0xA1, target := some (4, 3), seq := 1, tries := 0, lastSent := none, bound := none, waiting := false }
def urgentOf (l : List OrderEntry) (s : State) : State := s.modTree fun t => { t with urgent := l }

theorem test_meets_RollAnswerOfHeldHome :
    (rollHeld .active).reception = some (record tailSpan) ∧ (rollHeld .active).enrol.roll.openRound = some 997
    ∧ (rollHeld .active).holder 0xA1 = some 4 ∧ (rollHeld .barred).holder 0xA1 = some 4
    ∧ (rollHeld .closing).holder 0xA1 = some 4 ∧ (rollHeld .assigning).holder 0xA1 = some 4
    ∧ (rollHeld .lost).holder 0xA1 = some 4 ∧ (rollHeld .resuming).holder 0xA1 = some 4
    ∧ ((rollHeld .active).slot 4).hushed = false
    ∧ (put (rollHeld .active) 4 { home .active 0xA1 with hushed := true }).holder 0xA1 = some 4
    ∧ spanAt (record tailSpan).plan 348 = some .roll
    ∧ (16 : Int) * ((2048 * 3 + 348 : Nat) - 6492 - 20) + 5 < 16 := by decide +kernel

theorem test_meets_RollAnswerOfHeldHome_barred :
    (∃ e ∈ (urgentOf [severWaiting] (rollHeld .barred)).tree.urgent, e.isFor 4 = true ∧ e.body.isSever = true)
    ∧ (rollHeld .barred).tree.urgent = []
    ∧ 8 ≤ (urgentOf (List.replicate 8 { severWaiting with body := .hush }) (rollHeld .barred)).tree.urgent.length
    ∧ (∀ e ∈ (urgentOf (List.replicate 8 { severWaiting with body := .hush }) (rollHeld .barred)).tree.urgent,
      ¬ (e.isFor 4 = true ∧ e.body.isSever = true)) := by decide +kernel

/-- The head part of the roll call of round 996 in reception, its counts so far. -/
def ending (followUps streak : Nat) : State :=
  (receiving lit headSpan).modRoll fun r =>
    { r with phase := .opened, openRound := some 996, followUps := followUps, streak := streak, light := true }

theorem test_meets_RollCallReported : (ending 0 0).reception = some (record headSpan)
    ∧ (ending 7 6).enrol.roll.openRound = some 996 ∧ (ending 8 7).enrol.roll.phase = .opened
    ∧ headSpan.rollHead = true ∧ (998 : Round) = 996 + 2 ∧ (ending 8 7).enrol.roll.answered = false
    ∧ (ending 8 7).watch.state = .clear ∧ (watch (ending 8 7) .alert).watch.state = .alert := by decide +kernel

/-- The end of the echo span of slot 4 in round 998: an exchange of a purpose with its misses, and an answer. -/
def exchange (st : SlotState) (p : EchoPurpose) (misses : Nat) (answers : List EchoAnswer) : State :=
  let s := put (receiving lit echoSpan) 4 (home st 0xA1)
  let e : OrderEntry := {
    body := .echo, target := some (4, 3), seq := 1, tries := misses + 1, lastSent := some 998
    bound := some { round := 998, position := 2032 }, waiting := true }
  ((s.modTree fun t => { t with urgent := [e] }).modEcho 4 fun r =>
    { r with purpose := some p, phase := some .sent, misses := misses, homeHoldoff := some 57531 }).modEnrol fun k =>
      { k with answers := answers }

/-- The answer of the echo example of chapter 3, moved to the span at 2,032: a refined RTD of 8,020. -/
def echoed (start ticks : Nat) : EchoAnswer :=
  { round := 998, start := start, serial := 0xA1, ticks := ticks, phase := 15 }

theorem test_meets_EchoSpanRuled :
    (exchange .assigning .assign 0 [echoed 2032 6134]).reception = some (record echoSpan)
    ∧ echoSpan.echoes.find? (·.start == 2032) = some { slot := 4, gen := 3, start := 2032 }
    ∧ (record echoSpan).echoesEnded.contains 2032 = false ∧ (2032 : Nat) ∉ (record echoSpan).echoLight
    ∧ ((exchange .assigning .assign 0 []).echo 4).purpose = some .assign
    ∧ ((exchange .assigning .assign 0 []).echo 4).phase = some .sent
    ∧ ((exchange .assigning .assign 0 []).tree.awaiting 4 3 998).isSome = true
    ∧ ((exchange .assigning .assign 0 []).slot 4).gen = 3
    ∧ ((exchange .assigning .assign 0 []).slot 4).fresh = true
    ∧ (exchange .assigning .assign 0 [echoed 2032 6134]).echoAnswerOf 4 { slot := 4, gen := 3, start := 2032 } 998
      = some 8020
    ∧ (exchange .assigning .assign 0 [echoed 2032 6141]).echoAnswerOf 4 { slot := 4, gen := 3, start := 2032 } 998
      = none
    ∧ (exchange .assigning .assign 1 []).echoAnswerOf 4 { slot := 4, gen := 3, start := 2032 } 998 = none
    ∧ 1 + 1 < EchoPurpose.assign.limit ∧ EchoPurpose.assign.limit ≤ 2 + 1 ∧ EchoPurpose.resume.limit ≤ 1 + 1
    ∧ ((exchange .resuming .resume 1 []).slot 4).lostSince = none := by decide +kernel

/-- Several answers in a span; a CHECK, a rejoin and a RESUME at their limit, the last with a lost-since of a round. -/
def resumingSince (n : Round) : State :=
  (exchange .resuming .resume 1 []).modSlot 4 fun r => { r with lostSince := some { round := n, time := 1 } }

theorem test_meets_EchoSpanRuled_more :
    (let span : EchoSpan := { slot := 4, gen := 3, start := 2032 }
     let other : EchoAnswer := { echoed 2032 6134 with serial := 0xA2 }
     let early : EchoAnswer := echoed 2032 6127
     let answers := [other, early] ++ echoed 2032 6134 :: [echoed 2032 6135]
     (exchange .assigning .assign 0 answers).enrol.answers = [other, early] ++ echoed 2032 6134 :: [echoed 2032 6135]
       ∧ (exchange .assigning .assign 0 answers).echoAnswerOf 4 span 998 = some 8020
       ∧ (exchange .assigning .assign 0 [other, early]).echoAnswerOf 4 span 998 = none)
    ∧ ((exchange .active .check 2 []).echo 4).purpose = some .check ∧ EchoPurpose.check.limit ≤ 2 + 1
    ∧ ((exchange .active .check 2 []).slot 4).state = .active
    ∧ (((exchange .assigning .assign 2 []).modSlot 4 fun r => { r with rejoin := true }).slot 4).rejoin = true
    ∧ ((resumingSince (1000 - 239999)).clock.round - (1000 - 239999)).toNat < 240000
    ∧ 240000 ≤ ((resumingSince (1000 - 240000)).clock.round - (1000 - 240000)).toNat
    ∧ ((resumingSince (1000 - 240000)).slot 4).lostSince = some { round := 1000 - 240000, time := 1 }
    ∧ (let report : EchoSpanReport := { start := 2032, light := false }
       ((after (.echoSpanEnd report) (exchange .active .check 2 [])).slot 4).state = .lost
         ∧ ((after (.echoSpanEnd report) (resumingSince (1000 - 239999))).slot 4).state = .lost
         ∧ ((after (.echoSpanEnd report) (resumingSince (1000 - 240000))).slot 4).state = .closing) := by
  decide +kernel

/-- A HOLDOFF of slot 4 sent in round 990, whose eight rounds are over. -/
def lateHoldoff (tries : Nat) : State :=
  let e : OrderEntry := {
    body := .holdoff 57516, target := some (4, 3), seq := 57, tries := tries, lastSent := some 990, bound := none
    waiting := true }
  ((put lit 4 (home .active 0xA1)).modTree fun t => { t with normal := [e], received := [997] }).modEcho 4 fun r =>
    { r with holdoffInFlight := some 57516 }
def reechoing (r : SlotRecord) (e : EchoRecord) : State :=
  ((put lit 4 r).modEcho 4 fun _ => e).modEnrol fun k => { k with reechoes := [4] }

theorem test_meets_EnrolmentFallsDue :
    ((lateHoldoff 2).tree.holdoffLate 4).map (·.body) = some (.holdoff 57516)
    ∧ ((lateHoldoff 3).tree.holdoffLate 4).map (·.target) = some (some (4, 3))
    ∧ ((lateHoldoff 3).echo 4).holdoffInFlight = some 57516
    ∧ (reechoing (home .active 0xA1) .absent).enrol.reechoes = [4]
    ∧ ((reechoing (home .active 0xA1) .absent).echo 4).purpose = none
    ∧ ((reechoing (home .lost 0xA1) .absent).slot 4).state ≠ .active
    ∧ ((reechoing { home .active 0xA1 with hushed := true } .absent).slot 4).hushed = true
    ∧ ((reechoing (home .active 0xA1) { EchoRecord.absent with purpose := some .check }).echo 4).purpose ≠ none := by
  decide +kernel

/-- Roll-call states. -/
def rollState (phase : RollPhase) (cause : Option RollCause) (reported : Option Round) : State :=
  lit.modRoll fun r => { r with phase := phase, cause := cause, followUpAt := reported, reached := true }

theorem test_meets_EnrolmentFallsDue_rolls : (rollState .idle none none).enrol.roll.reached = true
    ∧ (rollState .idle none none).enrol.roll.phase = .idle ∧ (rollState .opened none none).enrol.roll.phase ≠ .idle
    ∧ (rollState .idle (some .followUp) (some 996)).enrol.roll.followUpAt = some 996
    ∧ 4 ≤ (lit.clock.round - 996).toNat ∧ (lit.clock.round - 997).toNat < 4
    ∧ (port (rollState .idle (some .followUp) (some 996)) .dark).tree.state ≠ .lit := by decide +kernel

theorem test_meets_RollNowAnswered :
    let s := dispatched (rollState .idle (some .followUp) none) (command 8 [])
    s.link.dispatched.find? (·.code == 8) = some (command 8 [])
    ∧ s.tree.state = .lit ∧ s.watch.state = .clear ∧ (watch s .alert).watch.state = .alert
    ∧ (watch s .locating).watch.state = .locating ∧ s.enrol.roll.phase = .idle
    ∧ (dispatched (rollState .opened none none) (command 8 [])).enrol.roll.phase ≠ .idle := by decide +kernel

/-! ### The watch -/

theorem test_meets_LightSampleJudged : (receiving lit noSpans).reception = some (record noSpans)
    ∧ (record noSpans).plan.entries[0]? = some firstEntry
    ∧ (record noSpans).plan.entries[0 + 1]? = some secondEntry
    ∧ (record noSpans).plan.burstEnd ≤ 32 ∧ 32 < (record noSpans).plan.spans.tailStart ∧ 32 % 32 = 0
    ∧ windowSpan.window = true ∧ 1792 % 32 = 0 := by decide +kernel

/-- Round 998 in reception with samples judged and a strike history, the watch in a state. -/
def scored (w : WatchState) (guards : List GuardSample) (quiet window : Nat) (history : List Bool) : State :=
  (receiving (put (put lit 4 (home .active 0xA1)) 7 (home .active 0xA2)) noSpans).modWatch fun v =>
    { v with
      state := w, history := history
      score := { guards := guards, quietViolations := quiet, windowViolations := window } }
def guard47 (v : Bool) : GuardSample := { violation := v, before := some (4, 3), after := some (7, 3) }
def strike (tail head : Nat) (s : State) : State :=
  (s.modStrikes 4 fun k => { k with tail := tail }).modStrikes 7 fun k => { k with head := head }

theorem test_meets_ReceptionEndScored : (scored .clear [] 2 0 []).reception = some (record noSpans)
    ∧ (scored .clear [] 2 0 []).watch.state = .clear ∧ (scored .alert [] 1 0 []).watch.state = .alert
    ∧ ((((decide (2 ≤ 2)) :: [true, true] : List Bool).take 16).filter id).length = 3
    ∧ ((((decide (2 ≤ 1)) :: [true, true] : List Bool).take 16).filter id).length < 3 := by decide +kernel

theorem test_meets_GuardStrikesScored :
    (strike 7 7 (scored .clear [guard47 true] 0 0 [])).reception = some (record noSpans)
    ∧ (strike 7 7 (scored .clear [guard47 true] 0 0 [])).watch.score.guards
      = [{ violation := true, before := some (4, ((strike 7 7 (scored .clear [] 0 0 [])).slot 4).gen)
           after := some (7, ((strike 7 7 (scored .clear [] 0 0 [])).slot 7).gen) }]
    ∧ ((strike 7 7 (scored .clear [guard47 true] 0 0 [])).strikes 4).tail = 7
    ∧ ((strike 7 7 (scored .clear [guard47 true] 0 0 [])).strikes 7).head = 7
    ∧ ((strike 6 6 (scored .clear [guard47 true] 0 0 [])).strikes 4).tail ≠ 7
    ∧ ((strike 6 6 (scored .clear [guard47 true] 0 0 [])).strikes 7).head < 7
    ∧ (4 : SlotId) ≠ 7 ∧ ((scored .clear [] 0 0 []).slot 4).state = .active := by decide +kernel

/-- Three guard samples about three slots, one of another generation, and a flooded round of them. -/
def guards (v : Bool) : List GuardSample :=
  [guard47 true, { violation := false, before := some (7, 3), after := some (9, 0) },
   { violation := v, before := some (9, 1), after := some (4, 3) }, guard47 v]

theorem test_meets_GuardStrikesScored_several :
    (scored .clear (guards false) 0 0 []).reception = some (record noSpans)
    ∧ (∀ i, ((strike 3 3 (scored .clear (guards false) 0 0 [])).strikes i).tail + (guards false).length < 8
      ∧ ((strike 3 3 (scored .clear (guards false) 0 0 [])).strikes i).head + (guards false).length < 8)
    ∧ ((guards false).filter (·.violation)).length = 1
    ∧ 3 ≤ ((guards true).filter (·.violation)).length
    ∧ (guards true).length ≤ 2 * ((guards true).filter (·.violation)).length
    ∧ (let t := after .roundReceptionEnd (strike 3 3 (scored .clear (guards false) 0 0 []))
       (t.strikes 4).tail = 3 ∧ (t.strikes 7).head = 3 ∧ (t.strikes 7).tail = 0 ∧ (t.strikes 9).tail = 0)
    ∧ ((after .roundReceptionEnd (strike 3 3 (scored .clear (guards true) 0 0 []))).strikes 4).tail = 3 := by
  decide +kernel

/-- Slots 4, 5 and 9 ACTIVE at rate 100 with reports of this many bytes, slot 7 hushed, slot 8 LOST. -/
def demanding (fill : Nat) : State :=
  let wants := { home .active 0xA1 with assured := 100, ceiling := 1024 }
  let s := put (put (put lit 4 wants) 5 wants) 9 wants
  let s := put (put s 7 { wants with hushed := true }) 8 (home .lost 0xA2)
  ([4, 5, 7, 9] : List SlotId).foldl (fun s i => s.modDemand i fun d => { d with fill := fill, report := some 990 }) s

/-- Demands that fit are granted whole; others share the surplus, the two ticks left over going to the first two. -/
theorem test_meets_PlanFitsRound :
    (let plan (fill : Nat) := (after (.roundBoundary true []) (demanding fill)).sched.nextPlan.map fun p =>
       p.entries.map fun e => (e.slot, e.assured, e.payload)
     (demanding 1600).tree.state = .lit ∧ (demanding 1600).watch.orders = []
     ∧ plan 3200 = some [(4, 100, 200), (5, 100, 200), (8, 0, 0), (9, 100, 200)]
     ∧ plan 65536 = some [(4, 100, 679), (5, 100, 679), (8, 0, 0), (9, 100, 678)]) := by decide +kernel

/-- An open test of which the window of round 998 is the last. -/
def lastWindow (want violated : Nat) (s : State) : State :=
  s.modWatch fun v =>
    { v with test := some { want := want, rounds := [998], judged := want - 1, violated := violated } }
def locating (stage : LocateStage) (cands : List (SlotId × Gen)) (s : State) : State :=
  s.modWatch fun v => { v with locate := some { cands := cands, stage := stage, settle := some 0 } }

theorem test_meets_WindowTestEnds :
    (lastWindow 4 2 (scored .confirming [] 0 2 [])).reception = some (record noSpans)
    ∧ (lastWindow 4 2 (scored .confirming [] 0 2 [])).watch.test
      = some { want := 4, rounds := [998], judged := 3, violated := 2 }
    ∧ ([998] : List Round).contains (record noSpans).plan.round = true
    ∧ (lastWindow 4 2 (scored .confirming [] 0 1 [])).watch.score.windowViolations = 1
    ∧ (lastWindow 2 0 (locating .check2 [(4, 3)] (scored .locating [] 0 2 []))).watch.locate
      = some { cands := [(4, ((scored .locating [] 0 0 []).slot 4).gen)], stage := .check2, settle := some 0 }
    ∧ (lastWindow 4 0 (scored .foreignLight [] 0 1 [])).watch.state = .foreignLight := by decide +kernel

/-- The final check of slot 4 at the end of a part, with so many violations in its last window. -/
def finalCheck (stage : LocateStage) (violations : Nat) : State :=
  let s := scored .locating [] 0 violations [true]
  lastWindow 2 0 (locating stage [(4, 3)] (put s 4 { home .active 0xA1 with hushed := stage == .check1 }))

theorem test_meets_WindowTestEnds_check :
    (finalCheck .check1 1).watch.locate = some { cands := [(4, 3)], stage := .check1, settle := some 0 }
    ∧ ((finalCheck .check1 1).slot 4).hushed = true ∧ (∀ j, ((finalCheck .check2 1).slot j).hushed = false)
    ∧ (let t := after .roundReceptionEnd (finalCheck .check1 1)
       t.watch.locate.map (·.stage) = some .check2 ∧ t.watch.orders.map (fun o => (o.slot, o.hush)) = [(4, false)])
    ∧ (let t := after .roundReceptionEnd (finalCheck .check1 2)
       t.watch.state = .foreignLight ∧ t.watch.orders.map (·.slot) = [4] ∧ t.link.flags = 0x10)
    ∧ (let t := after .roundReceptionEnd (finalCheck .check2 1)
       t.watch.state = .alert ∧ t.watch.history = [] ∧ t.watch.locate = none)
    ∧ (let t := after .roundReceptionEnd (lastWindow 4 0 (scored .foreignLight [] 0 2 []))
       t.watch.state = .foreignLight ∧ t.watch.since = 1000 ∧ t.watch.test = none) := by decide +kernel

/-- A test about to confirm with no slot, one slot or two slots as candidates, one with a WAKE due. -/
def confirmed (s : State) : State := lastWindow 4 2 ((watch (receiving s noSpans) .confirming).modWatch fun v =>
  { v with score := { guards := [], quietViolations := 0, windowViolations := 2 } })
def twoHomes : State := put (put lit 4 (home .active 0xA1)) 7 (home .lost 0xA2)

theorem test_meets_WindowTestEnds_candidates :
    (confirmed lit).watch.test.map (·.violated) = some 2 ∧ (confirmed lit).watch.state = .confirming
    ∧ (∀ i, ((confirmed lit).slot i).state = .free)
    ∧ ((confirmed (put lit 4 (home .active 0xA1))).slot 4).state = .active
    ∧ ((confirmed twoHomes).slot 7).state = .lost ∧ (∀ i, ((confirmed twoHomes).slot i).wakeDue = false)
    ∧ (∃ i, ((confirmed (put twoHomes 9 { home .free 0 with wakeDue := true })).slot i).wakeDue = true) := by
  decide +kernel

theorem test_search_begins_with_the_lower_half :
    (after .roundReceptionEnd (confirmed twoHomes)).watch.locate.map (·.stage) = some (.step [(4, 3)])
    ∧ (after .roundReceptionEnd (confirmed lit)).watch.state = .foreignLight := by decide +kernel

/-- A step that hushed slot 4 out of the candidates, its test at the last window. -/
def stepped (half cands : List (SlotId × Gen)) (violations : Nat) : State :=
  lastWindow 2 0 (locating (.step half) cands (scored .locating [] 0 violations []))
/-- FOREIGN_LIGHT, a retest held, with a slot hushed or none. -/
def retestHeld (s : State) : State := (watch s .foreignLight).modWatch fun w => { w with retestHeld := true }
def oneHushed : State := put lit 4 { home .active 0xA1 with hushed := true }

theorem test_meets_LocateStepsAndWatchPeriods :
    (locating .check1 [(4, 3)] (scored .locating [] 0 0 [])).watch.locate.map (·.settle) = some (some 0)
    ∧ (locating .check1 [(4, 3)] (scored .locating [] 0 0 [])).watch.test = none
    ∧ (stepped [(4, 3)] [(4, 3), (7, 3)] 0).reception = some (record noSpans)
    ∧ (stepped [(4, 3)] [(4, 3), (7, 3)] 0).watch.locate
      = some { cands := [(4, 3), (7, 3)], stage := .step [(4, 3)], settle := some 0 }
    ∧ ([(4, 3)] : List (SlotId × Gen)).filter (fun c => !([(4, 3)] : List (SlotId × Gen)).contains c) = []
    ∧ ([(4, 3), (7, 3), (9, 3)] : List (SlotId × Gen)).filter (fun c => !([(4, 3)] : List (SlotId × Gen)).contains c)
      = [(7, 3), (9, 3)]
    ∧ ((stepped [(4, 3)] [(4, 3), (7, 3), (9, 3)] 2).slot 7).hushed = false
    ∧ (stepped [(4, 3)] [(4, 3), (7, 3), (9, 3)] 2).watch.score.windowViolations = 2
    ∧ ((put (stepped [(4, 3)] [(4, 3), (7, 3), (9, 3)] 2) 4 { home .active 0xA1 with hushed := true }).slot 4).hushed = true
    ∧ ((watch lit .alert).modWatch fun w => { w with since := 1000 - 240000 }).watch.state = .alert
    ∧ 240000 ≤ (lit.clock.round - (1000 - 240000)).toNat ∧ (lit.clock.round - (1000 - 239999)).toNat < 240000
    ∧ (watch lit .foreignLight).watch.test = none ∧ (∀ i, (lit.slot i).hushed = false)
    ∧ (oneHushed.slot 4).hushed = true ∧ lit.watch.retestHeld = false ∧ (retestHeld lit).watch.retestHeld = true
    ∧ 120000 ≤ (lit.clock.round - (1000 - 120000)).toNat ∧ (lit.clock.round - (1000 - 119999)).toNat < 120000 := by
  decide +kernel

theorem test_held_retest_waits_for_a_round_start :
    let due := (watch oneHushed .foreignLight).modWatch fun w => { w with since := 1000 - 120000 }
    let held := after .foreignLightRetest due
    let freed := held.modSlot 4 fun r => { r with hushed := false }
    held.watch.retestHeld = true ∧ (after .foreignLightRetest freed).watch.test = none
    ∧ (after (.roundBoundary false []) held).watch.retestHeld = true
    ∧ (after (.roundBoundary false []) freed).watch.retestHeld = false
    ∧ (after (.roundBoundary false []) freed).watch.test.map (·.want) = some 4 := by decide +kernel

/-! ### The home table and provisioning -/

/-- Slot 4 LOST since a round. -/
def lostSince (n : Round) : State := put lit 4 { home .lost 0xA1 with lostSince := some { round := n, time := 0 } }

theorem test_meets_LostSlotExpires : ((lostSince (1000 - 240000)).slot 4).state = .lost
    ∧ ((lostSince (1000 - 240000)).slot 4).serial = some 0xA1
    ∧ 240000 ≤ (lit.clock.round - (1000 - 240000)).toNat ∧ (lit.clock.round - (1000 - 239999)).toNat < 240000
    ∧ (lostSince 0).tree.state = .lit ∧ (port (lostSince 0) .calibrating).tree.state = .calibrating
    ∧ (lostSince 0).tree.normal = [] := by
  decide +kernel

/-- A decision on serial A1 that slot 4 holds in a state. -/
def decided (st : SlotState) (k : DecisionKind) : State :=
  (put lit 4 (home st 0xA1)).modRoster fun r => { r with decisions := [{ serial := 0xA1, kind := k }] }

theorem test_meets_ContestsWeighedAndDecided_decision : (decided .lost .moved).holder 0xA1 = some 4
    ∧ (decided .resuming .moved).holder 0xA1 = some 4 ∧ (decided .active (.clone 12)).holder 0xA1 = some 4
    ∧ (decided .barred .unbar).holder 0xA1 = some 4 ∧ (decided .closing .unbar).holder 0xA1 = some 4
    ∧ (decided .active .moved).roster.decisions = [{ serial := 0xA1, kind := .moved }] := by decide +kernel

/-- DEROLL of serial A1 that slot 4 holds in a state. -/
def derolled (st : SlotState) (rejoin : Bool) : State :=
  dispatched (put lit 4 { home st 0xA1 with rejoin := rejoin }) (command 3 (beSerial 0xA1))

theorem test_meets_DerollActs :
    (derolled .active false).link.dispatched.find? (·.code == 3) = some (command 3 (beSerial 0xA1))
    ∧ BitVec.ofNat 64 (fieldNat (beSerial 0xA1) 0 8) = (0xA1 : Serial)
    ∧ (derolled .free false).holder 0xA1 = none ∧ (derolled .active false).holder 0xA1 = some 4
    ∧ (derolled .assigning true).holder 0xA1 = some 4 ∧ (derolled .assigning false).holder 0xA1 = some 4
    ∧ (derolled .lost false).holder 0xA1 = some 4 ∧ (derolled .resuming false).holder 0xA1 = some 4
    ∧ (derolled .barred false).holder 0xA1 = some 4 ∧ (derolled .closing false).holder 0xA1 = some 4 := by decide +kernel

theorem test_meets_ReadsAnswered :
    (dispatched lit (command 4 [127])).link.dispatched.find? (·.code == 4) = some (command 4 [127])
    ∧ [BitVec.ofNat 8 (127 : SlotId).val] = (command 4 [127]).args ∧ 128 ≤ (128 : Byte).toNat
    ∧ (put (dispatched lit (command 4 (beSerial 0xA1))) 4 (home .active 0xA1)).holder
        (BitVec.ofNat 64 (fieldNat (command 4 (beSerial 0xA1)).args 0 8)) = some 4
    ∧ (dispatched lit (command 4 (beSerial 0xA1))).holder 0xA1 = none ∧ (beSerial 0xA1).length = 8
    ∧ (dispatched lit (command 5 [])).link.dispatched.find? (·.code == 5) = some (command 5 [])
    ∧ (dispatched lit (command 6 [15])).link.dispatched.find? (·.code == 6) = some (command 6 [15])
    ∧ 15 < (16 : Byte).toNat ∧ (15 : Byte).toNat ≤ 15
    ∧ (dispatched lit (command 7 [])).link.dispatched.find? (·.code == 7) = some (command 7 []) := by decide +kernel

/-- PROVISION of serial A1 with a profile and a tag. -/
def provisions (profile tag : Nat) (s : State) : State :=
  dispatched s (command 1 (beSerial 0xA1 ++ be 1 profile ++ be 2 tag))

theorem test_meets_ProvisionAnswered :
    let c := command 1 (beSerial 0xA1 ++ be 1 7 ++ be 2 4095)
    (provisions 7 4095 lit).link.dispatched.find? (·.code == 1) = some c
    ∧ BitVec.ofNat 64 (fieldNat c.args 0 8) = (0xA1 : Serial) ∧ fieldNat c.args 8 1 = 7 ∧ fieldNat c.args 9 2 = 4095
    ∧ fieldNat (command 1 (beSerial 0xA1 ++ be 1 8 ++ be 2 4096)).args 8 1 = 8
    ∧ fieldNat (command 1 (beSerial 0xA1 ++ be 1 8 ++ be 2 4096)).args 9 2 = 4096
    ∧ (provisions 7 4095 lit).entryOf 0xA1 = none ∧ (provisions 7 4095 lit).enrol.closes = []
    ∧ (provisions 7 4095 lit).enrol.provision.length < 256
    ∧ (provisions 7 4095 (provisioned lit)).entryOf 0xA1 = some { serial := 0xA1, profile := 0, tag := 17 }
    ∧ (provisions 7 4095 (provisioned lit)).holder 0xA1 = none
    ∧ (provisions 7 4095 (put (provisioned lit) 4 (home .closing 0xA1))).holder 0xA1 = some 4
    ∧ 256 ≤ ((provisions 7 4095 lit).modEnrol fun e =>
        { e with provision := List.replicate 256 { serial := 1, profile := 0, tag := 1 } }).enrol.provision.length := by
  decide +kernel

theorem test_meets_ProvisionAnswered_busy :
    let p : ProfileClose := {
      command := command 1 [], serial := 0xA1, profile := 7, tag := 18, slot := 4, gen := 3, closed := false }
    ∃ q ∈ ((provisions 7 4095 lit).modEnrol fun e => { e with closes := [p] }).enrol.closes, q.serial = 0xA1 :=
  ⟨_, List.mem_singleton_self _, rfl⟩

theorem test_meets_ProvisionChangesHeldSlot :
    let s := provisions 7 17 (put (provisioned lit) 4 (home .active 0xA1))
    s.holder 0xA1 = some 4 ∧ (s.slot 4).state ≠ .closing ∧ s.enrol.closes = []
    ∧ s.entryOf 0xA1 = some { serial := 0xA1, profile := 0, tag := 17 }
    ∧ (∀ e ∈ s.enrol.provision, e.tag = 17 → e.serial = 0xA1)
    ∧ (s.slot 4).tariff = some (s.profileOf 7).tariff
    ∧ (put s 4 { home .active 0xA1 with tariff := some 3 }).entryOf 0xA1 = s.entryOf 0xA1
    ∧ (s.slot 4).enrolled = true
    ∧ ((s.modCtx 4 fun c => { c with state := .owed }).ctx 4).state = .owed := by decide +kernel

/-- The same with another tariff class in the slot and a context in a state, its tally, another slot's close, a journal. -/
def reclassed (st : CtxState) (bytes : Nat) (other : CtxState) (held : Nat) : State :=
  let s := provisions 7 17 (put (provisioned lit) 4 { home .active 0xA1 with tariff := some 3 })
  let s := (s.modCtx 4 fun c => { c with state := st }).modCtx 5 fun c => { c with state := other }
  (s.modTally 4 1 fun t => { t with counts := { t.counts with down := bytes } }).modJournal fun j =>
    { j with append := 1 + BitVec.ofNat 32 held }

theorem test_meets_ProvisionChangesHeldSlot_closes :
    let s := reclassed .opened 5 .none 511
    (s.slot 4).tariff ≠ some (s.profileOf 7).tariff ∧ (s.slot 4).enrolled = true ∧ s.holder 0xA1 = some 4
    ∧ (∀ j, (s.ctx j).state ≠ .owed ∧ (s.ctx j).state ≠ .finalOwed)
    ∧ ((reclassed .opened 5 .finalOwed 0).ctx 5).state = .finalOwed ∧ ((reclassed .owed 5 .none 0).ctx 4).state = .owed
    ∧ s.spill 4 = ByteCounts.zero ∧ (∀ k, (s.tally 4 k).upset = none) ∧ (s.tally 4 1).counts ≠ ByteCounts.zero
    ∧ (∀ k, ((reclassed .opened 0 .none 0).tally 4 k).counts = ByteCounts.zero
      ∧ ((reclassed .opened 0 .none 0).tally 4 k).damaged = false)
    ∧ (s.journal.append - s.journal.oldest).toNat < 512
    ∧ 512 ≤ ((reclassed .opened 5 .none 512).journal.append - (reclassed .opened 5 .none 512).journal.oldest).toNat
    ∧ ((reclassed .draining 0 .none 0).ctx 4).state = .draining ∧ ((reclassed .none 0 .none 0).ctx 4).state = .none := by
  decide +kernel

/-- An outstanding profile close of slot 4 with its answer. -/
def closing (closed : Bool) (s : State) : State :=
  let p : ProfileClose := {
    command := command 1 [], serial := 0xA1, profile := 7, tag := 18, slot := 4, gen := 3, closed := closed }
  (put (provisioned s) 4 (home .active 0xA1)).modEnrol fun e => { e with closes := [p] }

theorem test_meets_ProfileCloseAnswered : (closing false lit).enrol.closes.length = 1
    ∧ (∀ e ∈ (closing true lit).enrol.provision, e.tag = 18 → e.serial = 0xA1)
    ∧ ((closing true lit).slot 4).gen = 3 ∧ ((closing true lit).slot 4).state ≠ .closing
    ∧ ((closing true lit).slot 4).state ≠ .free
    ∧ ((put (closing true lit) 4 (home .closing 0xA1)).slot 4).state = .closing := by decide +kernel

theorem test_meets_UnprovisionAnswered :
    let s := dispatched (provisioned lit) (command 2 (beSerial 0xA1))
    s.link.dispatched.find? (·.code == 2) = some (command 2 (beSerial 0xA1))
    ∧ s.entryOf 0xA1 = some { serial := 0xA1, profile := 0, tag := 17 }
    ∧ (∀ i, (s.slot i).state ≠ .free → (s.slot i).serial ≠ some 0xA1)
    ∧ (∀ k ∈ s.enrol.provision, k.tag = 17 → k.serial = 0xA1) ∧ s.quarantined 0xA1 = false
    ∧ ((put s 4 (home .closing 0xA1)).slot 4).state ≠ .free
    ∧ (dispatched lit (command 2 (beSerial 0xA1))).entryOf 0xA1 = none := by decide +kernel

/-! ### Downstream, metering and the journal -/

/-- A packet of a length, and the home of tag 17 in slot 4 in a state. -/
def packet (n : Nat) : List Byte := List.replicate n 1
def tagged (st : SlotState) : State := put (provisioned lit) 4 (home st 0xA1)

theorem test_meets_PacketIngressDecided : (packet 64).length = 64 ∧ (packet 63).length < 64
    ∧ (tagged .active).entryOfTag 17 = some { serial := 0xA1, profile := 0, tag := 17 }
    ∧ (tagged .active).entryOfTag 18 = none ∧ (tagged .active).holder 0xA1 = some 4
    ∧ (provisioned lit).holder 0xA1 = none ∧ 1 ≤ ((tagged .active).slotProfile 4).queueLimit
    ∧ 1 ≤ (tagged .active).down.free ∧ (tagged .active).down.pressure = false
    ∧ ((tagged .resuming).slot 4).state = .resuming ∧ ((tagged .lost).slot 4).metered = true
    ∧ ((tagged .assigning).slot 4).metered = false ∧ ((tagged .closing).slot 4).metered = false
    ∧ ¬ 1 ≤ ((tagged .active).modDown fun d => { d with free := 0 }).down.free
    ∧ 64 ≤ ((tagged .lost).modMeter fun m =>
        { m with
          queue := List.replicate 64 { slot := 0, gen := 0, kind := .up, bytes := 1, assured := 0, band := 0 }
          taken := 64 }).meter.queue.length := by decide +kernel

/-- A flush of slot 4 announced, with packets in its queue, and a context. -/
def flushing (cl : Bool) (packets : List (List Byte)) : State :=
  let r : SlotRecord := { home .closing 0xA1 with closeReason := some .deroll }
  let s := (put lit 4 r).modDown fun d => { d with flushes := [{ slot := 4, gen := 3, closing := cl }], txBlocks := 2 }
  (s.modQueue 4 fun q => { q with packets := packets }).modCtx 4 fun c => { c with state := .opened }

theorem test_meets_BlocksReturn : (flushing true [packet 64]).down.flushes = [{ slot := 4, gen := 3, closing := true }]
    ∧ ((flushing true [packet 64]).slot 4).state = .closing
    ∧ ((flushing true [packet 64]).slot 4).closeReason = some .deroll
    ∧ ((flushing true [packet 64]).slot 4).gen = 3 ∧ ((flushing true []).ctx 4).state = .opened
    ∧ (flushing false []).down.txBlocks ≠ 0 ∧ lit.down.txBlocks = 0
    ∧ 0 < (((flushing true [packet 64]).queue 4).packets.map List.length).sum := by decide +kernel

/-- One meter update for slot 4 in the queue, the context and the slot in a state. -/
def metered (kind : MeterKind) (ctx : CtxState) (st : SlotState) : State :=
  let u : MeterUpdate := { slot := 4, gen := 3, kind := kind, bytes := 100, assured := 64, band := 1 }
  ((put lit 4 (home st 0xA1)).modMeter fun m => { m with queue := [u], taken := 1 }).modCtx 4 fun c =>
    { c with state := ctx }

theorem test_meets_MeterUpdateConsumed : (metered .up .opened .active).meter.queue.length = 1
    ∧ ((metered .up .opened .active).slot 4).gen = 3 ∧ ((metered .down .opened .active).ctx 4).state ≠ .none
    ∧ ((metered .drop .opened .active).tally 4 1).upset = none ∧ (metered .up .opened .active).spill 4 = ByteCounts.zero
    ∧ ((metered .up .finalOwed .closing).ctx 4).state = .finalOwed
    ∧ ((metered .up .none .closing).slot 4).metered = false := by decide +kernel

/-- The same with an overflow waiting, which is folded into another band or the same, one count beyond its range. -/
def overflowing (band : Band) (down : Nat) : State :=
  let s := metered .down .opened .active
  (s.setOver 4 { ByteCounts.zero with down := 7 }).modMeter (fun m => { m with band := band })
    |>.modTally 4 1 fun t => { t with counts := { t.counts with down := down } }

theorem test_meets_MeterUpdateConsumed_fold : (overflowing 2 5).spill 4 ≠ ByteCounts.zero
    ∧ ((overflowing 2 5).tally 4 2).upset = none ∧ (overflowing 2 5).meter.band ≠ 1 ∧ (overflowing 1 5).meter.band = 1
    ∧ (let t := after .meterUpdateConsume (overflowing 2 5)
       (t.tally 4 1).counts.down = 105 ∧ (t.tally 4 2).counts.down = 7 ∧ t.spill 4 = ByteCounts.zero)
    ∧ ((after .meterUpdateConsume (overflowing 1 5)).tally 4 1).counts.down = 112
    ∧ ((after .meterUpdateConsume (overflowing 1 1099511627670)).ctx 4).marks.saturated = true := by decide +kernel

/-- Slot 4 CLOSING with its context DRAINING at the mark, and a journal with a number of entries held. -/
def draining (held : Nat) : State :=
  let r : SlotRecord := { home .closing 0xA1 with closeReason := some .deroll }
  ((put lit 4 r).modCtx 4 fun c => { c with state := .draining, closeReason := some .deroll }).modJournal fun j =>
    { j with append := 1 + BitVec.ofNat 32 held }

theorem test_meets_DrainCompletes : ((draining 511).ctx 4).state = .draining
    ∧ 0 ≤ ((draining 511).meter.consumed - ((draining 511).ctx 4).drainMark).toInt
    ∧ ((draining 511).ctx 4).closeReason = some .deroll ∧ ((draining 511).slot 4).state = .closing
    ∧ ((draining 511).slot 4).serial = some 0xA1
    ∧ ((draining 511).journal.append - (draining 511).journal.oldest).toNat < 512
    ∧ 512 ≤ ((draining 512).journal.append - (draining 512).journal.oldest).toNat
    ∧ (∀ j, ((draining 511).ctx j).state ≠ .owed ∧ ((draining 511).ctx j).state ≠ .finalOwed) := by decide +kernel

/-- An OPEN context of slot 4 with bytes in band 1 and an upset, the scrub and interval times reached. -/
def counting (bytes : Nat) (u : Option Upset) (held : Nat) : State :=
  let s := (put lit 4 (home .active 0xA1)).modCtx 4 fun c => { c with state := .opened }
  let s := s.modTally 4 1 fun t => { t with counts := { t.counts with down := bytes }, upset := u }
  (s.modMeter fun m => { m with scrubCount := 4000, nextBoundary := some 500000 }).modJournal fun j =>
    { j with append := 1 + BitVec.ofNat 32 held }

theorem test_meets_ScrubPassRepairs : (counting 5 none 0).meter.scrubCount = 4000 ∧ lit.meter.scrubCount < 4000
    ∧ ((counting 5 (some .single) 0).tally 4 1).upset = some .single
    ∧ ((counting 5 (some .double) 0).tally 4 1).upset = some .double
    ∧ ((counting 5 none 0).tally 4 0).upset = none ∧ ((counting 5 none 0).ctx 5).state = .none := by decide +kernel

theorem test_meets_IntervalRoundRuns : (counting 5 none 0).meter.nextBoundary = some 500000
    ∧ 500000 ≤ (counting 5 none 0).clock.time.toNat
    ∧ ((counting 5 none 0).modClock fun c => { c with time := 499999 }).clock.time.toNat < 500000
    ∧ (∀ j, ((counting 5 none 0).ctx j).state = .opened ↔ j = 4)
    ∧ (∀ j, ((counting 5 none 0).ctx j).state ≠ .owed ∧ ((counting 5 none 0).ctx j).state ≠ .finalOwed)
    ∧ ((counting 5 none 511).journal.append - (counting 5 none 511).journal.oldest).toNat < 512
    ∧ 512 ≤ ((counting 5 none 512).journal.append - (counting 5 none 512).journal.oldest).toNat
    ∧ (counting 5 none 0).spill 4 = ByteCounts.zero ∧ (∀ k, ((counting 5 none 0).tally 4 k).upset = none)
    ∧ ((counting 5 none 0).tally 4 1).counts ≠ ByteCounts.zero
    ∧ (∀ k, ((counting 0 none 0).tally 4 k).counts = ByteCounts.zero ∧ ((counting 0 none 0).tally 4 k).damaged = false
      ∧ ((counting 0 none 0).tally 4 k).upset = none) := by decide +kernel

/-- Two OPEN contexts with lines, slots 4 and 7, and perhaps the close of slot 9 owed. -/
def countingTwo (held : Nat) (other : CtxState) : State :=
  let s := (put (counting 5 none held) 7 (home .active 0xA2)).modCtx 7 fun c => { c with state := .opened }
  (s.modTally 7 2 fun t => { t with damaged := true }).modCtx 9 fun c => { c with state := other }

theorem test_meets_IntervalRoundRuns_two :
    (∀ i, (countingTwo 0 .none).spill i = ByteCounts.zero ∧ ∀ k, ((countingTwo 0 .none).tally i k).upset = none)
    ∧ ([4, 7] : List SlotId).Pairwise (· < ·)
    ∧ (∀ i, i ∈ ([4, 7] : List SlotId) ↔ ((countingTwo 0 .none).ctx i).state = .opened
      ∧ ∃ k, ((countingTwo 0 .none).tally i k).counts ≠ ByteCounts.zero
        ∨ ((countingTwo 0 .none).tally i k).damaged = true)
    ∧ (∀ j, ((countingTwo 0 .none).ctx j).state ≠ .owed ∧ ((countingTwo 0 .none).ctx j).state ≠ .finalOwed)
    ∧ ((countingTwo 0 .owed).ctx 9).state = .owed
    ∧ (let t := after .intervalRound (countingTwo 511 .none)
       t.journal.append = 513 ∧ (t.ctx 4).state = .opened ∧ (t.ctx 7).state = .owed)
    ∧ (let t := after .intervalRound (countingTwo 446 .none)
       t.journal.records.map (·.slot) = [4, 7] ∧ t.journal.nearFull = true ∧ t.link.flags = 0x400)
    ∧ (let t := after .intervalRound (countingTwo 0 .owed)
       t.journal.append = 1 ∧ (t.ctx 4).state = .owed ∧ (t.ctx 7).state = .owed) := by decide +kernel

/-- A journal of two records, `sent` of them sent, at a pacing tick. -/
def usage (n : Nat) : UsageRecord :=
  { seq := BitVec.ofNat 32 n, runMark := 412, serial := 0xA1, slot := 4, gen := 3, start := 0, stop := 1, flags := 0
    reason := .interval, lines := [] }
def journalled (sent : Nat) : State :=
  lit.modJournal fun j =>
    { j with
      records := [usage 1, usage 2], append := 3, publish := 1 + BitVec.ofNat 32 sent, runMark := 412, pacing := 80
      ackTimer := some 8000 }

theorem test_meets_PacingTickOffers : (journalled 0).clock.phase = .running
    ∧ 4 * (journalled 0).config.pacing ≤ (journalled 0).journal.pacing ∧ (journalled 0).journal.inHand = none
    ∧ (journalled 0).journal.nextRecord = some (usage 1) ∧ (journalled 2).journal.nextRecord = none
    ∧ (journalled 0).link.queue.length < 16
    ∧ ((journalled 0).modJournal fun j => { j with inHand := some 1 }).journal.inHand ≠ none
    ∧ 16 ≤ (List.replicate 16 ({ message := .release 1, attempts := 0, age := 0 } : TxEntry)).length := by decide +kernel

/-- An acknowledgement of a sequence number from the collector, station 0, to this station, 0. -/
def acked (sent : Nat) (seq : Seq) (mark : Half) : State :=
  (journalled sent).modJournal fun j => { j with acks := [{ source := 0, dest := 0, runMark := mark, seq := seq }] }

theorem test_meets_AcknowledgementsAndGoBack :
    (acked 1 1 412).journal.acks = [{ source := 0, dest := 0, runMark := 412, seq := 1 }]
    ∧ (0 : Byte) = BitVec.ofNat 8 (acked 1 1 412).config.collector ∧ 0 = (acked 1 1 412).station
    ∧ (412 : Half) = (acked 1 1 412).journal.runMark ∧ (411 : Half) ≠ (acked 1 1 411).journal.runMark
    ∧ (0 : Int) ≤ ((1 : Seq) - (acked 1 1 412).journal.oldest).toInt
    ∧ ((0 : Seq) - (acked 1 0 412).journal.oldest).toInt < 0
    ∧ 0 < ((acked 1 1 412).journal.publish - (acked 1 1 412).journal.oldest).toNat
    ∧ ((acked 0 1 412).journal.publish - (acked 0 1 412).journal.oldest).toNat = 0
    ∧ (∀ i, ((acked 1 1 412).ctx i).state ≠ .owed ∧ ((acked 1 1 412).ctx i).state ≠ .finalOwed)
    ∧ (journalled 1).journal.ackTimer = some 8000 ∧ (journalled 1).journal.publish ≠ (journalled 1).journal.oldest
    ∧ 7999 < 8000 := by decide +kernel

/-- The journal full of entries, one of them sent and acknowledged, with slot 4 owing a close. -/
def owing (st : CtxState) (slotState : SlotState) (reason : Option CloseReason) : State :=
  let r : SlotRecord := { home slotState 0xA1 with closeReason := reason }
  ((put (acked 1 1 412) 4 r).modCtx 4 fun c =>
    { c with state := st, closeReason := reason, marks := { c.marks with overdue := true } }).modJournal fun j =>
      { j with append := 513 }

theorem test_meets_AcknowledgementsAndGoBack_owed :
    let s := owing .owed .active none
    let f := owing .finalOwed .closing (some .deroll)
    s.journal.acks = [{ source := 0, dest := 0, runMark := 412, seq := 1 }]
    ∧ (∀ j, j ≠ 4 → (s.ctx j).state ≠ .owed ∧ (s.ctx j).state ≠ .finalOwed)
    ∧ (∀ j, j ≠ 4 → (f.ctx j).state ≠ .owed ∧ (f.ctx j).state ≠ .finalOwed)
    ∧ (s.ctx 4).state = .owed ∧ (s.ctx 4).marks.overdue = true ∧ (f.ctx 4).state = .finalOwed
    ∧ (f.ctx 4).marks.overdue = true ∧ (f.ctx 4).closeReason = some .deroll ∧ (f.slot 4).state = .closing
    ∧ 0 < (s.journal.publish - s.journal.oldest).toNat
    ∧ (s.journal.append - (s.journal.oldest + BitVec.ofNat 32 1)).toNat < 512 := by decide +kernel

/-! ### The shelf link -/

/-- Station 0 sending a frame of its own, with the bytes on the pair. -/
def sendingOwn (wire : List Byte) : State := lit.modLink fun l => { l with phase := .sending 3, wire := wire }

theorem test_meets_FrameReceived :
    (sendingOwn (frame 255 0 3 (beSerial 1))).link.wire = frame 255 0 3 (beSerial 1)
    ∧ (sendingOwn (frame 255 0 3 (beSerial 1))).link.wire ≠ frame 0 12 9 [1, 5] ∧ lit.link.phase = .idle
    ∧ receivedFrame lit.station (frame 0 12 9 [1, 5]) = some (.command 0 { source := 12, tag := 1, code := 5, args := [] })
    ∧ receivedFrame lit.station (frame 0 12 8 [1, 156, 0, 0, 0, 1])
      = some (.usageAck { source := 12, dest := 0, runMark := 412, seq := 1 })
    ∧ (frame 0 12 9 [1, 5]).take 8 ≠ frame 0 12 9 [1, 5] ∧ fieldNat (frame 0 12 6 []) 3 1 = 6 := by decide +kernel

theorem test_acknowledgement_before_the_sent_report :
    (after (.frameReceive (frame 0 12 8 [1, 156, 0, 0, 0, 1])) (sendingOwn (frame 255 0 3 (beSerial 1)))).journal.acks
      = [{ source := 12, dest := 0, runMark := 412, seq := 1 }] := by decide +kernel

def claimFrame (heard : Nat) : List Byte := frame 255 12 2 (beSerial 0xA1 ++ be 6 7 ++ be 1 heard ++ be 3 0)
def claimed (s : State) : State :=
  s.modRoster fun r => { r with claims := [{ serial := 0xA1, holder := 12, time := 1, lastHeard := 900 }] }

/-- A full roster whose first entry, of serial A2, is the oldest, and a full quarantine with one peer entry or none. -/
def crowd (n : Nat) : List Claim := List.replicate n { serial := 0xB1, holder := 3, time := 1, lastHeard := 990 }
def oldest : Claim := { serial := 0xA2, holder := 3, time := 1, lastHeard := 989 }
def fullRoster : State :=
  (put lit 7 { home .active 0xA2 with contested := true }).modRoster fun r => { r with claims := [] ++ oldest :: crowd 1023 }
def localBar (x : Serial) (time : DTime) : Quarantine := { serial := x, reason := .stray, origin := 0, time := time }
def peerBar : Quarantine := { serial := 0xB2, reason := .stray, origin := 3, time := 9 }
def quarantining (l : List Quarantine) : State := lit.modRoster fun r => { r with quarantine := l }

theorem test_meets_PeerFramesRecorded :
    receivedFrame lit.station (claimFrame 1) = some (.claim 12 0xA1 7 true)
    ∧ receivedFrame lit.station (frame 255 12 3 (beSerial 0xA1)) = some (.release 12 0xA1)
    ∧ receivedFrame lit.station (frame 255 12 4 (beSerial 0xA1 ++ be 1 1 ++ be 6 7 ++ be 5 0))
      = some (.bar 12 0xA1 .overrun 7)
    ∧ lit.holder 0xA1 = none ∧ lit.roster.claims.length < 1024 ∧ lit.link.phase = .idle
    ∧ (claimed lit).roster.claims.any (fun c => c.serial == 0xA1 && c.holder == 12) = true
    ∧ (put (claimed lit) 4 (home .lost 0xA1)).holder 0xA1 = some 4 ∧ lit.roster.claims = [] := by decide +kernel

theorem test_meets_PeerFramesRecorded_full : 1024 ≤ fullRoster.roster.claims.length
    ∧ (∀ c ∈ fullRoster.roster.claims, ¬ (c.serial = 0xA1 ∧ c.holder = 12))
    ∧ (∀ c ∈ crowd 1023, (fullRoster.clock.round - c.lastHeard).toNat ≤ (fullRoster.clock.round - oldest.lastHeard).toNat)
    ∧ fullRoster.holder oldest.serial = some 7
    ∧ ((after (.frameReceive (claimFrame 1)) fullRoster).slot 7).contested = false := by decide +kernel

theorem test_meets_PeerFramesRecorded_bars :
    (quarantining [localBar 0xA1 1]).roster.quarantine.find? (·.serial == 0xA1) = some (localBar 0xA1 1)
    ∧ (localBar 0xA1 1).origin = lit.station ∧ peerBar.origin ≠ lit.station
    ∧ (quarantining [peerBar]).roster.quarantine.find? (·.serial == 0xB2) = some peerBar
    ∧ (List.replicate 63 (localBar 0xB1 1)).length < 64
    ∧ 64 ≤ (List.replicate 9 (localBar 0xB1 1) ++ peerBar :: List.replicate 54 (localBar 0xB3 1)).length
    ∧ 64 ≤ ([] ++ localBar 0xB3 0 :: List.replicate 63 (localBar 0xB1 0)).length
    ∧ (∀ q ∈ [] ++ localBar 0xB3 0 :: List.replicate 63 (localBar 0xB1 0), q.origin = lit.station)
    ∧ (after (.frameReceive (frame 255 12 4 (beSerial 0xA1 ++ be 1 1 ++ be 6 7 ++ be 5 0)))
        (quarantining (List.replicate 9 (localBar 0xB1 1) ++ peerBar :: List.replicate 54 (localBar 0xB3 1)))).roster.quarantine
      = List.replicate 9 (localBar 0xB1 1) ++ List.replicate 54 (localBar 0xB3 1)
        ++ [{ serial := 0xA1, reason := .overrun, origin := 12, time := 7 }] := by decide +kernel

/-- Slot 4 ACTIVE with serial A1 and a claim time, heard or not. -/
def contested (heard : Round) (time : DTime) : State :=
  (put lit 4 { home .active 0xA1 with lastHeard := some heard, claimTime := some time }).modTree fun t =>
    { t with received := [997] }

theorem test_meets_ContestsWeighedAndDecided :
    (contested 997 8).holder 0xA1 = some 4 ∧ (contested 997 8).tree.received = [997]
    ∧ (7 : DTime).toNat < (8 : DTime).toNat ∧ (contested 997 8).roster.claims = []
    ∧ (put lit 4 (home .resuming 0xA1)).holder 0xA1 = some 4 ∧ (contested 996 8).tree.received.contains 996 = false
    ∧ (after (.frameReceive (claimFrame 1)) (contested 997 8)).roster.decisions.map (·.kind) = [.clone 12]
    ∧ (after (.frameReceive (claimFrame 1)) (contested 997 7)).claimDue 4 = some 3
    ∧ (after (.frameReceive (claimFrame 0)) (contested 997 8)).claimDue 4 = some 3
    ∧ (after (.frameReceive (claimFrame 0)) (claimed (contested 997 8))).claimDue 4 = none
    ∧ ((after (.frameReceive (claimFrame 1)) (contested 996 8)).slot 4).contested = true := by decide +kernel

theorem test_meets_PeerFramesRecorded_unbar :
    receivedFrame lit.station (frame 0 12 5 (beSerial 0xA1)) = some (.unbar 12 0xA1)
    ∧ (12 : Byte) = BitVec.ofNat 8 { lit.config with controller := 12 }.controller
    ∧ (12 : Byte) ≠ BitVec.ofNat 8 lit.config.controller ∧ lit.clock.phase = .running
    ∧ State.reset.clock.phase ≠ .running ∧ (inQuarantine lit).roster.quarantine ≠ [] := by decide +kernel

def sent (c : RxCommand) (flight : Nat) (s : State) : State :=
  s.modLink fun l => { l with inbox := [c], inFlight := flight }

theorem test_meets_CommandTaken : (sent (command 8 []) 3 lit).link.inbox = [command 8 []]
    ∧ 4 ≤ (sent (command 8 []) 4 lit).link.inFlight ∧ (sent (command 8 []) 3 lit).link.inFlight < 4
    ∧ (sent (command 8 []) 3 lit).clock.phase = .running
    ∧ (command 8 []).source = BitVec.ofNat 8 lit.config.controller
    ∧ ({ command 8 [] with source := 7 } : RxCommand).source ≠ BitVec.ofNat 8 lit.config.controller
    ∧ (dispatched lit (command 8 [])).link.lastCommand = some { tag := 9, code := 8, args := [], reply := none }
    ∧ lit.link.lastCommand = none ∧ (command 8 []).wellFormed = true ∧ (command 8 [1]).wellFormed = false
    ∧ (command 11 []).wellFormed = false
    ∧ (lit.modClock fun c => { c with phase := .configFault }).clock.phase = .configFault ∧ (8 : Byte) ≠ 5 := by
  decide +kernel

theorem test_meets_FlagsCleared :
    (dispatched lit (command 10 [0x20, 0x01])).link.dispatched.find? (·.code == 10) = some (command 10 [0x20, 0x01])
    ∧ fieldNat [0x20, 0x01] 0 2 = 0x2001 ∧ 0x2001 < 16384 := by decide +kernel

/-- A full transmit queue with a number of ALERT frames in the backlog, and an alert mask. -/
def alerting (mask : Half) (frames backlog : Nat) : State :=
  { (port lit .starting).modLink fun l =>
      { l with
        queue := (List.range frames).map fun k => { message := .release 1, attempts := 0, age := k }
        backAlerts := List.replicate backlog (.alert .moved .set 1 []) } with
    config := { lit.config with alertMask := mask } }

theorem test_meets_AlertsRaised :
    (alerting 0xFFFF 15 0).tree.state = .starting ∧ (alerting 0xFFFF 15 0).clock.failed = false
    ∧ (alerting 0xFEFF 15 0).config.alertMask.getLsbD AlertKind.clockFail.code = false
    ∧ (alerting 0xFFFF 15 0).link.queue.length < Config.queueFrames
    ∧ Config.queueFrames ≤ (alerting 0xFFFF 16 16).link.queue.length
    ∧ Config.queueFrames ≤ (alerting 0xFFFF 16 16).link.backAlerts.length
    ∧ (let t := after .lineClockFailure (alerting 0xFEFF 15 0)
       t.link.flags = 0x100 ∧ t.link.queue.length = 15)
    ∧ ((after .lineClockFailure (alerting 0xFFFF 15 0)).link.queue.getLast?.map (·.message)
      = some (.alert .clockFail .set 500000 []))
    ∧ ((after .lineClockFailure (alerting 0xFFFF 16 16)).link.backAlerts
      = List.replicate 15 (.alert .moved .set 1 []) ++ [.alert .clockFail .set 500000 []])
    ∧ ((alerting 0xFFFF 15 0).modClock fun c => { c with failed := true }).clock.failed = true := by decide +kernel

/-- One frame of the queue, and a link that sends it or backs off. -/
def entry (m : Message) (attempts : Nat) : TxEntry := { message := m, attempts := attempts, age := 5 }
def linkOf (m : Message) (attempts : Nat) (p : TxPhase) : State :=
  lit.modLink fun l => { l with queue := [entry m attempts], phase := p, silence := 8 }

theorem test_meets_TransmitterWaits : (linkOf (.bar 1 .stray 0) 0 .idle).link.head = some (entry (.bar 1 .stray 0) 0)
    ∧ (linkOf (.release 1) 0 .idle).link.head = some (entry (.release 1) 0)
    ∧ (linkOf (.usage (usage 1)) 0 .idle).link.head = some (entry (.usage (usage 1)) 0)
    ∧ lit.link.active = false ∧ 12 ≤ (linkOf (.bar 1 .stray 0) 0 .idle).link.silence + 4
    ∧ (linkOf (.bar 1 .stray 0) 0 .idle).link.silence + 3 < 12
    ∧ (linkOf (.release 1) 0 (.backoff 96)).link.phase = .backoff 96 := by decide +kernel

/-- A collision at bit 13 of a frame: two bytes of it went out, the second in part, and the jam; a mismatch beyond the frame
is its last bit, and the next start of a frame sends it whole. -/
theorem test_collision_jams :
    (let s := (linkOf (.release 1) 0 .idle)
     let t := after (.frameTransmitStart { elapsed := 8, rival := none, mismatch := 13 }) s
     let u := after .collision t
     t.link.cut = none ∧ u.link.wire = t.link.wire.take 2 ∧ u.link.wire.length = 2
       ∧ u.link.cut = some { bits := 14, jam := 8 } ∧ u.link.phase = .backoff ((t.link.station.toNat + 1) * 16)
       ∧ (after .collision (t.modLink fun l => { l with mismatch := 9999 })).link.cut
         = some { bits := 8 * t.link.wire.length, jam := 8 }
       ∧ (after (.frameTransmitStart { elapsed := 16, rival := none, mismatch := 0 }) (after .backoffEnd u)).link.cut = none) := by
  decide +kernel

theorem test_abandoned_frames :
    (let s := (linkOf (.usage (usage 1)) 15 (.sending 5)).modJournal fun j => { j with inHand := some 1 }
     let t := after .collision s
     t.journal.inHand = none ∧ t.journal.publish = s.journal.publish ∧ t.link.queue = [] ∧ t.link.flags = 0x2000)
    ∧ (after .collision ((linkOf (.time .set) 15 (.sending 5)).modClock fun c =>
        { c with beacon := .queued })).clock.beacon = .none := by decide +kernel

theorem test_meets_FramesLeaveTheQueue :
    (linkOf (.release 1) 14 (.sending 5)).link.phase = .sending 5
    ∧ (linkOf (.release 1) 14 (.sending 5)).link.queue.find? (·.age == 5) = some (entry (.release 1) 14)
    ∧ (linkOf (.release 1) 15 (.sending 5)).link.backAlerts = [] ∧ lit.link.rival = none ∧ lit.link.backReplies = []
    ∧ (usage 1).seq = (journalled 0).journal.publish ∧ (usage 2).seq ≠ (journalled 0).journal.publish
    ∧ (entry (.time .set) 0).message = .time .set ∧ (entry (.release 1) 0).message.isUsage = false := by decide +kernel

/-- A full queue whose first frame goes out, with an ALERT and a REPLY in the backlog and a BAR waiting. -/
def crowdedLink : State :=
  let q := entry (.release 1) 0 :: (List.range 15).map fun k => { entry (.release 2) 0 with age := 6 + k }
  (lit.modLink fun l =>
    { l with
      queue := q, nextAge := 21, phase := .sending 5, backAlerts := [.alert .moved .set 1 []]
      backReplies := [.reply 0 9 8 .done []], inFlight := 1 }).modRoster fun r =>
    { r with bars := [{ serial := 0xA1, reason := .stray, time := 7 }] }

theorem test_meets_FramesLeaveTheQueue_backlog :
    (crowdedLink.link.queue.filter fun k => k.age ≠ 5).length = 15
    ∧ crowdedLink.link.backAlerts.map (·.isUsage) = [false] ∧ crowdedLink.link.backReplies.map (·.isUsage) = [false]
    ∧ (crowdedLink.modLink fun l => { l with backAlerts := [] }).link.backAlerts = []
    ∧ crowdedLink.roster.bars ≠ [] ∧ crowdedLink.link.rival = none
    ∧ (crowdedLink.modLink fun l => { l with rival := some .roundStart }).link.rival = some .roundStart := by decide +kernel

theorem test_rival_takes_the_free_entry :
    let last (s : State) := s.link.queue.getLast?.map (·.message)
    let rivalled := crowdedLink.modLink fun l => { l with rival := some .roundStart }
    last (after .frameSent crowdedLink) = some (.alert .moved .set 1 [])
    ∧ last (after .frameSent rivalled) = some (.bar 0xA1 .stray 7)
    ∧ (after .frameSent rivalled).link.backAlerts.length = 1 ∧ (after .frameSent rivalled).link.rival = none := by
  decide +kernel

theorem test_meets_TreeRestartTaken :
    (dispatched crowded (command 9 [])).link.dispatched.find? (·.code == 9) = some (command 9 [])
    ∧ crowded.tree.state = .lit ∧ (port crowded .dark).tree.state = .dark
    ∧ (port crowded .starting).tree.state = .starting ∧ (port crowded .calibrating).tree.state = .calibrating
    ∧ (crowded.slot 4).metered = true ∧ (crowded.slot 5).fresh = true ∧ (crowded.slot 8).state = .closing
    ∧ (crowded.slot 127).state = .free := by decide +kernel

/-- Slots 4 and 9 hushed, 4 a candidate and 9 with its WAKE in the urgent lane, and a RELEASE of slot 8 in the normal. -/
def hushedForRestart (p : PortState) : State :=
  let s := put (put crowded 4 { home .active 0xA1 with hushed := true }) 8 { home .closing 0xA5 with releasePending := true }
  port ((locating .check1 [(4, 3)] (s.offerOrder .urgent (.wake .watch) (some (9, 3))).1).modWatch fun w =>
    { w with state := .locating, orders := [{ slot := 9, gen := 3, hush := false, seq := some 3 }] }) p

theorem test_meets_TreeRestartTaken_hushed :
    (let s := hushedForRestart .lit
     let t (p : PortState) (o : RestartOrder) := after (.treeRestart o) (dispatched (hushedForRestart p) (command 9 []))
     s.tree.urgent.map (·.body) = [.hush, .wake .watch] ∧ s.tree.normal.map (·.body) = [.release]
     ∧ (s.slot 8).state = .closing ∧ s.watch.locate.map (·.cands) = some [(4, 3)] ∧ (s.slot 9).metered = true
     ∧ (let t := t .lit { portFirst := true, watchFirst := true }
        (t.slot 4).wakeDue = true ∧ (t.slot 9).wakeDue = true ∧ t.tree.urgent = [] ∧ t.tree.normal = []
          ∧ (t.slot 8).releasePending = false)
     ∧ (let t := t .lit { portFirst := true, watchFirst := false }
        (t.slot 4).wakeDue = false ∧ (t.slot 4).hushed = false ∧ (t.slot 9).wakeDue = true)
     ∧ (let t := t .dark { portFirst := true, watchFirst := true }
        t.tree.urgent = [] ∧ t.tree.normal.map (·.body) = List.replicate 5 .release)
     ∧ (t .dark { portFirst := false, watchFirst := true }).tree.normal = []) := by decide +kernel

/-! ### Time and the roster's timers -/

/-- A second tick with one peer's offset taken at a round. -/
def ticking (st : TimeState) (beacon : Beacon) (offset : Int) (taken : Round) : State :=
  lit.modClock fun c =>
    { c with
      state := st, beacon := beacon, secondCount := 4000, peers := [{ station := 12, offset := offset, round := taken }] }

/-- A second tick in SET whose peers' offsets were all taken a round ago, at a district time. -/
def peered (time : DTime) (offsets : List Int) : State :=
  lit.modClock fun c =>
    { c with
      state := .set, beacon := .queued, secondCount := 4000, time := time
      peers := offsets.map fun o => { station := 12, offset := o, round := 999 } }

theorem test_meets_SecondTickCorrects : lit.clock.secondCount < 4000
    ∧ 4000 ≤ (ticking .set .queued (-500) 999).clock.secondCount ∧ (ticking .set .queued 3 999).clock.beacon = .queued
    ∧ (ticking .coasting .queued 3 999).clock.state ≠ .set
    ∧ (lit.clock.round - 999).toNat < 16000 ∧ 16000 ≤ (lit.clock.round - (1000 - 16000)).toNat
    ∧ ([-500, 0] : List Int).Pairwise (· ≤ ·) ∧ ([0, 3, 4] : List Int).Pairwise (· ≤ ·)
    ∧ ([0, 501, 900] : List Int).Pairwise (· ≤ ·) ∧ ([-501, 0] : List Int).Pairwise (· ≤ ·)
    ∧ ([-500, 0] : List Int)[([-500, 0].length - 1) / 2]? = some (-500)
    ∧ ([0, 501, 900] : List Int)[([0, 501, 900].length - 1) / 2]? = some 501
    ∧ ([-500, 0] : List Int).Perm (0 :: (peered 0 [-500]).clock.peers.map (·.offset))
    ∧ ([0, 3, 4] : List Int).Perm (0 :: (peered 0 [4, 3]).clock.peers.map (·.offset))
    ∧ ([0, 501, 900] : List Int).Perm (0 :: (peered 0 [900, 501]).clock.peers.map (·.offset))
    ∧ ([-501, 0] : List Int).Perm (0 :: (peered 500 [-501]).clock.peers.map (·.offset))
    ∧ ((peered 500 [-501]).clock.time.toNat : Int) + (-501) < 0
    ∧ (ticking .coasting .none 3 999).clock.beacon = .none
    ∧ (ticking .coasting .none 3 999).link.queue.length < 16 := by decide +kernel

/-- A second tick in SET with no beacon in hand, and a transmit queue of a number of frames. -/
def beaconless (frames : Nat) : State :=
  (ticking .set .none 3 999).modLink fun l =>
    { l with queue := (List.range frames).map fun k => { message := .release 1, attempts := 0, age := k } }

theorem test_meets_SecondTickCorrects_beacon : (beaconless 15).clock.beacon = .none
    ∧ (beaconless 15).clock.state = .set ∧ (beaconless 15).link.queue.length < 16 ∧ 16 ≤ (beaconless 16).link.queue.length
    ∧ (ticking .unset .none 3 999).clock.state = .unset
    ∧ ((after .secondTick (beaconless 15)).link.queue.getLast?.map (·.message)) = some (.time .set)
    ∧ (after .secondTick (beaconless 15)).clock.beacon = .queued
    ∧ (after .secondTick (beaconless 16)).clock.beacon = .waiting
    ∧ (after .secondTick (beaconless 16)).clock.secondCount = 0 := by decide +kernel

theorem test_second_tick_forward :
    (after .secondTick (peered 0 [4, 3])).clock.trim = 500
    ∧ (after .secondTick (peered 0 [900, 501])).clock.time = 501
    ∧ (after .secondTick (peered 500 [-501])).clock.time = 0 := by decide +kernel

theorem test_meets_TimeStateMoves :
    receivedFrame lit.station (frame 255 12 1 (be 1 1 ++ be 6 9)) = some (.time 12 .set 9)
    ∧ receivedFrame lit.station (frame 255 12 1 (be 1 0 ++ be 6 9)) = some (.time 12 .unset 9)
    ∧ lit.clock.phase ≠ .configFault ∧ lit.link.phase = .idle ∧ lit.clock.state = .set ∧ lit.clock.peers = []
    ∧ State.reset.clock.state = .unset
    ∧ (0 : Int) ≤ (State.reset.clock.time.toNat : Int) + ((9 : DTime).toNat - State.reset.link.noted.toNat)
    ∧ 40000 ≤ (lit.clock.round - (1000 - 40000)).toNat ∧ (lit.clock.round - (1000 - 39999)).toNat < 40000
    ∧ ((counting 0 none 0).ctx 4).state ≠ .none := by decide +kernel

/-- A TIME frame of station 12, and a part in a time state with the entry of a station in its peer table. -/
def timeFrame : List Byte := frame 255 12 1 (be 1 1 ++ be 6 9)
def timed (st : TimeState) (station : Byte) : State :=
  lit.modClock fun c => { c with state := st, peers := [{ station := station, offset := 1, round := 5 }] }

theorem test_meets_TimeStateMoves_peers :
    (∃ q ∈ (timed .coasting 12).clock.peers, q.station = 12) ∧ (∀ q ∈ (timed .set 7).clock.peers, q.station ≠ 12)
    ∧ (timed .coasting 12).clock.state = .coasting
    ∧ ((9 : DTime).toNat : Int) - (500001 : DTime).toNat + (State.reset.clock.time.toNat : Int) < 0
    ∧ (after (.frameReceive timeFrame) (timed .coasting 12)).clock.state = .set
    ∧ (after (.frameReceive timeFrame) (timed .coasting 12)).clock.peers.map (·.offset) = [9]
    ∧ (after (.frameReceive timeFrame) (timed .set 7)).clock.peers.map (·.offset) = [1, 9]
    ∧ (let s := State.reset.modLink fun l => { l with noted := 500001 }
       (after (.frameReceive timeFrame) (s.modClock fun c => { c with frac := 7, time := 5 })).clock.frac = 0) := by
  decide +kernel

/-- Two BARs and a RELEASE pending, slots 4 and 7 marked, slot 9 marked at another generation, a beacon waiting, and a
transmit queue of a number of frames. -/
def offering (frames : Nat) : State :=
  let s := put (put (put lit 4 { home .active 0xA1 with lastHeard := some 997 }) 7 (home .lost 0xA2)) 9 (home .active 0xA3)
  let s := (((s.modTree fun t => { t with received := [997] }).setClaimDue 4 (some 3)).setClaimDue 7 (some 3)).setClaimDue 9
    (some 2)
  ((s.modRoster fun r => { r with
    bars := [{ serial := 0xB1, reason := .stray, time := 1 }, { serial := 0xB2, reason := .overrun, time := 2 }]
    releases := [0xB3] }).modClock fun c => { c with beacon := .waiting }).modLink fun l =>
      { l with queue := (List.range frames).map fun k => { message := .release 1, attempts := 0, age := k } }

theorem test_meets_RoundStartOffers : ([4, 7] : List SlotId).Pairwise (· < ·)
    ∧ (∀ i, i ∈ ([4, 7] : List SlotId) ↔
      (((offering 0).slot i).state = .active ∨ ((offering 0).slot i).state = .lost
        ∨ ((offering 0).slot i).state = .barred) ∧ (offering 0).claimDue i = some ((offering 0).slot i).gen)
    ∧ (let t := after (.roundBoundary true []) (offering 0)
       t.link.queue.map (·.message) = [.bar 0xB1 .stray 1, .bar 0xB2 .overrun 2, .release 0xB3, .claim 0xA1 5 true,
           .claim 0xA2 5 false, .time .set]
         ∧ t.clock.beacon = .queued ∧ t.claimDue 9 = none)
    ∧ (let t := after (.roundBoundary true []) (offering 11)
       t.link.queue.length = 16 ∧ t.link.queue.getLast?.map (·.message) = some (.claim 0xA2 5 false)
         ∧ t.claimDue 7 = none ∧ t.clock.beacon = .waiting)
    ∧ (let t := after (.roundBoundary false []) (offering 12)
       t.link.queue.length = 16 ∧ t.roster.bars = [] ∧ t.claimDue 4 = none ∧ t.claimDue 7 = some 3
         ∧ t.clock.beacon = .waiting)
    ∧ (let t := after (.roundBoundary false []) (offering 15)
       t.roster.bars.map (·.serial) = [0xB2] ∧ t.roster.releases = [0xB3] ∧ t.claimDue 4 = some 3) := by decide +kernel

theorem test_meets_RosterTimersRun :
    let s := (lit.modRoster fun r =>
      { r with
        refresh := 240000, rebroadcast := 1200000
        quarantine := [{ serial := 0xA9, reason := .stray, origin := 0, time := 1 }]
        claims := [{ serial := 0xA1, holder := 12, time := 1, lastHeard := 1000 - 720000 },
                   { serial := 0xA2, holder := 12, time := 1, lastHeard := 1000 - 719999 }] })
    lit.roster.refresh < 240000 ∧ 240000 ≤ s.roster.refresh ∧ lit.roster.rebroadcast < 1200000
    ∧ 1200000 ≤ s.roster.rebroadcast ∧ s.roster.bars.length + s.roster.quarantine.length ≤ 192
    ∧ (s.roster.quarantine.map (·.serial)).Nodup
    ∧ (after .barRebroadcast s).roster.bars = [{ serial := 0xA9, reason := .stray, time := 1 }]
    ∧ s.roster.quarantine.map (·.origin) = [s.station]
    ∧ s.roster.claims.map (fun c => decide ((s.clock.round - c.lastHeard).toNat < 720000)) = [false, true]
    ∧ (put s 4 (home .active 0xA1)).holder 0xA1 = some 4 := by decide +kernel

/-- The invariants are met away from reset too: CONFIG FAULT with time UNSET. -/
theorem test_meets_RangesKept :
    (after (.configReadAttempt none) timedInLoading).clock.phase = .configFault
    ∧ (after (.configReadAttempt none) timedInLoading).clock.state = .unset := by decide +kernel

/-! ### The spec's worked figures -/

/-- Chapter 7, worked rating: class 1, band 1, at an interval close and at a final close. -/
def ratedTally : Tally :=
  { Tally.zero with
    counts := { upAssured := 4000000, upSurplus := 2500000, down := 10000000, dropped := 3100 }
    carries := { assured := 900000, surplus := 0, down := 524288 } }

theorem test_worked_rating :
    rateTally { assured := 30, surplus := 12, down := 8 } false ratedTally
      = { units := 219, carries := { assured := 313760, surplus := 639872, down := 832512 }, clamped := false }
    ∧ (rateTally { assured := 30, surplus := 12, down := 8 } true ratedTally).units = 222
    ∧ (rateTally { assured := 30, surplus := 12, down := 8 } true ratedTally).carries = .zero := by decide +kernel

/-- Chapter 6, worked baseline figures: T 150 and D 40. -/
theorem test_worked_baseline :
    [(3200, 215), (3215, 380), (3215, 150), (3015, 190), (3017, 250)].map (fun c => judgeSample 150 40 c.1 c.2)
      = [(3215, false), (3215, true), (3015, false), (3017, false), (3017, false)] := by decide +kernel

/-- Chapter 1, worked figures, and chapter 3, echo example. -/
theorem test_worked_distances :
    rollRtd 7012 20 0 = 8000 ∧ holdoffOf 4000 = 61536
    ∧ refinedRtd { round := 998, start := 1776, serial := 7, ticks := 5878, phase := 15 } 57531 1776 = 8020
    ∧ ({ EchoRecord.absent with homeHoldoff := some 57531 }.needsHoldoff (holdoffOf 8020)).holdoffWaiting = some 57516
    ∧ ({ EchoRecord.absent with homeHoldoff := some 57531 }.needsHoldoff (holdoffOf 8010)).holdoffWaiting = none := by
  decide +kernel

/-- Chapter 11, worked sequence: the medians of its six second ticks. -/
theorem test_worked_medians :
    [[0, 3, -1, 1], [0, 6, 4, 5], [0, 4, 2, 3], [0, 2, 0, 1], [0, 800, 810, 805], [0, 0, 10, 5]].map median
      = [0, 4, 2, 0, 800, 0] := by decide +kernel

/-- Chapter 4, the two worked rounds: payload ticks and assured ticks in rotation order. -/
def shares (q0 : Nat) (bs : List (SlotId × Nat × Nat)) : List (Nat × Nat × Nat) :=
  (shareTicks q0 (bs.map fun b => { slot := b.1, want := b.2.1, rate := b.2.2, assured := 0, surplus := 0 })).map
    fun b => (b.slot.val, b.assured, b.surplus)

theorem test_worked_shares :
    shares 1776 [(7, 800, 200), (12, 0, 100), (20, 1024, 50), (3, 380, 100)]
      = [(7, 200, 458), (12, 0, 0), (20, 50, 743), (3, 100, 213)]
    ∧ shares 348 [(7, 800, 200), (12, 0, 100), (20, 1024, 50), (30, 40, 40), (3, 380, 100)]
      = [(7, 171, 0), (12, 0, 0), (20, 43, 0), (30, 34, 0), (3, 85, 0)] := by decide +kernel

/-- Chapter 1, order selection example: the kinds and targets of the order slots of rounds 40 and 41. -/
def waitingOrder (b : OrderBody) (i : SlotId) (bound : Option Binding) : OrderEntry :=
  { body := b, target := some (i, 3), seq := 57, tries := 0, lastSent := none, bound := bound, waiting := false }
def ordered : State :=
  (([2, 4, 9, 17, 30] : List SlotId).foldl (fun s i => put s i (home .active 7)) lit).modTree fun t =>
    { t with
      urgent := [waitingOrder .hush 9 none, waitingOrder .echo 4 (some { round := 40, position := 2032 })]
      normal := [waitingOrder (.holdoff 5) 2 none, waitingOrder .release 17 none] }

theorem test_worked_order_selection :
    let a := ordered.selectOrders 40
    let b := (a.1.modTree fun t => { t with urgent := t.urgent ++ [waitingOrder (.wake .watch) 30 none] }).selectOrders 41
    a.2.map (fun o => (o.kind, o.target)) = [(3, 4), (5, 9), (4, 2), (8, 17)]
    ∧ b.2.map (fun o => (o.kind, o.target)) = [(5, 9), (6, 30), (8, 17), (0, 0)] := by decide +kernel

theorem test_meets_OrdersOfferedAndSent : OrderBody.echo.needsSpan = true ∧ OrderBody.hush.needsSpan = false
    ∧ OrderBody.release.needsSpan = false ∧ State.reset.tree.state = .off ∧ ordered.tree.state = .lit
    ∧ (port ordered .dark).tree.state = .dark ∧ ordered.tree.urgent.length < 8 ∧ ordered.tree.normal.length < 24
    ∧ (urgentOf (List.replicate 8 severWaiting) lit).tree.urgent.length = 8
    ∧ (∃ e ∈ ordered.tree.normal, e.isFor 2 = true) ∧ (∀ e ∈ ordered.tree.normal, e.isFor 3 = false)
    ∧ severWaiting.tries < 2 ∧ 2 ≤ { severWaiting with tries := 2 }.tries := by decide +kernel

end Sys2Proof.Tests
end

section
/-! PROOFS. ROLL_NOW and UNPROVISION (R43, R48): what taking a dispatched command and answering it do to the link, then
each command by the cases of its rule. -/

namespace Sys2Proof.Machine

/-! ### Taking a dispatched command (R162) -/

/-- The first element that meets a test is also the first one equal to itself, so both ways of removing it agree. -/
theorem eraseP_eq_erase_of_find? {α : Type} [BEq α] [LawfulBEq α] {p : α → Bool} {a : α} {l : List α}
    (h : l.find? p = some a) : l.eraseP p = l.erase a := by
  induction l with
  | nil => rfl
  | cons b l ih =>
    cases hb : p b with
    | true =>
      obtain rfl : b = a := by simpa [hb] using h
      simp [hb]
    | false =>
      have hba : b ≠ a := by
        rintro rfl
        exact absurd (List.find?_some h) (by simp [hb])
      simp [hb, hba, ih (by simpa [hb] using h)]

theorem takeCommand_of_dispatched {s : State} {code : Byte} {c : RxCommand} (h : s.Dispatched code c) :
    s.takeCommand code = some (c, s.modLink (·.without c)) := by
  have hfind : s.link.dispatched.find? (·.code == code) = some c := h
  simp [State.takeCommand, State.modLink, Link.without, hfind, eraseP_eq_erase_of_find? hfind]

/-! ### Answering a command (R159, R160, R162) -/

theorem sendReply_of_room {l : Link} (c : RxCommand) (rc : ReplyCode) (results : List Byte)
    (h : l.queue.length < Config.queueFrames) :
    l.sendReply (c.replyWith rc results) = { l with
      queue := l.queue ++ [{ message := c.replyWith rc results, attempts := 0, age := l.nextAge }]
      nextAge := l.nextAge + 1, inFlight := l.inFlight - 1 } := by
  simp [Link.sendReply, Link.offer, RxCommand.replyWith, Message.isUsage, Nat.not_le.mpr h]

theorem sendReply_of_full {l : Link} (c : RxCommand) (rc : ReplyCode) (results : List Byte)
    (h : Config.queueFrames ≤ l.queue.length) :
    l.sendReply (c.replyWith rc results) = { l with backReplies := l.backReplies ++ [c.replyWith rc results] } := by
  simp [Link.sendReply, Link.offer, h]

theorem answer_link (s : State) (c : RxCommand) (rc : ReplyCode) (results : List Byte) :
    (s.answer c rc results).link =
      Link.sendReply { s.link with lastCommand := s.link.lastCommand.map (.store c rc results) }
        (c.replyWith rc results) := rfl

theorem answer_answered (s : State) (c : RxCommand) (rc : ReplyCode) (results : List Byte) :
    s.link.Answered (s.answer c rc results).link c rc results := by
  rw [answer_link]
  rcases Nat.lt_or_ge s.link.queue.length Config.queueFrames with hroom | hfull
  · rw [sendReply_of_room c rc results (by simpa using hroom)]
    exact {
      taken := fun _ => ⟨rfl, rfl, rfl, rfl⟩
      backlogged := fun hfull => absurd hroom (Nat.not_lt.mpr hfull)
      stored := rfl
      kept := by simp }
  · rw [sendReply_of_full c rc results (by simpa using hfull)]
    exact {
      taken := fun hroom => absurd hroom (Nat.not_lt.mpr hfull)
      backlogged := fun _ => ⟨rfl, rfl, rfl, rfl⟩
      stored := rfl
      kept := by simp }

/-- The link `l` before the reply is given apart from the state, as `s.link.without c` where a command has just been
taken. -/
theorem answerCode_answered {s : State} {l : Link} (h : s.link = l) (c : RxCommand) (rc : ReplyCode) :
    l.Answered (s.answerCode c rc).link c rc [] := h ▸ answer_answered s c rc []

/-! ### ROLL_NOW (R48) -/

section RollNow

variable {s : State} {c : RxCommand} (hd : s.Dispatched 8 c)
include hd

theorem execRollNow_notNow (hmay : ¬ (s.tree.state = .lit ∧ (s.watch.state = .clear ∨ s.watch.state = .alert))) :
    execRollNow s = .next ((s.modLink (·.without c)).answerCode c .notNow) := by
  rw [execRollNow, takeCommand_of_dispatched hd]
  exact if_neg hmay

theorem execRollNow_running (hmay : s.tree.state = .lit ∧ (s.watch.state = .clear ∨ s.watch.state = .alert))
    (hphase : s.enrol.roll.phase ≠ .idle) :
    execRollNow s = .next ((s.modLink (·.without c)).answerCode c .done) := by
  rw [execRollNow, takeCommand_of_dispatched hd]
  exact (if_pos hmay).trans (if_neg hphase)

theorem execRollNow_begun (hmay : s.tree.state = .lit ∧ (s.watch.state = .clear ∨ s.watch.state = .alert))
    (hphase : s.enrol.roll.phase = .idle) :
    execRollNow s = .next ((((s.modLink (·.without c)).modRoll fun r =>
      { r with followUps := if s.enrol.roll.cause = some .followUp then r.followUps else 0 }).beginRoll
        .command).answerCode c .done) := by
  rw [execRollNow, takeCommand_of_dispatched hd]
  exact (if_pos hmay).trans (if_pos hphase)

end RollNow

/-- Settles O20, by the three answers of ROLL_NOW. -/
theorem rollNowAnswered : Obligations.RollNowAnswered := by
  intro s c hd may
  by_cases hmay : may
  · by_cases hphase : s.enrol.roll.phase = .idle
    · exact ⟨_, execRollNow_begun hd hmay hphase, rfl, fun h => absurd hmay h,
        fun _ => answerCode_answered (by rfl) c .done, fun _ h => absurd hphase h, fun _ _ => rfl⟩
    · exact ⟨_, execRollNow_running hd hmay hphase, rfl, fun h => absurd hmay h,
        fun _ => answerCode_answered (by rfl) c .done, fun _ _ => rfl, fun _ h => absurd h hphase⟩
  · exact ⟨_, execRollNow_notNow hd hmay, rfl, fun _ => ⟨rfl, answerCode_answered (by rfl) c .notNow⟩,
      fun h => absurd h hmay, fun h => absurd h hmay, fun h => absurd h hmay⟩

/-! ### Which slot holds a serial (R23) -/

theorem holder_eq_none_iff (s : State) (x : Serial) :
    s.holder x = none ↔ ∀ i, (s.slot i).state ≠ .free → (s.slot i).serial ≠ some x := by
  simp [State.holder, allSlots, SlotRecord.holds]

theorem holder_isSome_iff (s : State) (x : Serial) :
    (s.holder x).isSome = true ↔ ∃ i, (s.slot i).state ≠ .free ∧ (s.slot i).serial = some x := by
  simp [State.holder, allSlots, SlotRecord.holds]

/-! ### What a change of the link leaves to be looked up -/

@[simp] theorem holder_modLink (s : State) (f : Link → Link) (x : Serial) : (s.modLink f).holder x = s.holder x := rfl

@[simp] theorem entryOf_modLink (s : State) (f : Link → Link) (x : Serial) :
    (s.modLink f).entryOf x = s.entryOf x := rfl

/-! ### A serial without a provision entry (R43, R52) -/

theorem entryOf_eq_none_iff (s : State) (x : Serial) :
    s.entryOf x = none ↔ ∀ k ∈ s.enrol.provision, k.serial ≠ x := by
  simp [State.entryOf]

theorem entryOfTag_eq_none_iff (s : State) (tag : Half) :
    s.entryOfTag tag = none ↔ ∀ k ∈ s.enrol.provision, k.tag ≠ tag := by
  simp [State.entryOfTag]

/-- Check 5 of R52. -/
theorem candidate_of_unprovisioned {s : State} {x : Serial} (rtd : Int) (hholder : s.holder x = none)
    (hquarantined : s.quarantined x = false) (hentry : s.entryOf x = none) :
    s.candidate x rtd = s.stranger x .unprovisioned := by
  simp [State.candidate, hholder, hquarantined, hentry]

/-! ### UNPROVISION (R43) -/

/-- The entry of a serial removed from the provision list (R43). -/
def State.dropEntry (s : State) (x : Serial) : State :=
  s.modEnrol fun k => { k with provision := k.provision.filter (·.serial != x) }

theorem dropEntry_provision (s : State) (x : Serial) :
    (s.dropEntry x).enrol.provision = s.enrol.provision.filter fun k => k.serial ≠ x :=
  List.filter_congr fun k _ => Bool.eq_iff_iff.mpr (by simp)

theorem entryOf_dropEntry_self (s : State) (x : Serial) : (s.dropEntry x).entryOf x = none := by
  simp [entryOf_eq_none_iff, dropEntry_provision]

theorem entryOfTag_dropEntry {s : State} {x : Serial} {tag : Half}
    (htag : ∀ k ∈ s.enrol.provision, k.tag = tag → k.serial = x) : (s.dropEntry x).entryOfTag tag = none := by
  rw [entryOfTag_eq_none_iff, dropEntry_provision]
  intro k hk hkt
  obtain ⟨hmem, hne⟩ := List.mem_filter.mp hk
  exact of_decide_eq_true hne (htag k hmem hkt)

section Unprovision

variable {s : State} {c : RxCommand} (hd : s.Dispatched 2 c)
include hd

theorem execUnprovision_notFound (hentry : s.entryOf c.serial = none) :
    execUnprovision s = .next ((s.modLink (·.without c)).answerCode c .notFound) := by
  rw [execUnprovision, takeCommand_of_dispatched hd]
  simp [hentry]

theorem execUnprovision_inUse {e : ProvisionEntry} (hentry : s.entryOf c.serial = some e)
    (hholder : (s.holder c.serial).isSome = true) :
    execUnprovision s = .next ((s.modLink (·.without c)).answerCode c .inUse) := by
  rw [execUnprovision, takeCommand_of_dispatched hd]
  simp [hentry, hholder]

theorem execUnprovision_removed {e : ProvisionEntry} (hentry : s.entryOf c.serial = some e)
    (hholder : s.holder c.serial = none) :
    execUnprovision s = .next (((s.modLink (·.without c)).dropEntry c.serial).answerCode c .done) := by
  rw [execUnprovision, takeCommand_of_dispatched hd]
  simp [hentry, hholder, State.dropEntry]

end Unprovision

/-- Settles O33, by the three answers of UNPROVISION. -/
theorem unprovisionAnswered : Obligations.UnprovisionAnswered := by
  intro s c hd x
  cases hentry : s.entryOf x with
  | none =>
    exact ⟨_, execUnprovision_notFound hd hentry, rfl, fun _ => ⟨rfl, answerCode_answered (by rfl) c .notFound⟩,
      fun _ h => (nomatch h), fun _ h => (nomatch h)⟩
  | some e =>
    by_cases hheld : ∃ i, (s.slot i).state ≠ .free ∧ (s.slot i).serial = some x
    · obtain ⟨i, hstate, hserial⟩ := hheld
      exact ⟨_, execUnprovision_inUse hd hentry ((holder_isSome_iff s x).mpr ⟨i, hstate, hserial⟩), rfl,
        fun h => (nomatch h), fun _ _ _ => ⟨rfl, answerCode_answered (by rfl) c .inUse⟩,
        fun _ _ hfree => absurd hserial (hfree i hstate)⟩
    · have hholder : s.holder x = none := (holder_eq_none_iff s x).mpr fun i hstate hserial =>
        hheld ⟨i, hstate, hserial⟩
      exact ⟨_, execUnprovision_removed hd hentry hholder, rfl, fun h => (nomatch h),
        fun _ _ h => absurd h hheld, fun _ _ _ => ⟨dropEntry_provision _ x, answerCode_answered (by rfl) c .done,
          fun _ htag => entryOfTag_dropEntry htag,
          fun rtd hq => candidate_of_unprovisioned rtd hholder hq (entryOf_dropEntry_self _ x)⟩⟩

end Sys2Proof.Machine
end

section
/-! PROOFS. CLEAR_FLAGS (R165): what the clearing does to each flag, what the reply leaves of them, then the command. -/

namespace Sys2Proof.Machine

/-! ### The event flags (R164, R165) -/

/-- The selected flags cleared, and nothing else of the link changed (R165). -/
def Link.clearFlags (l : Link) (selection : Nat) : Link :=
  { l with flags := l.flags &&& ~~~ BitVec.ofNat 14 selection }

/-- A bit of the selection that names no flag is never read, so this holds of every selection. -/
theorem getLsbD_clearFlags (l : Link) (selection : Nat) {k : Nat} (hk : k < 14) :
    (l.clearFlags selection).flags.getLsbD k = (l.flags.getLsbD k && !selection.testBit k) := by
  simp only [Link.clearFlags, BitVec.getLsbD_and, BitVec.getLsbD_not, BitVec.getLsbD_ofNat, hk, decide_true,
    Bool.true_and]

theorem answer_flags (s : State) (c : RxCommand) (rc : ReplyCode) (results : List Byte) :
    (s.answer c rc results).link.flags = s.link.flags := by
  obtain ⟨-, -, -, -, -, -, -, -, -, -, hflags, -⟩ := (answer_answered s c rc results).kept
  exact hflags

/-! ### CLEAR_FLAGS (R165) -/

/-- The state in which CLEAR_FLAGS is answered: the command taken, and the flags it selects cleared. -/
def State.flagsCleared (s : State) (c : RxCommand) : State :=
  s.modLink fun l => (l.without c).clearFlags (fieldNat c.args 0 2)

theorem execClearFlags_cleared {s : State} {c : RxCommand} (hd : s.Dispatched 10 c) :
    execClearFlags s = .next ((s.flagsCleared c).answer c .done (be 2 (s.flagsCleared c).link.flags.toNat)) := by
  rw [execClearFlags, takeCommand_of_dispatched hd]
  rfl

/-- Settles O46: the reply is given in the state with the flags cleared, and leaves them as they stand there. -/
theorem flagsCleared : Obligations.FlagsCleared := by
  intro s c hd selection _
  refine ⟨_, execClearFlags_cleared hd, rfl, ?_, ?_⟩ <;> rw [answer_flags]
  · exact fun _ hk => getLsbD_clearFlags (s.link.without c) selection hk
  · exact answer_answered (s.flagsCleared c) c .done _

end Sys2Proof.Machine
end

section
/-! PROOFS. What every operation keeps, first part: the invariants of Safety.lean gathered in one relation between two states,
`Keeps`, which is carried along a chain of operations; what a write to one block owes it; and what the shared
operations of the tree port, the link, the metering engine and the home table owe it. -/

namespace Sys2Proof.Machine

-- One thread elaborates this section: the text as a whole is near the memory limit of the check.
set_option Elab.async false

/-! ### The journal's invariant, block by block (R137, R138) -/

/-- The part of `State.JournalOrdered` that speaks of the journal alone. -/
structure Journal.Ordered (j : Journal) : Prop where
  held : j.held = j.records.length
  capacity : j.held ≤ Config.journalEntries
  sent : j.sent ≤ j.held
  numbered : ∀ k, (h : k < j.records.length) → j.records[k].seq = j.oldest + BitVec.ofNat 32 k

/-- A record whose number is that of an UNSENT entry (R138). -/
def Journal.IsUnsent (j : Journal) (r : UsageRecord) : Prop :=
  j.sent ≤ (r.seq - j.oldest).toNat ∧ (r.seq - j.oldest).toNat < j.held

/-- At most one USAGE frame, which bears a record of `Q`, in the transmit queue, and none in the backlog. -/
structure Link.Carries (Q : UsageRecord → Prop) (l : Link) : Prop where
  oneUsage : l.queue.countP (·.message.isUsage) ≤ 1
  inQueue : ∀ e ∈ l.queue, ∀ r, e.message = .usage r → Q r
  backlog : ∀ m ∈ l.backAlerts ++ l.backReplies, m.isUsage = false

theorem journalOrdered_iff (s : State) :
    s.JournalOrdered ↔ s.journal.Ordered ∧ s.link.Carries s.journal.IsUnsent :=
  ⟨fun h => ⟨⟨h.held, h.capacity, h.sent, h.numbered⟩, h.oneUsage, h.inQueue, h.backlog⟩,
    fun ⟨hj, hl⟩ => ⟨hj.held, hj.capacity, hj.sent, hj.numbered, hl.oneUsage, hl.inQueue, hl.backlog⟩⟩

/-! ### One relation for all invariants -/

/-- Of two states, the second meets every invariant of Safety.lean that the first meets. -/
structure Keeps (s t : State) : Prop where
  lanes : s.LanesFit → t.LanesFit
  link : s.LinkFits → t.LinkFits
  meter : s.MeterCounted → t.MeterCounted
  journal : s.JournalOrdered → t.JournalOrdered
  pool : s.PoolConserved → t.PoolConserved
  serials : s.SerialHeldOnce → t.SerialHeldOnce
  config : s.ConfigInRange → t.ConfigInRange
  watch : s.WatchBounded → t.WatchBounded
  silent : s.SilentBounded → t.SilentBounded
  fault : s.FaultTimeUnset → t.FaultTimeUnset

namespace Keeps

theorem refl (s : State) : Keeps s s := ⟨id, id, id, id, id, id, id, id, id, id⟩

theorem trans {s t u : State} (h : Keeps s t) (k : Keeps t u) : Keeps s u where
  lanes := k.lanes ∘ h.lanes
  link := k.link ∘ h.link
  meter := k.meter ∘ h.meter
  journal := k.journal ∘ h.journal
  pool := k.pool ∘ h.pool
  serials := k.serials ∘ h.serials
  config := k.config ∘ h.config
  watch := k.watch ∘ h.watch
  silent := k.silent ∘ h.silent
  fault := k.fault ∘ h.fault

/-- Each invariant speaks of the blocks named here alone. -/
theorem of_blocks {s t : State}
    (lanes : s.LanesFit → t.LanesFit) (link : s.LinkFits → t.LinkFits) (meter : s.MeterCounted → t.MeterCounted)
    (journal : s.journal.Ordered → s.link.Carries s.journal.IsUnsent →
      t.journal.Ordered ∧ t.link.Carries t.journal.IsUnsent)
    (pool : s.PoolConserved → t.PoolConserved) (serials : s.SerialHeldOnce → t.SerialHeldOnce)
    (config : s.ConfigInRange → t.ConfigInRange) (watch : s.WatchBounded → t.WatchBounded)
    (silent : s.SilentBounded → t.SilentBounded) (fault : s.FaultTimeUnset → t.FaultTimeUnset) : Keeps s t :=
  { lanes, link, meter, pool, serials, config, watch, silent, fault
    journal := fun h => by
      rw [journalOrdered_iff] at h ⊢
      exact journal h.1 h.2 }

section Blocks

variable {s t : State} (h : Keeps s t)
include h

/-- A change of other blocks keeps every invariant. -/
theorem same {u : State} (e : u.tree = t.tree ∧ u.home = t.home ∧ u.down = t.down ∧ u.watch = t.watch
    ∧ u.meter = t.meter ∧ u.journal = t.journal ∧ u.link = t.link ∧ u.clock = t.clock ∧ u.config = t.config) :
    Keeps s u := by
  obtain ⟨tree, home, enrol, sched, down, watch, meter, journal, link, roster, clock, config, pending⟩ := u
  obtain ⟨rfl, rfl, rfl, rfl, rfl, rfl, rfl, rfl, rfl⟩ := e
  refine h.trans (of_blocks id id id (fun hj hl => ⟨hj, hl⟩) id id id (fun k => ?_) id id)
  exact ⟨k.baseline, k.samples, k.history, k.strikes⟩

/-- A change of the downstream engine, the metering engine and blocks no invariant speaks of. -/
theorem sameButQueues {u : State} (e : u.tree = t.tree ∧ u.home = t.home ∧ u.watch = t.watch ∧ u.journal = t.journal
    ∧ u.link = t.link ∧ u.clock = t.clock ∧ u.config = t.config) (hp : t.PoolConserved → u.PoolConserved)
    (hm : t.MeterCounted → u.MeterCounted) : Keeps s u := by
  obtain ⟨tree, home, enrol, sched, down, watch, meter, journal, link, roster, clock, config, pending⟩ := u
  obtain ⟨rfl, rfl, rfl, rfl, rfl, rfl, rfl⟩ := e
  exact h.trans (of_blocks id id hm (fun hj hl => ⟨hj, hl⟩) hp id id
    (fun k => ⟨k.baseline, k.samples, k.history, k.strikes⟩) id id)

theorem modEnrol (f : Enrolment → Enrolment) : Keeps s (t.modEnrol f) := h.same (by simp)
theorem modSched (f : Scheduler → Scheduler) : Keeps s (t.modSched f) := h.same (by simp)
theorem modRoster (f : Roster → Roster) : Keeps s (t.modRoster f) := h.same (by simp)
theorem modRoll (f : RollCall → RollCall) : Keeps s (t.modRoll f) := h.same (by simp)
theorem modEcho (i : SlotId) (f : EchoRecord → EchoRecord) : Keeps s (t.modEcho i f) := h.same (by simp)
theorem modDemand (i : SlotId) (f : Demand → Demand) : Keeps s (t.modDemand i f) := h.same (by simp)
theorem setClaimDue (i : SlotId) (g : Option Gen) : Keeps s (t.setClaimDue i g) := h.same (by simp)

theorem modTree {f : TreePort → TreePort} (hf : t.LanesFit → (t.modTree f).LanesFit) : Keeps s (t.modTree f) :=
  h.trans (of_blocks hf id id (fun hj hl => ⟨hj, hl⟩) id id id (fun k => ⟨k.baseline, k.samples, k.history, k.strikes⟩)
    id id)

/-- A write to the downstream engine keeps the pool if it keeps the packets held, the round's blocks and the free count. -/
theorem modDown {f : Downstream → Downstream} (hf : t.PoolConserved → (t.modDown f).PoolConserved) :
    Keeps s (t.modDown f) :=
  h.trans (of_blocks id id id (fun hj hl => ⟨hj, hl⟩) hf id id (fun k => ⟨k.baseline, k.samples, k.history, k.strikes⟩)
    id id)

theorem modWatch {f : Watch → Watch} (hf : t.WatchBounded → (t.modWatch f).WatchBounded) : Keeps s (t.modWatch f) :=
  h.trans (of_blocks id id id (fun hj hl => ⟨hj, hl⟩) id id id hf id id)

theorem modMeter {f : Meter → Meter} (hf : t.MeterCounted → (t.modMeter f).MeterCounted) : Keeps s (t.modMeter f) :=
  h.trans (of_blocks id id hf (fun hj hl => ⟨hj, hl⟩) id id id (fun k => ⟨k.baseline, k.samples, k.history, k.strikes⟩)
    id id)

/-- A write to the journal keeps its order if an UNSENT number that a USAGE frame bears stays one. -/
theorem modJournal {f : Journal → Journal} (hf : t.journal.Ordered → (f t.journal).Ordered)
    (hu : ∀ r, t.journal.IsUnsent r → (f t.journal).IsUnsent r) : Keeps s (t.modJournal f) :=
  h.trans (of_blocks id id id (fun hj hl => ⟨hf hj, hl.oneUsage, fun e he r hr => hu r (hl.inQueue e he r hr), hl.backlog⟩)
    id id id (fun k => ⟨k.baseline, k.samples, k.history, k.strikes⟩) id id)

theorem modClock {f : Clock → Clock}
    (hc : t.ConfigInRange → (t.modClock f).ConfigInRange) (hf : t.FaultTimeUnset → (t.modClock f).FaultTimeUnset) :
    Keeps s (t.modClock f) :=
  h.trans (of_blocks id id id (fun hj hl => ⟨hj, hl⟩) id id hc (fun k => ⟨k.baseline, k.samples, k.history, k.strikes⟩)
    id hf)

theorem modOwed (i : SlotId) (f : Owed → Owed) : Keeps s (t.modOwed i f) :=
  h.trans (of_blocks id id id (fun hj hl => ⟨hj, hl⟩) id id id (fun k => ⟨k.baseline, k.samples, k.history, k.strikes⟩)
    id id)

/-- A slot record may be rewritten at will as long as it comes to hold no serial and its silent count stays in range. -/
theorem modSlot {i : SlotId} {f : SlotRecord → SlotRecord}
    (hf : ∀ x, (f (t.slot i)).holds x = true → (t.slot i).holds x = true)
    (hk : (t.slot i).silent ≤ 4 → (f (t.slot i)).silent ≤ 4) : Keeps s (t.modSlot i f) := by
  have hholds : ∀ j x, ((t.modSlot i f).slot j).holds x = true → (t.slot j).holds x = true := by
    intro j x
    rw [State.modSlot_slot]
    split
    · next hj => exact hj ▸ hf x
    · exact id
  have hsilent : t.SilentBounded → (t.modSlot i f).SilentBounded := by
    intro k j
    rw [State.modSlot_slot]
    split
    · next hj => exact hj ▸ hk (k i)
    · exact k j
  exact h.trans (of_blocks id id id (fun hj hl => ⟨hj, hl⟩) id
    (fun k a b x ha hb => k a b x (hholds a x ha) (hholds b x hb)) id
    (fun k => ⟨k.baseline, k.samples, k.history, k.strikes⟩) hsilent id)

/-- A fold of operations that each keep the invariants. -/
theorem foldl {α : Type} {f : State → α → State} (hf : ∀ u a, Keeps u (f u a)) (l : List α) : Keeps s (l.foldl f t) := by
  induction l generalizing t with
  | nil => exact h
  | cons a l ih => exact ih (h.trans (hf t a))

theorem forSlots {p : SlotId → Bool} {f : State → SlotId → State} (hf : ∀ u i, Keeps u (f u i)) :
    Keeps s (t.forSlots p f) := h.foldl hf _

end Blocks

end Keeps

end Sys2Proof.Machine
end

section
/-! PROOFS. What every operation keeps, second part: the transmit queue and the backlog, the order lanes, the meter queue. -/

namespace Sys2Proof.Machine

-- One thread elaborates this section: the text as a whole is near the memory limit of the check.
set_option Elab.async false

/-! ### The transmit queue and the backlog (R154, R159) -/

/-- The queue and the ALERT backlog within their room, with at most one USAGE frame held (R154, R159). -/
structure Link.Fits (l : Link) : Prop where
  queue : l.queue.length ≤ Config.queueFrames
  oneUsage : l.queue.countP (·.message.isUsage) ≤ 1
  alerts : l.backAlerts.length ≤ Config.queueFrames

/-- What a change of the link that offers no USAGE frame keeps. -/
structure Link.Keeps (l l' : Link) : Prop where
  fits : l.Fits → l'.Fits
  carries : ∀ Q, l.Carries Q → l'.Carries Q

namespace Link.Keeps

theorem refl (l : Link) : l.Keeps l := ⟨id, fun _ => id⟩

theorem trans {l m n : Link} (h : l.Keeps m) (k : m.Keeps n) : l.Keeps n :=
  ⟨k.fits ∘ h.fits, fun Q => k.carries Q ∘ h.carries Q⟩

/-- A change that writes neither the queue nor the backlog. -/
theorem same {l l' : Link} (hq : l'.queue = l.queue) (ha : l'.backAlerts = l.backAlerts)
    (hr : l'.backReplies = l.backReplies) : l.Keeps l' where
  fits := fun h => ⟨hq ▸ h.queue, hq ▸ h.oneUsage, ha ▸ h.alerts⟩
  carries := fun _ h => ⟨hq ▸ h.oneUsage, hq ▸ h.inQueue, by rw [ha, hr]; exact h.backlog⟩

end Link.Keeps

/-- An offer, whatever the frame, keeps the queue within its room. -/
theorem Link.offer_fits (l : Link) (m : Message) : l.Fits → (l.offer m).1.Fits := by
  intro h
  unfold Link.offer
  split
  · exact h
  · next hroom =>
    obtain ⟨hlen, husage⟩ : l.queue.length < Config.queueFrames ∧ (m.isUsage = true → ∀ e ∈ l.queue, e.message.isUsage = false) := by
      simpa using hroom
    refine ⟨by simpa using hlen, ?_, h.alerts⟩
    cases hm : m.isUsage with
    | false => simpa [List.countP_append, hm] using h.oneUsage
    | true =>
      have : l.queue.countP (·.message.isUsage) = 0 := by simpa [List.countP_eq_zero] using husage hm
      simp [List.countP_append, hm, this]

/-- An offer of another frame than USAGE. -/
theorem Link.offer_carries {l : Link} {m : Message} (hm : m.isUsage = false) (Q : UsageRecord → Prop) :
    l.Carries Q → (l.offer m).1.Carries Q := by
  intro h
  unfold Link.offer
  split
  · exact h
  · refine ⟨by simpa [List.countP_append, hm] using h.oneUsage, fun e he r hr => ?_, h.backlog⟩
    rcases List.mem_append.mp he with he | he
    · exact h.inQueue e he r hr
    · obtain rfl := List.mem_singleton.mp he
      simp only at hr
      simp [hr, Message.isUsage] at hm

theorem Link.offer_keeps {l : Link} {m : Message} (hm : m.isUsage = false) : l.Keeps (l.offer m).1 :=
  ⟨l.offer_fits m, fun Q => Link.offer_carries hm Q⟩

theorem Link.backlogAlert_keeps {l : Link} {m : Message} (hm : m.isUsage = false) : l.Keeps (l.backlogAlert m) where
  fits := fun h => ⟨h.queue, h.oneUsage, by
    have := h.alerts
    simp only [Link.backlogAlert, Config.queueFrames] at this ⊢
    by_cases hfull : 16 ≤ l.backAlerts.length <;> simp [hfull] <;> omega⟩
  carries := fun Q h => ⟨h.oneUsage, h.inQueue, fun k hk => by
    have hmem : k ∈ l.backAlerts ++ l.backReplies ∨ k = m := by
      unfold Link.backlogAlert at hk
      split at hk <;> simp only [List.mem_append, List.mem_singleton] at hk ⊢
      · rcases hk with (hk | hk) | hk
        · exact .inl (.inl (List.mem_of_mem_drop hk))
        · exact .inr hk
        · exact .inl (.inr hk)
      · tauto
    rcases hmem with hk | rfl
    · exact h.backlog k hk
    · exact hm⟩

theorem Link.sendAlert_keeps {l : Link} {m : Message} (hm : m.isUsage = false) : l.Keeps (l.sendAlert m) := by
  unfold Link.sendAlert
  split
  · next l' h => simpa [h] using Link.offer_keeps (l := l) hm
  · exact Link.backlogAlert_keeps hm

theorem Link.sendReply_keeps {l : Link} {m : Message} (hm : m.isUsage = false) : l.Keeps (l.sendReply m) := by
  unfold Link.sendReply
  split
  · next l' h =>
    have hk : l.Keeps l' := by simpa [h] using Link.offer_keeps (l := l) hm
    exact hk.trans (.same rfl rfl rfl)
  · refine ⟨fun h => ⟨h.queue, h.oneUsage, h.alerts⟩, fun Q h => ⟨h.oneUsage, h.inQueue, fun k hk => ?_⟩⟩
    have hmem : k ∈ l.backAlerts ++ l.backReplies ∨ k = m := by simpa [or_assoc] using hk
    rcases hmem with hk | rfl
    · exact h.backlog k hk
    · exact hm

/-- An accepted offer leaves the backlog as it was. -/
theorem Link.offer_backlog (l : Link) (m : Message) :
    (l.offer m).1.backAlerts = l.backAlerts ∧ (l.offer m).1.backReplies = l.backReplies := by
  unfold Link.offer
  split <;> simp

/-- A backlog list rewritten to hold nothing it did not hold. -/
theorem Link.Carries.shrink {l l' : Link} {Q : UsageRecord → Prop} (h : l.Carries Q) (hq : l'.queue = l.queue)
    (hb : ∀ m ∈ l'.backAlerts ++ l'.backReplies, m.isUsage = false) : l'.Carries Q :=
  ⟨hq ▸ h.oneUsage, hq ▸ h.inQueue, hb⟩

theorem Link.drainAlerts_fits (ms : List Message) (l : Link) (hms : ms.length ≤ Config.queueFrames) :
    l.Fits → (Link.drainAlerts ms l).Fits := by
  induction ms generalizing l with
  | nil => exact fun h => ⟨h.queue, h.oneUsage, Nat.zero_le _⟩
  | cons m ms ih =>
    intro h
    unfold Link.drainAlerts
    split
    · next l' ho =>
      refine ih l' (by simp at hms; omega) ?_
      simpa [ho] using l.offer_fits m h
    · exact ⟨h.queue, h.oneUsage, hms⟩

theorem Link.drainAlerts_carries (ms : List Message) (l : Link) (hms : ∀ m ∈ ms, m.isUsage = false)
    (Q : UsageRecord → Prop) : l.Carries Q → (Link.drainAlerts ms l).Carries Q := by
  induction ms generalizing l with
  | nil => exact fun h => h.shrink rfl fun m hm => h.backlog m (List.mem_append_right _ hm)
  | cons m ms ih =>
    intro h
    unfold Link.drainAlerts
    split
    · next l' ho =>
      refine ih l' (fun k hk => hms k (List.mem_cons_of_mem _ hk)) ?_
      simpa [ho] using Link.offer_carries (l := l) (hms m (List.mem_cons_self ..)) Q h
    · refine h.shrink rfl fun k hk => ?_
      rcases List.mem_append.mp hk with hk | hk
      · exact hms k hk
      · exact h.backlog k (List.mem_append_right _ hk)

theorem Link.drainReplies_fits (ms : List Message) (l : Link) : l.Fits → (Link.drainReplies ms l).Fits := by
  induction ms generalizing l with
  | nil => exact fun h => ⟨h.queue, h.oneUsage, h.alerts⟩
  | cons m ms ih =>
    intro h
    unfold Link.drainReplies
    split
    · next l' ho =>
      have h' : l'.Fits := by simpa [ho] using l.offer_fits m h
      exact ih _ ⟨h'.queue, h'.oneUsage, h'.alerts⟩
    · exact ⟨h.queue, h.oneUsage, h.alerts⟩

theorem Link.drainReplies_carries (ms : List Message) (l : Link) (hms : ∀ m ∈ ms, m.isUsage = false)
    (Q : UsageRecord → Prop) : l.Carries Q → (Link.drainReplies ms l).Carries Q := by
  induction ms generalizing l with
  | nil => exact fun h => h.shrink rfl fun m hm => h.backlog m (List.mem_append_left _ (by simpa [Link.drainReplies] using hm))
  | cons m ms ih =>
    intro h
    unfold Link.drainReplies
    split
    · next l' ho =>
      have h' : l'.Carries Q := by simpa [ho] using Link.offer_carries (l := l) (hms m (List.mem_cons_self ..)) Q h
      exact ih _ (fun k hk => hms k (List.mem_cons_of_mem _ hk)) (h'.shrink rfl h'.backlog)
    · refine h.shrink rfl fun k hk => ?_
      rcases List.mem_append.mp hk with hk | hk
      · exact h.backlog k (List.mem_append_left _ hk)
      · exact hms k hk

theorem Link.drainBacklog_keeps (l : Link) : l.Keeps l.drainBacklog where
  fits := fun h => by
    have h' := Link.drainAlerts_fits l.backAlerts l h.alerts h
    unfold Link.drainBacklog
    dsimp only
    split
    · exact Link.drainReplies_fits _ _ h'
    · exact h'
  carries := fun Q h => by
    have h' := Link.drainAlerts_carries l.backAlerts l (fun m hm => h.backlog m (List.mem_append_left _ hm)) Q h
    unfold Link.drainBacklog
    dsimp only
    split
    · exact Link.drainReplies_carries _ _ (fun m hm => h'.backlog m (List.mem_append_right _ hm)) Q h'
    · exact h'

/-- Frames taken out of the queue. -/
theorem Link.filter_keeps {l l' : Link} (p : TxEntry → Bool) (hq : l'.queue = l.queue.filter p)
    (ha : l'.backAlerts = l.backAlerts) (hr : l'.backReplies = l.backReplies) : l.Keeps l' where
  fits := fun h => ⟨hq ▸ (List.length_filter_le ..).trans h.queue,
    hq ▸ (List.filter_sublist.countP_le ..).trans h.oneUsage, ha ▸ h.alerts⟩
  carries := fun Q h => ⟨hq ▸ (List.filter_sublist.countP_le ..).trans h.oneUsage,
    fun e he => h.inQueue e (List.mem_of_mem_filter (hq ▸ he)), by rw [ha, hr]; exact h.backlog⟩

theorem Link.dropBeacons_keeps (l : Link) : l.Keeps l.dropBeacons := by
  unfold Link.dropBeacons
  refine Link.Keeps.trans ?_ (Link.drainBacklog_keeps _)
  exact Link.filter_keeps (fun e => !e.message.isTime) rfl rfl rfl

/-- Entries of the queue rewritten with their messages kept. -/
theorem Link.map_keeps {l l' : Link} (f : TxEntry → TxEntry) (hf : ∀ e, (f e).message = e.message)
    (hq : l'.queue = l.queue.map f) (ha : l'.backAlerts = l.backAlerts) (hr : l'.backReplies = l.backReplies) :
    l.Keeps l' := by
  have hcount : l'.queue.countP (·.message.isUsage) = l.queue.countP (·.message.isUsage) := by
    simp [hq, List.countP_map, Function.comp_def, hf]
  refine ⟨fun h => ⟨by simpa [hq] using h.queue, hcount ▸ h.oneUsage, ha ▸ h.alerts⟩,
    fun Q h => ⟨hcount ▸ h.oneUsage, fun e he r hr => ?_, by rw [ha, hr]; exact h.backlog⟩⟩
  obtain ⟨k, hk, rfl⟩ := List.mem_map.mp (hq ▸ he)
  exact h.inQueue k hk r (hf k ▸ hr)

namespace Keeps

section

variable {s t : State} (h : Keeps s t)
include h

theorem modLink {f : Link → Link} (hf : t.link.Keeps (f t.link)) : Keeps s (t.modLink f) :=
  h.trans (of_blocks id
    (fun k => have g := hf.fits ⟨k.1, k.2.1, k.2.2⟩; ⟨g.queue, g.oneUsage, g.alerts⟩) id
    (fun hj hl => ⟨hj, hf.carries _ hl⟩) id id id (fun k => ⟨k.baseline, k.samples, k.history, k.strikes⟩) id id)

theorem raise (k : AlertKind) (details : List Byte) : Keeps s (t.raise k details) := by
  have hflag : t.link.Keeps (t.link.setFlag k.code) := .same rfl rfl rfl
  unfold State.raise
  refine h.modLink ?_
  split
  · exact hflag.trans (Link.sendAlert_keeps rfl)
  · exact hflag

theorem answerPlain (c : RxCommand) (rc : ReplyCode) (results : List Byte) : Keeps s (t.answerPlain c rc results) :=
  h.modLink (Link.sendReply_keeps rfl)

theorem answer (c : RxCommand) (rc : ReplyCode) (results : List Byte) : Keeps s (t.answer c rc results) :=
  (h.modLink (.same rfl rfl rfl)).answerPlain c rc results

theorem answerCode (c : RxCommand) (rc : ReplyCode) : Keeps s (t.answerCode c rc) := h.answer c rc []

/-- A dispatched command taken (R162). -/
theorem takeCommand {code : Byte} {c : RxCommand} {u : State} (ht : t.takeCommand code = some (c, u)) : Keeps s u := by
  rw [takeCommand_frame ht]
  exact h.modLink (.same rfl rfl rfl)

end

end Keeps

/-! ### The order lanes (R14 to R19) -/

/-- The lanes, the records and the remembered receptions within their room (R7, R14). -/
def TreePort.Fits (t : TreePort) : Prop :=
  t.urgent.length ≤ Config.urgentLane ∧ t.normal.length ≤ Config.normalLane ∧ t.issued.length ≤ 3 ∧ t.received.length ≤ 8

theorem length_replaceFirst {α : Type} [DecidableEq α] (x y : α) (l : List α) :
    (replaceFirst x y l).length = l.length := by
  induction l with
  | nil => rfl
  | cons z l ih =>
    unfold replaceFirst
    split <;> simp [ih]

theorem TreePort.accept_fits {t : TreePort} {lane : Lane} (body : OrderBody) {target : Option (SlotId × Gen)}
    (hroom : t.refuses lane target = false) : t.Fits → (t.accept lane body target).Fits := by
  rintro ⟨hu, hn, hi, hr⟩
  cases lane with
  | urgent => exact ⟨by simpa [TreePort.accept, TreePort.refuses] using hroom, hn, hi, hr⟩
  | normal =>
    have hlt : t.normal.length < Config.normalLane := by
      simp only [TreePort.refuses, Bool.or_eq_false_iff, decide_eq_false_iff_not, Nat.not_le] at hroom
      exact hroom.1
    exact ⟨hu, by simpa [TreePort.accept] using hlt, hi, hr⟩

theorem TreePort.offer_fits (t : TreePort) (lane : Lane) (body : OrderBody) (target : Option (SlotId × Gen)) :
    t.Fits → (t.offer lane body target).1.Fits := by
  intro h
  unfold TreePort.offer
  split
  · exact h
  · split
    · exact h
    · split
      · exact h
      · next hroom => exact TreePort.accept_fits body (by simpa using hroom) h

theorem TreePort.removeWhere_fits (t : TreePort) (p : OrderEntry → Bool) : t.Fits → (t.removeWhere p).1.Fits :=
  fun ⟨hu, hn, hi, hr⟩ => ⟨(List.length_filter_le ..).trans hu, (List.length_filter_le ..).trans hn, hi, hr⟩

theorem TreePort.erase_fits (t : TreePort) (e : OrderEntry) : t.Fits → (t.erase e).Fits :=
  fun ⟨hu, hn, hi, hr⟩ => ⟨(List.length_erase_le ..).trans hu, (List.length_erase_le ..).trans hn, hi, hr⟩

theorem TreePort.replace_fits (t : TreePort) (e e' : OrderEntry) : t.Fits → (t.replace e e').Fits :=
  fun ⟨hu, hn, hi, hr⟩ =>
    ⟨(length_replaceFirst ..).trans_le hu, (length_replaceFirst ..).trans_le hn, hi, hr⟩

theorem TreePort.bind_fits (t : TreePort) (p : OrderEntry → Bool) (n : Round) (position : Nat) :
    t.Fits → (t.bind p n position).1.Fits := by
  intro h
  unfold TreePort.bind
  split
  · exact h
  · exact ⟨(length_replaceFirst ..).trans_le h.1, h.2⟩

theorem TreePort.unbindWhere_fits (t : TreePort) (p : OrderEntry → Bool) : t.Fits → (t.unbindWhere p).Fits :=
  fun h => ⟨(List.length_map ..).trans_le h.1, h.2⟩

theorem TreePort.verdict_fits (t : TreePort) (e : OrderEntry) (answered : Bool) : t.Fits → (t.verdict e answered).Fits := by
  unfold TreePort.verdict
  split
  · exact t.erase_fits e
  · exact t.replace_fits e _

namespace Keeps

section

variable {s t : State} (h : Keeps s t)
include h

/-- The tree port replaced by one that fits. -/
theorem setTree {T : TreePort} (hT : t.tree.Fits → T.Fits) : Keeps s (t.modTree fun _ => T) := h.modTree hT

theorem offerOrder (lane : Lane) (body : OrderBody) (target : Option (SlotId × Gen)) :
    Keeps s (t.offerOrder lane body target).1 :=
  h.setTree (t.tree.offer_fits lane body target)

theorem sampleLatch (light : Bool) : Keeps s (t.sampleLatch light) := h.modTree id

theorem modReception (f : Issued → Issued) : Keeps s (t.modReception f) := by
  refine h.modTree fun ⟨hu, hn, hi, hr⟩ => ?_
  unfold State.LanesFit State.modTree
  dsimp only
  split
  · exact ⟨hu, hn, hi, hr⟩
  · next r rs he => exact ⟨hu, hn, by simpa [he] using hi, hr⟩

theorem removeQuietly (p : OrderEntry → Bool) : Keeps s (t.removeQuietly p) := h.modTree (t.tree.removeWhere_fits p)

/-- A write to a slot record that keeps its serial, its state and its silent count. -/
theorem modFlags {i : SlotId} {f : SlotRecord → SlotRecord} (hs : (f (t.slot i)).state = (t.slot i).state := by rfl)
    (hx : (f (t.slot i)).serial = (t.slot i).serial := by rfl)
    (hk : (f (t.slot i)).silent = (t.slot i).silent := by rfl) : Keeps s (t.modSlot i f) :=
  h.modSlot (fun x => by simp [SlotRecord.holds, hs, hx]) (fun k => hk ▸ k)

/-- A write to the watch that keeps the baseline, the samples, the history and the strike counts. -/
theorem modSearch {f : Watch → Watch} (hb : (f t.watch).b16 = t.watch.b16 := by rfl)
    (hc : (f t.watch).calib = t.watch.calib := by rfl) (hh : (f t.watch).history = t.watch.history := by rfl)
    (hs : (f t.watch).counts = t.watch.counts := by rfl) : Keeps s (t.modWatch f) :=
  h.modWatch fun k => ⟨by simpa [hb] using k.baseline, by simpa [hc] using k.samples, by simpa [hh] using k.history,
    fun i => by simpa [State.strikes, hs] using k.strikes i⟩

/-- A write to the metering engine that keeps the meter queue and its counts. -/
theorem modTallies {f : Meter → Meter} (hq : (f t.meter).queue = t.meter.queue := by rfl)
    (ht : (f t.meter).taken = t.meter.taken := by rfl) (hc : (f t.meter).consumed = t.meter.consumed := by rfl) :
    Keeps s (t.modMeter f) :=
  h.modMeter fun k => by simpa [State.MeterCounted, hq, ht, hc] using k

end

end Keeps

end Sys2Proof.Machine
end

section
/-! PROOFS. What every operation keeps, third part: orders and their outcomes, meter updates and tallies, the journal's
append, and the home table's announcements and entries. -/

namespace Sys2Proof.Machine

-- One thread elaborates this section: the text as a whole is near the memory limit of the check.
set_option Elab.async false

/-! ### Orders and their outcomes (R14 to R19, R116) -/

theorem Watch.settleCheck_kept (w : Watch) : w.settleCheck.b16 = w.b16 ∧ w.settleCheck.calib = w.calib
    ∧ w.settleCheck.history = w.history ∧ w.settleCheck.counts = w.counts ∧ w.settleCheck.state = w.state := by
  unfold Watch.settleCheck
  split
  · simp
  · split <;> simp

theorem Watch.dropMember_kept (w : Watch) (i : SlotId) : (w.dropMember i).b16 = w.b16
    ∧ (w.dropMember i).calib = w.calib ∧ (w.dropMember i).history = w.history ∧ (w.dropMember i).counts = w.counts
    ∧ (w.dropMember i).state = w.state := by
  unfold Watch.dropMember
  split
  · simp
  · simp [Watch.settleCheck_kept]

namespace Keeps

variable {s t : State} (h : Keeps s t)
include h

theorem settleCheck {f : Watch → Watch} (hb : (f t.watch).b16 = t.watch.b16 := by rfl)
    (hc : (f t.watch).calib = t.watch.calib := by rfl) (hh : (f t.watch).history = t.watch.history := by rfl)
    (hs : (f t.watch).counts = t.watch.counts := by rfl) : Keeps s (t.modWatch fun w => (f w).settleCheck) := by
  obtain ⟨kb, kc, kh, ks, -⟩ := (f t.watch).settleCheck_kept
  exact h.modSearch (kb.trans hb) (kc.trans hc) (kh.trans hh) (ks.trans hs)

theorem dropMember (i : SlotId) : Keeps s (t.dropMember i) := by
  unfold State.dropMember
  split
  · obtain ⟨kb, kc, kh, ks, -⟩ := t.watch.dropMember_kept i
    exact (h.modFlags (f := fun r => { r with hushed := false })).modSearch kb kc kh ks
  · exact h

theorem watchReport (i : SlotId) (seq : BitVec 8) (o : OrderOutcome) : Keeps s (t.watchReport i seq o) := by
  unfold State.watchReport
  split
  · exact h
  · dsimp only
    split
    · exact h.settleCheck
    · exact (h.dropMember i).settleCheck
    · exact h.modFlags.settleCheck
    · exact h.modFlags.settleCheck
    · exact h
    · exact h

theorem wakeDueReport (i : SlotId) (o : OrderOutcome) : Keeps s (t.wakeDueReport i o) := by
  unfold State.wakeDueReport
  split
  · exact h
  all_goals exact h.modFlags

theorem report (e : OrderEntry) (o : OrderOutcome) : Keeps s (t.report e o) := by
  unfold State.report
  split
  · split
    · exact h.same (by simp)
    · exact h
  · exact h.same (by simp)
  · exact h.watchReport ..
  · exact h.watchReport ..
  · exact h.wakeDueReport ..
  · exact h.modFlags
  all_goals exact h

theorem abandonWhere (p : OrderEntry → Bool) : Keeps s (t.abandonWhere p) :=
  (h.setTree (t.tree.removeWhere_fits p)).foldl (fun u _ => (refl u).report _ _) _

theorem erase (e : OrderEntry) : Keeps s (t.modTree (·.erase e)) := h.modTree (t.tree.erase_fits e)

theorem replace (e e' : OrderEntry) : Keeps s (t.modTree (·.replace e e')) := h.modTree (t.tree.replace_fits e e')

theorem sendOrder (n : Round) (e : OrderEntry) : Keeps s (t.sendOrder n e) := by
  simp only [State.sendOrder]
  split
  · exact (h.erase e).same (by simp)
  · split
    · exact h.replace e _
    · exact (h.replace e _).modEcho _ _
  · split
    · exact h.replace e _
    · exact (h.replace e _).modEcho _ _
  · exact h.replace e _
  all_goals
    split
    · exact (h.erase e).report _ _
    · exact h.replace e _

theorem fillSlots (n : Round) (es : List OrderEntry) (room : Nat) : Keeps s (State.fillSlots n es room t).1 := by
  induction es generalizing room t with
  | nil => exact h
  | cons e es ih =>
    cases room with
    | zero => exact h
    | succ room =>
      unfold State.fillSlots
      split
      · exact ih (h.sendOrder n e) room
      · exact ih ((h.erase e).report _ _) _

theorem selectOrders (n : Round) : Keeps s (t.selectOrders n).1 := h.fillSlots n _ 4

theorem holdoffSequence (i : SlotId) (g : Gen) (n : Round) (seq : BitVec 8) : Keeps s (t.holdoffSequence i g n seq) := by
  unfold State.holdoffSequence
  split
  · exact h
  · exact (h.erase _).report _ _

end Keeps

/-! ### Meter updates and tallies (R119 to R135) -/

namespace Keeps

variable {s t : State} (h : Keeps s t)
include h

theorem modCtx (i : SlotId) (f : Context → Context) : Keeps s (t.modCtx i f) := h.modTallies
theorem modMarks (i : SlotId) (f : Marks → Marks) : Keeps s (t.modMarks i f) := h.modCtx i _
theorem setOver (i : SlotId) (v : ByteCounts) : Keeps s (t.setOver i v) := h.modTallies
theorem modTally (i : SlotId) (b : Band) (f : Tally → Tally) : Keeps s (t.modTally i b f) := h.modCtx i _

/-- An update appended raises the taken count with the queue's length (R119, R120). -/
theorem offerUpdate (i : SlotId) (g : Gen) (kind : MeterKind) (bytes assured : Nat) :
    Keeps s (t.offerUpdate i g kind bytes assured) := by
  unfold State.offerUpdate
  split
  · next hroom =>
    refine h.modMeter fun ⟨hcap, hcount⟩ => ⟨by simpa using hroom, ?_⟩
    have hlt : t.meter.queue.length < 64 := hroom
    simp only [State.modMeter_meter, List.length_append, List.length_singleton]
    bv_omega
  · exact (h.setOver _ _).modMarks _ _

theorem reevaluateBand : Keeps s t.reevaluateBand := by
  unfold State.reevaluateBand
  split
  · exact h.modTallies
  · exact h

theorem checkTally (i : SlotId) (b : Band) : Keeps s (t.checkTally i b) := by
  unfold State.checkTally
  split
  · exact h
  · exact (h.modTally i b _).modMarks i _
  · exact (h.modTally i b _).raise _ _

theorem checkTallies (i : SlotId) : Keeps s (t.checkTallies i) := h.foldl (fun u b => (refl u).checkTally i b) _

theorem credit (i : SlotId) (b : Band) (c : ByteCounts) : Keeps s (t.credit i b c) := by
  unfold State.credit
  exact ((h.checkTally i b).modTally i b _).modMarks i _

theorem fold (i : SlotId) : Keeps s (t.fold i) := by
  unfold State.fold
  split
  · exact h
  · exact (h.credit i _ _).setOver i _

theorem ensureOpen (i : SlotId) : Keeps s (t.ensureOpen i) := by
  unfold State.ensureOpen State.openContext
  split
  · exact h.modCtx i _
  · exact h

end Keeps

/-- A held record at its place, and one more at the end, whose number is A (R138, R140). -/
theorem Journal.take_ordered {j : Journal} (r : UsageRecord) (hfree : j.hasFree = true) :
    j.Ordered → (j.take r).1.Ordered := by
  intro h
  have hlt : j.held < 512 := of_decide_eq_true hfree
  have hheld := h.held
  have hsent := h.sent
  have hgrown : (j.append + 1 - j.oldest).toNat = j.held + 1 := by
    unfold Journal.held at hlt ⊢
    bv_omega
  refine ⟨?_, ?_, ?_, fun k hk => ?_⟩
  · simpa [Journal.take, Journal.held, hheld] using hgrown.trans (by omega)
  · exact hgrown.trans_le hlt
  · exact hsent.trans ((Nat.le_succ _).trans hgrown.ge)
  · simp only [Journal.take, List.getElem_append]
    split
    · next hold => exact h.numbered k hold
    · next hnew =>
      have hk' : k = j.held := by
        simp [Journal.take] at hk
        omega
      simp only [List.getElem_singleton]
      subst hk'
      unfold Journal.held
      bv_omega

theorem Journal.take_isUnsent {j : Journal} (r : UsageRecord) (hfree : j.hasFree = true) {q : UsageRecord} :
    j.IsUnsent q → (j.take r).1.IsUnsent q := by
  rintro ⟨hsent, hheld⟩
  have hlt : j.held < 512 := of_decide_eq_true hfree
  refine ⟨hsent, hheld.trans_le ?_⟩
  simp only [Journal.take, Journal.held] at hlt ⊢
  bv_omega

namespace Keeps

variable {s t : State} (h : Keeps s t)
include h

theorem appendRecord (r : UsageRecord) : Keeps s (t.appendRecord r) := by
  simp only [State.appendRecord]
  split
  · next hfree =>
    have hj := h.modJournal (f := fun _ => (t.journal.take r).1) (Journal.take_ordered r hfree)
      fun q => Journal.take_isUnsent r hfree
    split
    · exact hj.raise _ _
    · exact hj
  · exact h

theorem closeWithRecord (i : SlotId) (reason : CloseReason) : Keeps s (t.closeWithRecord i reason) :=
  (h.modCtx i _).appendRecord _

theorem owe (i : SlotId) (st : CtxState) : Keeps s (t.owe i st) := (h.modCtx i _).modMarks i _

end Keeps

/-! ### The home table (R22 to R55) -/

namespace Keeps

variable {s t : State} (h : Keeps s t)
include h

theorem writeAssured (i : SlotId) (a : Nat) (short : Bool) : Keeps s (t.writeAssured i a short) := by
  unfold State.writeAssured
  dsimp only
  split
  · exact h.modFlags.modMarks i _
  · exact h.modFlags

theorem topUpSlot (i : SlotId) : Keeps s (t.topUpSlot i) := by
  unfold State.topUpSlot
  dsimp only
  split
  · exact h.modFlags
  · exact h

theorem topUp : Keeps s t.topUp := h.forSlots fun u i => (refl u).topUpSlot i

theorem treeOnSlot (i : SlotId) (new : SlotState) : Keeps s (t.treeOnSlot i new) := by
  unfold State.treeOnSlot
  split
  case h_5 =>
    split
    · exact h.removeQuietly _
    · exact h
  case h_6 | h_7 => exact h
  all_goals exact h.removeQuietly _

theorem enrolOnSlot (i : SlotId) (old new : SlotState) : Keeps s (t.enrolOnSlot i old new) := h.same (by simp)

theorem schedOnSlot (i : SlotId) (new : SlotState) : Keeps s (t.schedOnSlot i new) := h.same (by simp)

/-- A write to the queues' scheduler state keeps the packets held. -/
theorem modVisit (i : SlotId) {f : DownQueue → DownQueue} (hf : ∀ q, (f q).packets = q.packets) :
    Keeps s (t.modQueue i f) := by
  refine h.modDown fun k => ?_
  have hq : ∀ j, (t.modQueue i f).queueBlocks j = t.queueBlocks j := by
    intro j
    unfold State.queueBlocks
    rw [State.modQueue_queue]
    split <;> simp [hf]
  exact (congrArg (fun b => (allSlots.map b).sum + t.down.txBlocks + t.down.free) (funext hq)).trans k

theorem downOnSlot (i : SlotId) (new : SlotState) : Keeps s (t.downOnSlot i new) := by
  unfold State.downOnSlot
  dsimp only
  split
  case h_4 =>
    split
    · exact h
    · exact h.modVisit i fun _ => rfl
  case h_5 | h_6 | h_7 => exact h
  all_goals exact h.modDown id

theorem modStrikes (i : SlotId) {f : Strikes → Strikes}
    (hf : (t.strikes i).tail ≤ 15 ∧ (t.strikes i).head ≤ 15 →
      (f (t.strikes i)).tail ≤ 15 ∧ (f (t.strikes i)).head ≤ 15) : Keeps s (t.modStrikes i f) :=
  h.modWatch fun k => ⟨k.baseline, k.samples, k.history, fun j => by
    have := k.strikes j
    change ((t.modStrikes i f).strikes j).tail ≤ 15 ∧ ((t.modStrikes i f).strikes j).head ≤ 15
    rw [State.modStrikes_strikes]
    split
    · next hj => exact hj ▸ hf (k.strikes i)
    · exact this⟩

theorem watchOnSlot (i : SlotId) (new : SlotState) : Keeps s (t.watchOnSlot i new) := by
  unfold State.watchOnSlot
  have hzero : Keeps s (t.modStrikes i fun _ => { tail := 0, head := 0 }) := h.modStrikes i fun _ => by simp
  split
  · exact hzero
  · exact hzero.dropMember i
  · exact h.dropMember i
  · exact h.dropMember i
  all_goals exact h

theorem meterOnSlot (i : SlotId) (fresh : Bool) (new : SlotState) : Keeps s (t.meterOnSlot i fresh new) := by
  unfold State.meterOnSlot
  split
  case h_1 | h_2 =>
    split
    · exact h.ensureOpen i
    · exact h
  all_goals exact h

theorem rosterOnSlot (i : SlotId) (fresh : Bool) (new : SlotState) : Keeps s (t.rosterOnSlot i fresh new) :=
  h.same (by simp)

theorem announce (i : SlotId) (old : SlotState) (fresh : Bool) : Keeps s (t.announce i old fresh) := by
  unfold State.announce
  generalize (t.slot i).state = new
  have ht := ((((((h.treeOnSlot i new).enrolOnSlot i old new).schedOnSlot i new).downOnSlot i new).watchOnSlot i
    new).meterOnSlot i fresh new).rosterOnSlot i fresh new
  dsimp only
  split
  · exact ht.topUp
  · exact ht

theorem enter {i : SlotId} {f : SlotRecord → SlotRecord}
    (hf : ∀ x, (f (t.slot i)).holds x = true → (t.slot i).holds x = true)
    (hk : (t.slot i).silent ≤ 4 → (f (t.slot i)).silent ≤ 4) : Keeps s (t.enter i f) :=
  (h.modSlot hf hk).announce ..

end Keeps

end Sys2Proof.Machine
end

section
/-! PROOFS. What every operation keeps, fourth part: what an announcement and an entry to a state leave of the slot records,
the home table manager, the enrolment engine, and the closes of the metering engine. -/

namespace Sys2Proof.Machine

-- One thread elaborates this section: the text as a whole is near the memory limit of the check.
set_option Elab.async false

/-! ### What an announcement leaves of a slot record (R31, R55, R113) -/

/-- A slot record without the fields that an announcement may write: the assured rate and short flag that a top-up gives
(R55), and the hushed flag that a slot taken out of the search loses (R113). -/
def SlotRecord.core (r : SlotRecord) : SlotRecord := { r with assured := 0, short := false, hushed := false }

theorem slot_congr {s t : State} (h : t.home = s.home) (j : SlotId) : t.slot j = s.slot j :=
  congrArg (fun m : HomeTable => m.slots.get j) h

/-- A write to a record that spares its core. -/
theorem modSlot_core (s : State) (i j : SlotId) {f : SlotRecord → SlotRecord}
    (hf : ∀ r, (f r).core = r.core := by intro; rfl) : ((s.modSlot i f).slot j).core = (s.slot j).core := by
  rw [State.modSlot_slot]
  split <;> simp [hf]

/-- A fold of operations that spare the core of slot `j`. -/
theorem foldl_core {α : Type} {f : State → α → State} (j : SlotId)
    (hf : ∀ s a, ((f s a).slot j).core = (s.slot j).core) (l : List α) (s : State) :
    ((l.foldl f s).slot j).core = (s.slot j).core := foldl_keeps (fun s => (s.slot j).core) f hf l s

theorem dropMember_core (s : State) (i j : SlotId) : ((s.dropMember i).slot j).core = (s.slot j).core := by
  unfold State.dropMember
  split
  · exact modSlot_core s i j (f := fun r => { r with hushed := false })
  · rfl

theorem topUp_core (s : State) (j : SlotId) : (s.topUp.slot j).core = (s.slot j).core := by
  refine foldl_core j (fun s i => ?_) _ s
  unfold State.topUpSlot
  dsimp only
  split
  · exact modSlot_core s i j
  · rfl

theorem announce_core (s : State) (i j : SlotId) (old : SlotState) (fresh : Bool) :
    ((s.announce i old fresh).slot j).core = (s.slot j).core := by
  unfold State.announce
  generalize (s.slot i).state = new
  have htree : (((((s.treeOnSlot i new).enrolOnSlot i old new).schedOnSlot i new).downOnSlot i new).slot j) = s.slot j :=
    slot_congr (by simp) j
  have hwatch : ∀ u : State, ((u.watchOnSlot i new).slot j).core = (u.slot j).core := by
    intro u
    unfold State.watchOnSlot
    split
    · rfl
    · exact dropMember_core _ i j
    · exact dropMember_core _ i j
    · exact dropMember_core _ i j
    all_goals rfl
  have hrest : ∀ u : State, ((u.meterOnSlot i fresh new).rosterOnSlot i fresh new).slot j = u.slot j :=
    fun u => slot_congr (by simp) j
  dsimp only
  split
  · rw [topUp_core, hrest, hwatch, htree]
  · rw [hrest, hwatch, htree]

theorem enter_core (s : State) (i j : SlotId) (f : SlotRecord → SlotRecord) :
    ((s.enter i f).slot j).core = if j = i then (f (s.slot j)).core else (s.slot j).core := by
  unfold State.enter
  rw [announce_core, State.modSlot_slot]
  split <;> rfl

/-- Any field of the core, of the slot entered. -/
theorem enter_core_self (s : State) (i : SlotId) (f : SlotRecord → SlotRecord) :
    ((s.enter i f).slot i).core = (f (s.slot i)).core := by simp [enter_core]

theorem enter_state (s : State) (i : SlotId) (f : SlotRecord → SlotRecord) :
    ((s.enter i f).slot i).state = (f (s.slot i)).state :=
  (congrArg SlotRecord.state (enter_core_self s i f) :)

/-! ### The home table manager (R24 to R38) -/

/-- A slot that is not FREE and keeps its serial comes to hold nothing new. -/
theorem holds_of_serial {r r' : SlotRecord} (hr : r.state ≠ .free) (hx : r'.serial = r.serial) (x : Serial) :
    r'.holds x = true → r.holds x = true := by
  simp [SlotRecord.holds, hr, hx]

theorem holds_of_holder {s : State} {x : Serial} {i : SlotId} (h : s.holder x = some i) :
    (s.slot i).holds x = true := by simpa using List.find?_some h

theorem not_holds_of_holder {s : State} {x : Serial} (h : s.holder x = none) (i : SlotId) :
    (s.slot i).holds x = false := by
  have := List.find?_eq_none.mp h i (List.mem_finRange i)
  simpa using this

namespace Keeps

variable {s t : State} (h : Keeps s t)
include h

/-- A slot that is not FREE may enter any state with its serial kept. -/
theorem enterHeld {i : SlotId} {f : SlotRecord → SlotRecord} (hs : (t.slot i).state ≠ .free)
    (hx : (f (t.slot i)).serial = (t.slot i).serial := by rfl)
    (hk : (t.slot i).silent ≤ 4 → (f (t.slot i)).silent ≤ 4 := by exact id) : Keeps s (t.enter i f) :=
  h.enter (holds_of_serial hs hx) hk

theorem offerRelease (i : SlotId) (g : Gen) : Keeps s (t.offerRelease i g) := by
  unfold State.offerRelease
  dsimp only
  have ho := h.offerOrder .normal .release (some (i, g))
  split
  · exact ho.modOwed i _
  · exact ho.modOwed i _
  all_goals exact (ho.modOwed i _).modFlags

theorem releaseHome (i : SlotId) : Keeps s (t.releaseHome i) := h.modFlags.offerRelease i _

theorem offerSever (i : SlotId) (g : Gen) (x : Serial) : Keeps s (t.offerSever i g x) := by
  unfold State.offerSever
  dsimp only
  have ho := h.offerOrder .urgent (.sever x) (some (i, g))
  split <;> exact ho.modOwed i _

theorem severAgain (i : SlotId) : Keeps s (t.severAgain i) := by
  unfold State.severAgain
  split
  · exact h
  · exact h.offerSever i _ _

theorem freeSlot (i : SlotId) : Keeps s (t.freeSlot i) := by
  unfold State.freeSlot
  dsimp only
  have hq : Keeps s (if (t.slot i).entersQuarantine then
      t.quarantineLocal ((t.slot i).serial.getD 0) ((t.slot i).barReason.getD .stray) else t) := by
    split
    · exact h.same (by simp)
    · exact h
  exact hq.enter (fun x hx => by simp [SlotRecord.freed, SlotRecord.reset, SlotRecord.holds] at hx) fun _ => Nat.zero_le _

theorem abandonAssignment (i : SlotId) : Keeps s (t.abandonAssignment i) := (h.freeSlot i).releaseHome i

theorem closeSlot {i : SlotId} (hs : (t.slot i).state ≠ .free) (reason : CloseReason) :
    Keeps s (t.closeSlot i reason) := by
  unfold State.closeSlot
  exact ((h.enterHeld hs).releaseHome i).modRoster _

theorem loseSlot {i : SlotId} (hs : (t.slot i).state ≠ .free) : Keeps s (t.loseSlot i) := by
  unfold State.loseSlot
  dsimp only
  have ht := h.enterHeld (f := fun r => { r with
    state := .lost, silent := 4
    lostSince := some (((t.slot i).lostSince).getD { round := t.now, time := t.clock.time }) }) hs rfl fun _ => le_rfl
  split
  · exact ht.closeSlot (by simp [enter_state]) .lost
  · exact ht

theorem barSlot {i : SlotId} (hs : (t.slot i).state ≠ .free) (reason : BarReason) : Keeps s (t.barSlot i reason) := by
  unfold State.barSlot
  exact (((h.enterHeld hs).offerSever i _ _).raise _ _).modRoster _

theorem barRequest (i : SlotId) (g : Gen) (reason : BarReason) : Keeps s (t.barRequest i g reason) := by
  unfold State.barRequest
  split
  · split
    case h_5 | h_6 | h_7 => exact h
    all_goals
      next hst => exact h.barSlot (by simp [hst]) reason
  · exact h

/-- A serial that no slot holds enters a slot that is FREE. -/
theorem modSlotNew {i : SlotId} {f : SlotRecord → SlotRecord} {x : Serial} (hx : (f (t.slot i)).serial = some x)
    (hnone : t.holder x = none) (hk : (f (t.slot i)).silent ≤ 4) : Keeps s (t.modSlot i f) := by
  have hslot : ∀ j, (t.modSlot i f).slot j = if j = i then f (t.slot i) else t.slot j := by
    intro j
    rw [State.modSlot_slot]
    split
    · next hj => rw [hj]
    · rfl
  have hother : ∀ j y, j ≠ i → ((t.modSlot i f).slot j).holds y = true → (t.slot j).holds y = true ∧ y ≠ x := by
    intro j y hj hy
    rw [hslot, if_neg hj] at hy
    refine ⟨hy, ?_⟩
    rintro rfl
    simp [not_holds_of_holder hnone j] at hy
  have hself : ∀ y, ((t.modSlot i f).slot i).holds y = true → y = x := by
    intro y hy
    simp only [hslot, SlotRecord.holds, hx, if_true, Bool.and_eq_true, beq_iff_eq, Option.some.injEq] at hy
    exact hy.2.symm
  refine h.trans (of_blocks id id id (fun hj hl => ⟨hj, hl⟩) id (fun k a b y ha hb => ?_) id
    (fun k => ⟨k.baseline, k.samples, k.history, k.strikes⟩) (fun k j => ?_) id)
  · by_cases hai : a = i <;> by_cases hbi : b = i
    · rw [hai, hbi]
    · exact absurd (hself y (hai ▸ ha)) (hother b y hbi hb).2
    · exact absurd (hself y (hbi ▸ hb)) (hother a y hai ha).2
    · exact k a b y (hother a y hai ha).1 (hother b y hbi hb).1
  · rw [hslot]
    split
    · exact hk
    · exact k j

theorem assignSlot (i : SlotId) (a : Assignment) : Keeps s (t.assignSlot i a).1 := by
  unfold State.assignSlot
  split
  · next hfree =>
    have hnone : t.holder a.serial = none := by
      simp only [Bool.and_eq_true, Option.isNone_iff_eq_none] at hfree
      exact hfree.2
    exact ((h.modSlotNew rfl hnone (Nat.zero_le _)).announce ..).writeAssured i _ _
  · exact h

theorem rejoinSlot (i : SlotId) (x : Serial) (rtd : Half) : Keeps s (t.rejoinSlot i x rtd).1 := by
  unfold State.rejoinSlot
  split
  case h_4 | h_5 | h_6 | h_7 => exact h
  all_goals
    next hst =>
      split
      · exact h.enterHeld (by simp [hst])
      · exact h

theorem echoGood (i : SlotId) (g : Gen) (rtd : Half) (n : Round) : Keeps s (t.echoGood i g rtd n) := by
  unfold State.echoGood
  split
  · dsimp only
    split
    · next hst => exact h.enterHeld (by simp [hst]) rfl fun _ => Nat.zero_le _
    · next hst => exact h.enterHeld (by simp [hst]) rfl fun _ => Nat.zero_le _
    · next hst => exact h.modSlot (holds_of_serial (by simp [hst]) rfl) fun _ => Nat.zero_le _
    all_goals exact h
  · exact h

theorem echoFailed (i : SlotId) (g : Gen) : Keeps s (t.echoFailed i g) := by
  unfold State.echoFailed
  split
  · split
    · next hst =>
      split
      · exact h.loseSlot (by simp [hst])
      · exact h.abandonAssignment i
    · next hst => exact h.loseSlot (by simp [hst])
    · next hst => exact h.loseSlot (by simp [hst])
    all_goals exact h
  · exact h

theorem activeBurst {i : SlotId} (hs : (t.slot i).state ≠ .free) (c : BurstClass) (n : Round) :
    Keeps s (t.activeBurst i c n) := by
  unfold State.activeBurst
  have hg : Keeps s (t.countGarbled i c) := h.same (by simp)
  have hslot : (t.countGarbled i c).slot i = t.slot i := slot_congr (by simp) i
  dsimp only
  split
  · exact hg.modSlot (holds_of_serial (hslot ▸ hs) rfl) fun _ => Nat.zero_le _
  · exact hg
  · split
    · exact hg
    · split
      · exact hg.loseSlot (hslot ▸ hs)
      · exact hg.modSlot (holds_of_serial (hslot ▸ hs) rfl) fun _ => by simp only; omega

theorem applyClass (i : SlotId) (g : Gen) (c : BurstClass) (n : Round) : Keeps s (t.applyClass i g c n) := by
  unfold State.applyClass
  split
  · split
    · exact h
    · next hst => exact h.activeBurst (by simp [hst]) _ n
    · next hst => exact h.enterHeld (by simp [hst]) rfl fun _ => Nat.zero_le _
    · exact h.modFlags.severAgain i
    · exact h.modFlags
    · exact h.modFlags
    · exact h.modFlags
    all_goals exact h
  · exact h

theorem cloneSlot {i : SlotId} (hs : (t.slot i).state ≠ .free) (station : Byte) : Keeps s (t.cloneSlot i station) := by
  unfold State.cloneSlot
  exact ((h.enterHeld hs).offerSever i _ _).raise _ _

theorem applyDecision (d : Decision) : Keeps s (t.applyDecision d) := by
  unfold State.applyDecision
  split
  · exact h
  · split
    · next hst => exact (h.closeSlot (by simp [hst]) _).raise _ _
    · next hst => exact (h.closeSlot (by simp [hst]) _).raise _ _
    · next hst => exact h.cloneSlot (by simp [hst]) _
    · next hst => exact h.closeSlot (by simp [hst]) _
    · exact h

theorem derollSlot (i : SlotId) : Keeps s (t.derollSlot i) := by
  unfold State.derollSlot
  split
  · next hst =>
    split
    · exact h.closeSlot (by simp [hst]) _
    · exact h.abandonAssignment i
  case h_6 | h_7 => exact h
  all_goals
    next hst => exact h.closeSlot (by simp [hst]) _

end Keeps

end Sys2Proof.Machine
end

section
/-! PROOFS. What every operation keeps, fifth part: the enrolment engine, the closes of the metering engine, provisioning, the
grant scheduler, and the downstream engine with the blocks of the buffer pool. -/

namespace Sys2Proof.Machine

-- One thread elaborates this section: the text as a whole is near the memory limit of the check.
set_option Elab.async false

/-! ### Exchanges and roll calls (R46 to R62) -/

namespace Keeps

variable {s t : State} (h : Keeps s t)
include h

theorem askSpan (i : SlotId) : Keeps s (t.askSpan i) := h.same (by simp)
theorem askAgain (i : SlotId) : Keeps s (t.askAgain i) := h.same (by simp)

theorem offerExchange (i : SlotId) : Keeps s (t.offerExchange i) := by
  simp only [State.offerExchange]
  split
  · exact h
  · split
    · split
      · exact ((h.offerOrder ..).modEcho i _).askSpan i
      all_goals exact h.offerOrder ..
    · exact h

theorem startExchange (i : SlotId) (p : EchoPurpose) : Keeps s (t.startExchange i p) := (h.modEcho i _).offerExchange i

theorem verdict (e : OrderEntry) (answered : Bool) : Keeps s (t.modTree (·.verdict e answered)) :=
  h.modTree (t.tree.verdict_fits e answered)

theorem echoAnswered (i : SlotId) (rtd : Int) (n : Round) : Keeps s (t.echoAnswered i rtd n) := by
  unfold State.echoAnswered
  exact ((h.modEcho i _).echoGood i _ _ n).modEcho i _

theorem echoMissed (i : SlotId) (p : EchoPurpose) (n : Round) : Keeps s (t.echoMissed i p n) := by
  unfold State.echoMissed
  dsimp only
  split
  · exact (h.modEcho i _).echoFailed i _
  · exact (h.modEcho i _).askSpan i

theorem ruleEcho (span : EchoSpan) (n : Round) : Keeps s (t.ruleEcho span n) := by
  unfold State.ruleEcho
  dsimp only
  split
  · split
    · split
      · exact (h.verdict _ true).echoAnswered ..
      · exact (h.verdict _ false).echoMissed ..
    · exact h
  · exact h

theorem offerHoldoff (i : SlotId) : Keeps s (t.offerHoldoff i) := by
  simp only [State.offerHoldoff]
  split
  · split
    · exact (h.offerOrder ..).modEcho i _
    · exact h.offerOrder ..
    all_goals exact (h.offerOrder ..).modEcho i _
  · exact h

theorem reecho (i : SlotId) : Keeps s (t.reecho i) := by
  unfold State.reecho
  split
  · split
    · exact h
    · split
      · exact h.modEcho i _
      · exact h.startExchange i .check
  · exact h

theorem startPending (i : SlotId) : Keeps s (t.startPending i) := by
  unfold State.startPending
  split
  · exact (h.modEcho i _).reecho i
  · exact h

theorem offerRoll : Keeps s t.offerRoll := by
  simp only [State.offerRoll]
  split
  · split
    · exact ((h.offerOrder ..).modRoll _).modSched _
    · exact h.offerOrder ..
    all_goals exact (h.offerOrder .urgent .roll none).same (by simp)
  · exact h

end Keeps

/-! ### Closes and flushes (R91, R126 to R136) -/

/-- The blocks held in all queues. -/
def State.heldBlocks (s : State) : Nat := (allSlots.map s.queueBlocks).sum

theorem heldBlocks_eq_sum (s : State) : s.heldBlocks = ∑ i, s.queueBlocks i := (Fin.sum_univ_def _).symm

/-- What a write to one queue does to the blocks held. -/
theorem heldBlocks_modQueue (s : State) (i : SlotId) (f : DownQueue → DownQueue) :
    (s.modQueue i f).heldBlocks + s.queueBlocks i = s.heldBlocks + packetBlocks (f (s.queue i)).packets := by
  have hupd : (s.modQueue i f).queueBlocks = Function.update s.queueBlocks i (packetBlocks (f (s.queue i)).packets) := by
    funext j
    unfold State.queueBlocks
    rw [State.modQueue_queue, Function.update_apply]
    split
    · next hj => rw [hj]
    · rfl
  rw [heldBlocks_eq_sum, heldBlocks_eq_sum, hupd, Finset.sum_update_of_mem (Finset.mem_univ i),
    ← Finset.sum_sdiff (Finset.subset_univ {i}), Finset.sum_singleton]
  omega

theorem heldBlocks_congr {s t : State} (h : t.down.queues = s.down.queues) : t.heldBlocks = s.heldBlocks := by
  unfold State.heldBlocks State.queueBlocks State.queue
  rw [h]

theorem heldBlocks_modDown (s : State) {f : Downstream → Downstream} (hf : (f s.down).queues = s.down.queues := by rfl) :
    (s.modDown f).heldBlocks = s.heldBlocks := heldBlocks_congr hf

theorem poolConserved_iff (s : State) :
    s.PoolConserved ↔ s.heldBlocks + s.down.txBlocks + s.down.free = Config.poolBlocks := Iff.rfl

namespace Keeps

variable {s t : State} (h : Keeps s t)
include h

theorem finishClose (i : SlotId) : Keeps s (t.finishClose i) := by
  unfold State.finishClose
  dsimp only
  have ht := ((h.closeWithRecord i (((t.ctx i).closeReason).getD .deroll)).modCtx i Context.toNone).setOver i .zero
  split
  · exact ht.freeSlot i
  · exact ht

theorem finalRequest (i : SlotId) (g : Gen) (reason : CloseReason) (mark : Seq) :
    Keeps s (t.finalRequest i g reason mark) := by
  unfold State.finalRequest
  split
  · split
    case h_1 | h_2 => exact h
    all_goals exact (h.ensureOpen i).modCtx i _
  · exact h

theorem flushDone (i : SlotId) (g : Gen) : Keeps s (t.flushDone i g) := by
  unfold State.flushDone
  split
  · exact h.finalRequest ..
  · exact h

theorem serveClose (i : SlotId) : Keeps s (t.serveClose i) := by
  unfold State.serveClose
  split
  · split
    · exact ((h.checkTallies i).closeWithRecord i .interval).modCtx i _
    · exact (h.checkTallies i).finishClose i
    all_goals exact h
  · exact h

theorem entriesFreed : Keeps s t.entriesFreed := h.forSlots fun u i => (refl u).serveClose i

theorem intervalClose (i : SlotId) : Keeps s (t.intervalClose i) := by
  simp only [State.intervalClose]
  have ht := (h.fold i).checkTallies i
  split
  · split
    · exact ht.modCtx i _
    · split
      · exact ht.closeWithRecord i .interval
      · exact ht.owe i .owed
  · exact h

theorem profileClose (i : SlotId) (g : Gen) : Keeps s (t.profileClose i g).1 := by
  have ht := (h.fold i).checkTallies i
  unfold State.profileClose
  generalize (t.fold i).checkTallies i = u at ht ⊢
  dsimp only
  split
  · split
    case h_5 =>
      split
      · exact h
      · split
        · dsimp only
          exact ht.modCtx i _
        · split
          · exact ht.closeWithRecord i .profile
          · exact ht
    all_goals exact h
  · exact h

/-- The blocks of a flushed queue go back to the free count (R84, R91). -/
theorem flushQueue (i : SlotId) (g : Gen) : Keeps s (t.flushQueue i g) := by
  have hflush : Keeps s ((t.modQueue i fun _ => { packets := [], deficit := 0, held := false }).modDown
      (·.giveBack t.config.poolHigh (packetBlocks (t.queue i).packets))) := by
    refine h.sameButQueues (by simp) (fun k => ?_) (by simp [State.MeterCounted])
    have hblocks := heldBlocks_modQueue t i fun _ => { packets := [], deficit := 0, held := false }
    rw [poolConserved_iff] at k ⊢
    rw [heldBlocks_modDown]
    simp only [State.queueBlocks, packetBlocks, List.map_nil, List.sum_nil] at hblocks
    simp only [State.modDown_down, Downstream.giveBack, State.modQueue_down_free, State.modQueue_down_txBlocks,
      packetBlocks]
    omega
  unfold State.flushQueue
  dsimp only
  split
  · exact hflush
  · exact hflush.offerUpdate ..

end Keeps

/-! ### Strangers and provisioning (R40 to R55) -/

namespace Keeps

variable {s t : State} (h : Keeps s t)
include h

theorem stranger (x : Serial) (reason : StrangerReason) : Keeps s (t.stranger x reason) := by
  simp only [State.stranger]
  split
  · exact h.modEnrol _
  · exact (h.modEnrol _).raise _ _

theorem newAssignment (i : SlotId) (x : Serial) (p : Fin 8) (rtd : Half) : Keeps s (t.newAssignment i x p rtd) := by
  unfold State.newAssignment
  dsimp only
  split
  · split
    · exact ((h.assignSlot ..).modFlags.modEnrol _).startExchange i .assign
    · exact ((h.assignSlot ..).modEnrol _).startExchange i .assign
  · exact h.assignSlot ..

theorem checkFarFullNew (x : Serial) (p : Fin 8) (rtd : Int) : Keeps s (t.checkFarFullNew x p rtd) := by
  unfold State.checkFarFullNew
  split
  · split
    · exact h.stranger ..
    · exact h.newAssignment ..
  · exact h.stranger ..

theorem checkRejoin (i : SlotId) (x : Serial) (rtd : Int) : Keeps s (t.checkRejoin i x rtd) := by
  unfold State.checkRejoin
  dsimp only
  split
  · split
    · exact (h.rejoinSlot ..).startExchange i .assign
    · exact h.rejoinSlot ..
  · exact h.stranger ..

theorem candidate (x : Serial) (rtd : Int) : Keeps s (t.candidate x rtd) := by
  unfold State.candidate
  split
  · split
    case h_1 => exact h.severAgain _
    case h_2 | h_3 | h_4 =>
      split
      · exact h
      · exact h.checkRejoin ..
    all_goals exact h
  · split
    · exact h.stranger ..
    · split
      · exact h.stranger ..
      · exact h.checkFarFullNew ..

theorem clearLatch : Keeps s t.clearLatch := h.modTree id

theorem rollAnswer (rx : AnswerRx) (a : Identity) (n m : Round) : Keeps s (t.rollAnswer rx a n m) :=
  ((h.modRoll _).modRoll _).candidate _ _

theorem echoAnswer (rx : AnswerRx) (a : Identity) (e : EchoSpan) (n : Round) : Keeps s (t.echoAnswer rx a e n) := by
  unfold State.echoAnswer
  exact (h.modReception _).modEnrol _

theorem changeProfile (i : SlotId) (p : Fin 8) : Keeps s (t.changeProfile i p) := by
  unfold State.changeProfile
  dsimp only
  have ht : ∀ a short, Keeps s ((t.modSlot i fun r => { r with
      profile := some p, ceiling := (t.profileOf p).ceiling, tariff := some (t.profileOf p).tariff }).writeAssured i a
        short) := fun a short => h.modFlags.writeAssured i a short
  split
  · exact (ht _ _).topUp
  · exact ht _ _

theorem writeEntry (e : ProvisionEntry) : Keeps s (t.writeEntry e) := h.modEnrol _

theorem changeHeld (c : RxCommand) (i : SlotId) (e : ProvisionEntry) : Keeps s (t.changeHeld c i e) := by
  unfold State.changeHeld
  dsimp only
  split
  · exact (h.profileClose ..).modEnrol _
  · exact ((h.writeEntry e).changeProfile ..).answerCode c _

theorem provisionKnown (c : RxCommand) (o e : ProvisionEntry) : Keeps s (t.provisionKnown c o e) := by
  unfold State.provisionKnown
  split
  · exact (h.writeEntry e).answerCode c _
  · split
    · exact (h.writeEntry e).answerCode c _
    · exact h.changeHeld ..

theorem provisionBy (c : RxCommand) : Keeps s (t.provisionBy c) := by
  unfold State.provisionBy
  dsimp only
  split
  · split
    · exact h.answerCode c _
    · split
      · exact h.answerCode c _
      · split
        · exact h.provisionKnown ..
        · split
          · exact h.answerCode c _
          · exact (h.modEnrol _).answerCode c _
  · exact h.answerCode c _

theorem applyClose (p : ProfileClose) : Keeps s (t.applyClose p) := by
  unfold State.applyClose
  dsimp only
  split
  · exact h.answerCode _ _
  · split
    · exact ((h.writeEntry _).changeProfile ..).answerCode _ _
    · exact (h.writeEntry _).answerCode _ _

end Keeps

/-! ### The grant scheduler (R63 to R81) -/

namespace Keeps

variable {s t : State} (h : Keeps s t)
include h

theorem reserveWindow (n : Round) (p : Spans) : Keeps s (t.reserveWindow n p).1 := by
  unfold State.reserveWindow
  split
  · exact h
  · split
    · exact (h.modSched _).modSearch (f := (·.window n))
    · exact h

omit h in
theorem grantEcho {r : State × Spans} (h : Keeps s r.1) (n : Round) : Keeps s (State.grantEcho n r).1 := by
  unfold State.grantEcho
  split
  · exact h
  · dsimp only
    split
    · exact (h.modSched _).setTree (TreePort.bind_fits _ _ n _)
    · exact (h.modSched _).askAgain _

theorem grantRoll (n : Round) : Keeps s (t.grantRoll n) := by
  unfold State.grantRoll
  dsimp only
  split
  · split
    · exact (h.setTree (t.tree.bind_fits _ n _)).modSched _
    · exact h.same (by simp)
  · exact h

theorem unbindWhere (p : OrderEntry → Bool) : Keeps s (t.modTree (·.unbindWhere p)) :=
  h.modTree (t.tree.unbindWhere_fits p)

theorem askRollAgain : Keeps s t.askRollAgain := h.same (by simp)

theorem withdrawRoll : Keeps s t.withdrawRoll := by
  unfold State.withdrawRoll
  split
  · exact h
  · split
    · exact h
    · exact ((h.modSched _).unbindWhere _).askRollAgain

theorem passBindings (n : Round) : Keeps s (t.passBindings n) := by
  unfold State.passBindings
  dsimp only
  refine foldl (unbindWhere ?_ _) (fun u i => (refl u).askAgain i) _
  split
  · split
    · exact h.withdrawRoll
    · exact h
  · exact h

theorem takeFill (i : SlotId) (g : Gen) (fill : Nat) (n : Round) : Keeps s (t.takeFill i g fill n) := h.same (by simp)

theorem buildPlan (n : Round) : Keeps s (t.buildPlan n) := by
  unfold State.buildPlan
  dsimp only
  split
  · exact (((h.reserveWindow n _).grantEcho n).grantEcho n |>.grantRoll n).modSched _
  · exact h

end Keeps

/-! ### The downstream engine and its pool (R82 to R96) -/

namespace Keeps

variable {s t : State} (h : Keeps s t)
include h

theorem dropPacket (i : SlotId) (content : List Byte) : Keeps s (t.dropPacket i content) := h.offerUpdate ..

/-- A packet's blocks are taken from the free count only where it holds them (R83, R84). -/
theorem enqueue (i : SlotId) (content : List Byte) (hfree : t.queueRefuses i (blocksOf content) = false) :
    Keeps s (t.enqueue i content) := by
  have hroom : blocksOf content ≤ t.down.free := by
    simp only [State.queueRefuses, Bool.or_eq_false_iff, decide_eq_false_iff_not, Nat.not_lt] at hfree
    exact hfree.2
  have hblocks := heldBlocks_modQueue t i fun q => { q with packets := q.packets ++ [content] }
  unfold State.enqueue
  refine h.sameButQueues (by simp) (fun k => ?_) (by simp [State.MeterCounted])
  rw [poolConserved_iff] at k ⊢
  dsimp only
  rw [heldBlocks_modDown]
  simp only [State.queueBlocks, packetBlocks, List.map_append, List.sum_append, List.map_cons, List.map_nil,
    List.sum_cons, List.sum_nil] at hblocks
  simp only [State.modDown_down, Downstream.allocate, State.modQueue_down_free, State.modQueue_down_txBlocks]
  omega

/-- The blocks of the round in transmission go back to the free count (R89). -/
theorem endTransmission : Keeps s t.endTransmission := by
  have htree : Keeps s (t.modTree fun t => { t with txRound := none }) := h.modTree id
  unfold State.endTransmission
  dsimp only
  split
  · exact htree
  · refine htree.modDown fun k => ?_
    rw [poolConserved_iff] at k ⊢
    rw [heldBlocks_modDown]
    simp only [State.modTree_down, State.modDown_down, Downstream.giveBack] at k ⊢
    omega

theorem forward (i : SlotId) (packets : List (List Byte)) : Keeps s (t.forward i packets) := by
  unfold State.forward
  split
  · exact h
  · exact h.modDown id

end Keeps

theorem txBlocks_endTransmission (s : State) : s.endTransmission.down.txBlocks = 0 := by
  unfold State.endTransmission
  dsimp only
  split
  · next hb => exact hb
  · rfl

/-! ### The visits of a round (R87 to R89) -/

theorem openVisit_down (s : State) (i : SlotId) : (s.openVisit i).heldBlocks = s.heldBlocks
    ∧ (s.openVisit i).down.txBlocks = s.down.txBlocks ∧ (s.openVisit i).down.free = s.down.free := by
  refine ⟨?_, rfl, rfl⟩
  unfold State.openVisit
  dsimp only
  have hq := heldBlocks_modQueue (s.setPointer i) i
    fun k => if k.held then { k with held := false } else { k with deficit := k.deficit + s.quantum i }
  have hpackets : (if ((s.setPointer i).queue i).held then { (s.setPointer i).queue i with held := false } else
      { (s.setPointer i).queue i with deficit := ((s.setPointer i).queue i).deficit + s.quantum i }).packets =
        ((s.setPointer i).queue i).packets := by split <;> rfl
  rw [hpackets] at hq
  exact (Nat.add_right_cancel hq).trans (heldBlocks_congr rfl)

theorem takePacket_down {s : State} {i : SlotId} {p : List Byte} {rest : List (List Byte)}
    (hq : (s.queue i).packets = p :: rest) : (s.takePacket i p rest).heldBlocks + blocksOf p = s.heldBlocks
    ∧ (s.takePacket i p rest).down.txBlocks = s.down.txBlocks ∧ (s.takePacket i p rest).down.free = s.down.free := by
  have hframe : ∀ u : State, ∀ g kind b a, (u.offerUpdate i g kind b a).down = u.down := by simp
  refine ⟨?_, by simp [State.takePacket], by simp [State.takePacket]⟩
  unfold State.takePacket
  dsimp only
  rw [heldBlocks_congr (congrArg Downstream.queues (hframe ..))]
  have := heldBlocks_modQueue s i
    fun k => { k with packets := rest, deficit := if rest.isEmpty then 0 else k.deficit - p.length }
  simp only [State.queueBlocks, hq, packetBlocks, List.map_cons, List.sum_cons] at this
  omega

/-- The blocks of the packets taken in a round's visits are those that leave the queues. -/
theorem visits_down (fuel : Nat) (visit : Option SlotId) (budget : Nat) (s : State) :
    (State.visits fuel visit budget s).1.heldBlocks
        + packetBlocks ((State.visits fuel visit budget s).2.map (·.2)) = s.heldBlocks
      ∧ (State.visits fuel visit budget s).1.down.txBlocks = s.down.txBlocks
      ∧ (State.visits fuel visit budget s).1.down.free = s.down.free := by
  have hpointer : ∀ (u : State) i, (u.setPointer i).heldBlocks = u.heldBlocks := fun u i => heldBlocks_congr rfl
  induction fuel generalizing visit budget s with
  | zero => exact ⟨Nat.add_zero _, rfl, rfl⟩
  | succ fuel ih =>
    cases visit with
    | none =>
      unfold State.visits
      split
      · exact ⟨Nat.add_zero _, rfl, rfl⟩
      · next i _ =>
        obtain ⟨hb, htx, hfree⟩ := openVisit_down s i
        obtain ⟨ib, itx, ifree⟩ := ih (some i) budget (s.openVisit i)
        exact ⟨ib.trans hb, itx.trans htx, ifree.trans hfree⟩
    | some i =>
      unfold State.visits
      split
      · obtain ⟨ib, itx, ifree⟩ := ih none budget (s.setPointer (i + 1))
        exact ⟨ib.trans (hpointer ..), itx, ifree⟩
      · next p rest hq =>
        split
        · have hblocks := heldBlocks_modQueue s i fun k => { k with held := true }
          exact ⟨(Nat.add_zero _).trans (Nat.add_right_cancel hblocks), rfl, rfl⟩
        · split
          · obtain ⟨ib, itx, ifree⟩ := ih none budget (s.setPointer (i + 1))
            exact ⟨ib.trans (hpointer ..), itx, ifree⟩
          · obtain ⟨hb, htx, hfree⟩ := takePacket_down hq
            simp only [List.map_cons, packetBlocks, List.sum_cons] at ih ⊢
            split
            · obtain ⟨ib, itx, ifree⟩ := ih none (budget - p.length) ((s.takePacket i p rest).setPointer (i + 1))
              rw [hpointer] at ib
              exact ⟨by omega, itx.trans htx, ifree.trans hfree⟩
            · obtain ⟨ib, itx, ifree⟩ := ih (some i) (budget - p.length) (s.takePacket i p rest)
              exact ⟨by omega, itx.trans htx, ifree.trans hfree⟩

theorem takePacket_meterCounted (s : State) (i : SlotId) (p : List Byte) (rest : List (List Byte)) :
    s.MeterCounted → (s.takePacket i p rest).MeterCounted :=
  fun h => ((Keeps.refl (s.modQueue i fun k =>
    { k with packets := rest, deficit := if rest.isEmpty then 0 else k.deficit - p.length })).offerUpdate i _ .down
      p.length 0).meter h

theorem visits_meterCounted (fuel : Nat) (visit : Option SlotId) (budget : Nat) (s : State) :
    s.MeterCounted → (State.visits fuel visit budget s).1.MeterCounted := by
  induction fuel generalizing visit budget s with
  | zero => exact id
  | succ fuel ih =>
    cases visit with
    | none =>
      unfold State.visits
      split
      · exact id
      · next i _ => exact fun hm => ih (some i) budget (s.openVisit i) hm
    | some i =>
      unfold State.visits
      split
      · exact ih none budget (s.setPointer (i + 1))
      · next p rest _ =>
        split
        · exact id
        · split
          · exact ih none budget (s.setPointer (i + 1))
          · intro hm
            have ht := takePacket_meterCounted s i p rest hm
            dsimp only
            split
            · exact ih none _ ((s.takePacket i p rest).setPointer (i + 1)) ht
            · exact ih (some i) _ (s.takePacket i p rest) ht

/-- With no round in transmission, the blocks of the packets taken are those of the round composed (R85, R89). -/
theorem Keeps.composePayload {s t : State} (h : Keeps s t) (htx : t.down.txBlocks = 0) :
    Keeps s t.composePayload.1 := by
  obtain ⟨hblocks, -, hfree⟩ := visits_down 4096 none Config.roundBudget t
  refine h.sameButQueues (by simp) (fun k => ?_) (visits_meterCounted 4096 none Config.roundBudget t)
  rw [poolConserved_iff] at k ⊢
  unfold State.composePayload
  dsimp only
  rw [heldBlocks_modDown, State.modDown_down]
  dsimp only
  omega

end Sys2Proof.Machine
end

section
/-! PROOFS. What every operation keeps, sixth part: the stray-light watch, district time, the journal's publication, the
roster, the shelf link and the tree port. -/

namespace Sys2Proof.Machine

-- One thread elaborates this section: the text as a whole is near the memory limit of the check.
set_option Elab.async false

/-! ### The stray-light watch (R97 to R118) -/

/-- A baseline in range stays in range, whatever the sample's count (R98). -/
theorem judgeSample_le {threshold tracking b16 count : Nat} (hb : b16 ≤ 65520) (hc : count ≤ 4095) :
    (judgeSample threshold tracking b16 count).1 ≤ 65520 := by
  unfold judgeSample
  dsimp only
  split
  · exact hb
  · split
    · dsimp only
      omega
    · split
      · dsimp only
        omega
      · exact hb

theorem strikeCount_le (violation : Bool) {k : Nat} (hk : k ≤ 15) : strikeCount violation k ≤ 15 := by
  unfold strikeCount
  split <;> omega

namespace Keeps

variable {s t : State} (h : Keeps s t)
include h

theorem enterWatch (new : WatchState) : Keeps s (t.enterWatch new) := by
  unfold State.enterWatch
  dsimp only
  have hw : Keeps s (t.modWatch fun w => { w with
      state := new, since := t.now, retestHeld := false
      history := if w.state.searching && !new.searching then [] else w.history }) :=
    h.modWatch fun k => ⟨k.baseline, k.samples, by
      simp only [State.modWatch_watch]
      split
      · exact Nat.zero_le _
      · exact k.history, k.strikes⟩
  split
  · exact hw.withdrawRoll
  · exact hw.modSched _

theorem openTest (n : Nat) : Keeps s (t.openTest n) := by
  unfold State.openTest
  exact h.modSearch.modSched _

theorem enterConfirming : Keeps s t.enterConfirming := (h.enterWatch .confirming).openTest 4

theorem evidence : Keeps s t.evidence := by
  unfold State.evidence
  split
  · exact (h.enterWatch .alert).enterConfirming
  · exact h.enterConfirming
  all_goals exact h

theorem offerWatchOrder (w : WatchOrder) : Keeps s (t.offerWatchOrder w) := by
  unfold State.offerWatchOrder
  split
  · exact h
  · dsimp only
    have ho := h.offerOrder .urgent (if w.hush then .hush else .wake .watch) (some (w.slot, w.gen))
    generalize t.offerOrder .urgent (if w.hush then .hush else .wake .watch) (some (w.slot, w.gen)) = o at ho ⊢
    split
    · split
      · exact ho.modSearch.modFlags
      · exact ho.modSearch
    · exact ho
    · exact ho
    · split
      · exact ho.settleCheck
      · exact ho.modFlags.settleCheck

theorem offerWatchOrders : Keeps s t.offerWatchOrders := h.foldl (fun u w => (refl u).offerWatchOrder w) _

theorem beginStage (cands : List (SlotId × Gen)) (stage : LocateStage) (members : List (SlotId × Gen)) :
    Keeps s (t.beginStage cands stage members) := by
  unfold State.beginStage
  exact h.settleCheck.offerWatchOrders

theorem search (cands : List (SlotId × Gen)) : Keeps s (t.search cands) := by
  unfold State.search
  split <;> exact h.beginStage ..

theorem startLocate : Keeps s t.startLocate := by
  unfold State.startLocate
  split
  · split
    · exact h.search _
    · exact h
  · exact h

theorem unlocated (last : Option SlotId) : Keeps s (t.unlocated last) := by
  unfold State.unlocated
  exact ((h.raise _ _).modSearch.enterWatch _).offerWatchOrders

theorem located (c : SlotId × Gen) : Keeps s (t.located c) := by
  unfold State.located
  exact (h.modSearch.enterWatch _).barRequest ..

theorem intermittent : Keeps s t.intermittent := by
  unfold State.intermittent
  exact h.modSearch.enterWatch _

theorem enterLocating : Keeps s t.enterLocating := by
  unfold State.enterLocating
  dsimp only
  split
  · exact (h.enterWatch _).unlocated none
  · exact (h.enterWatch _).modSearch.startLocate

theorem confirmOutcome (violated : Nat) : Keeps s (t.confirmOutcome violated) := by
  unfold State.confirmOutcome
  split
  · exact (h.raise _ _).enterLocating
  · exact h.enterWatch _

theorem retestOutcome (violated : Nat) : Keeps s (t.retestOutcome violated) := by
  unfold State.retestOutcome
  dsimp only
  split
  · exact (h.enterWatch _).raise _ _
  · exact h.modSearch

theorem locateOutcome (violated : Nat) : Keeps s (t.locateOutcome violated) := by
  unfold State.locateOutcome
  split
  · exact h
  · split
    · exact h
    · unfold State.afterStep
      split
      · exact h.unlocated none
      · exact h.search _
    · split
      · exact h.beginStage ..
      · exact h.unlocated _
    · split
      · exact h.intermittent
      · exact h.located _
    all_goals exact h.unlocated none

theorem testOutcome (violated : Nat) : Keeps s (t.testOutcome violated) := by
  have ht : Keeps s (t.modWatch fun w => { w with test := none }) := h.modSearch
  unfold State.testOutcome
  dsimp only
  split
  · exact ht.confirmOutcome violated
  · exact ht.locateOutcome violated
  · exact ht.retestOutcome violated
  all_goals exact ht

theorem strikeTail (violation : Bool) (i : SlotId) (g : Gen) : Keeps s (t.strikeTail violation i g) := by
  unfold State.strikeTail
  have ht := h.modStrikes i (f := fun k => { k with tail := strikeCount violation (t.strikes i).tail })
    fun ⟨ha, hb⟩ => ⟨strikeCount_le violation ha, hb⟩
  split
  · dsimp only
    split
    · exact ht.barRequest ..
    · exact ht
  · exact h

theorem strikeHead (violation : Bool) (i : SlotId) (g : Gen) : Keeps s (t.strikeHead violation i g) := by
  unfold State.strikeHead
  split
  · dsimp only
    split
    · exact (h.modStrikes i fun ⟨ha, _⟩ => ⟨ha, Nat.zero_le _⟩).modEnrol _
    · exact h.modStrikes i fun ⟨ha, hb⟩ => ⟨ha, strikeCount_le violation hb⟩
  · exact h

theorem scoreGuard (c : GuardSample) : Keeps s (t.scoreGuard c) := by
  unfold State.scoreGuard
  dsimp only
  have ht : Keeps s (match c.before with
      | some (i, g) => t.strikeTail c.violation i g
      | none => t) := by
    split
    · exact h.strikeTail ..
    · exact h
  split
  · exact ht.strikeHead ..
  · exact ht

theorem scoreRound (c : RoundScore) : Keeps s (t.scoreRound c) := by
  unfold State.scoreRound
  have hg : Keeps s (if c.flooded then t else c.guards.foldl State.scoreGuard t) := by
    split
    · exact h
    · exact h.foldl (fun u g => (refl u).scoreGuard g) _
  generalize (if c.flooded then t else c.guards.foldl State.scoreGuard t) = u at hg ⊢
  have hh : Keeps s (u.modWatch fun w =>
      { w with history := strikeHistory w.history c.dark, since := if c.dark then u.now else w.since }) :=
    hg.modWatch fun k => ⟨k.baseline, k.samples, List.length_take_le .., k.strikes⟩
  dsimp only
  generalize u.modWatch (fun w =>
    { w with history := strikeHistory w.history c.dark, since := if c.dark then u.now else w.since }) = v at hh ⊢
  split
  · exact hh.evidence
  · exact hh

theorem judgeWindow (n : Round) (c : RoundScore) : Keeps s (t.judgeWindow n c) := by
  unfold State.judgeWindow
  split
  · exact h
  · dsimp only
    split
    · split
      · exact h.testOutcome _
      · exact h.modSearch
    · exact h

theorem judge {count : Nat} (hc : count ≤ 4095) : Keeps s (t.judge count).1 := by
  unfold State.judge
  refine h.modWatch (f := fun w => { w with b16 := _ }) fun k => ⟨?_, k.samples, k.history, k.strikes⟩
  exact judgeSample_le k.baseline hc

theorem guardSample (p : Plan) (k : Nat) {count : Nat} (hc : count ≤ 4095) : Keeps s (t.guardSample p k count) := by
  unfold State.guardSample
  split
  · exact h
  · exact (h.judge hc).modSearch

theorem quietSample (p : Plan) (offset : Nat) {count : Nat} (hc : count ≤ 4095) :
    Keeps s (t.quietSample p offset count) := by
  unfold State.quietSample
  split
  · exact (h.judge hc).modSearch
  · exact h

theorem beginHeldRetest : Keeps s t.beginHeldRetest := by
  unfold State.beginHeldRetest
  split
  · exact h.modSearch.openTest 4
  · exact h

theorem offerWakeDue (i : SlotId) : Keeps s (t.offerWakeDue i) := by
  unfold State.offerWakeDue
  split
  · exact h
  · dsimp only
    split
    · exact (h.offerOrder ..).modFlags
    all_goals exact h.offerOrder ..

theorem hushedToWake (i : SlotId) : Keeps s (t.hushedToWake i) := h.modFlags

theorem watchRetreat : Keeps s t.watchRetreat := by
  unfold State.watchRetreat
  refine (modWatch (h.forSlots fun u i => (refl u).hushedToWake i) fun k => ?_).enterWatch .clear
  refine ⟨k.baseline, k.samples, Nat.zero_le _, fun i => ?_⟩
  simp [State.strikes, State.modWatch, Vector.get_eq_getElem]

end Keeps

/-! ### Metering, and the journal's publication (R121, R142 to R150) -/

namespace Keeps

variable {s t : State} (h : Keeps s t)
include h

theorem creditUpdate (u : MeterUpdate) : Keeps s (t.creditUpdate u) := by
  unfold State.creditUpdate
  split
  · exact h
  · exact ((h.ensureOpen _).credit ..).fold _

/-- A write to the journal that spares its entries and its pointers. -/
theorem modPublish {f : Journal → Journal} (hr : (f t.journal).records = t.journal.records := by rfl)
    (ho : (f t.journal).oldest = t.journal.oldest := by rfl)
    (hp : (f t.journal).publish = t.journal.publish := by rfl)
    (ha : (f t.journal).append = t.journal.append := by rfl) : Keeps s (t.modJournal f) := by
  have hheld : (f t.journal).held = t.journal.held := by simp [Journal.held, ho, ha]
  have hsent : (f t.journal).sent = t.journal.sent := by simp [Journal.sent, ho, hp]
  refine h.modJournal (fun k => ⟨by rw [hheld, hr]; exact k.held, hheld ▸ k.capacity, hheld ▸ hsent ▸ k.sent, ?_⟩) ?_
  · simpa only [hr, ho] using k.numbered
  · intro r hu
    rw [Journal.IsUnsent, hheld, hsent, ho]
    exact hu

end Keeps

/-- The record offered for publication bears the number of P, an UNSENT entry (R138, R142). -/
theorem Journal.nextRecord_isUnsent {j : Journal} {r : UsageRecord} (hj : j.Ordered) (h : j.nextRecord = some r) :
    j.IsUnsent r := by
  unfold Journal.nextRecord at h
  split at h
  · obtain ⟨hlt, rfl⟩ := List.getElem?_eq_some_iff.mp h
    have hcap := hj.capacity
    have hheld := hj.held
    have hoff : (j.records[j.sent].seq - j.oldest).toNat = j.sent := by
      rw [hj.numbered j.sent hlt]
      simp only [Config.journalEntries] at hcap
      bv_omega
    unfold Journal.IsUnsent
    omega
  · cases h

/-- A USAGE frame whose record meets `Q`, offered. -/
theorem Link.offer_usage_carries {l : Link} {r : UsageRecord} {Q : UsageRecord → Prop} (hr : Q r) :
    l.Carries Q → (l.offer (.usage r)).1.Carries Q := by
  intro h
  unfold Link.offer
  split
  · exact h
  · next hroom =>
    obtain ⟨-, hnone⟩ : l.queue.length < Config.queueFrames ∧ ∀ e ∈ l.queue, e.message.isUsage = false := by
      simpa [Message.isUsage] using hroom
    have hcount : l.queue.countP (·.message.isUsage) = 0 := by simpa [List.countP_eq_zero] using hnone
    refine ⟨by rw [List.countP_append, hcount]; simp [Message.isUsage], fun e he q hq => ?_, h.backlog⟩
    rcases List.mem_append.mp he with he | he
    · exact h.inQueue e he q hq
    · obtain rfl := List.mem_singleton.mp he
      obtain rfl : r = q := by simpa using hq
      exact hr

/-- A distance measured from a pointer that has moved up by no more than it. -/
theorem toNat_sub_add_ofNat {a o : Seq} {k : Nat} (hk : k ≤ (a - o).toNat) :
    (a - (o + BitVec.ofNat 32 k)).toNat = (a - o).toNat - k := by
  have hsub : a - (o + BitVec.ofNat 32 k) = a - o - BitVec.ofNat 32 k := sub_add_eq_sub_sub ..
  rw [hsub]
  generalize a - o = d at hk
  bv_omega

/-- Entries freed up to the SENT ones (R145). -/
theorem Journal.free_ordered {j : Journal} {k : Nat} (hk : k ≤ j.sent) (h : j.Ordered) :
    (j.free k).Ordered ∧ ∀ r, j.IsUnsent r → (j.free k).IsUnsent r := by
  have hcap : j.held ≤ 512 := h.capacity
  have hsent := h.sent
  have hheld := h.held
  have hheld' : (j.free k).held = j.held - k := toNat_sub_add_ofNat (hk.trans hsent)
  have hsent' : (j.free k).sent = j.sent - k := toNat_sub_add_ofNat hk
  refine ⟨⟨?_, ?_, ?_, fun m hm => ?_⟩, fun r ⟨hlo, hhi⟩ => ?_⟩
  · rw [hheld', hheld]
    exact (List.length_drop ..).symm
  · exact hheld'.trans_le ((Nat.sub_le ..).trans hcap)
  · omega
  · have hm' : k + m < j.records.length := by
      simp [Journal.free] at hm
      omega
    have := h.numbered (k + m) hm'
    simp only [Journal.free, List.getElem_drop, this]
    rw [BitVec.ofNat_add, BitVec.add_assoc]
  · have hoff : (r.seq - (j.free k).oldest).toNat = (r.seq - j.oldest).toNat - k :=
      toNat_sub_add_ofNat (hk.trans hlo)
    unfold Journal.IsUnsent
    omega

namespace Keeps

variable {s t : State} (h : Keeps s t)
include h

theorem offerUsage : Keeps s t.offerUsage := by
  unfold State.offerUsage
  split
  · next r _ hr =>
    split
    · next l ho =>
      have hl : l = (t.link.offer (.usage r)).1 := by rw [ho]
      refine Keeps.modPublish (t := t.modLink fun _ => l) (h.trans (of_blocks id (fun k => ?_) id (fun hj hc => ⟨hj, ?_⟩)
        id id id (fun k => ⟨k.baseline, k.samples, k.history, k.strikes⟩) id id))
      · have g := t.link.offer_fits (.usage r) ⟨k.1, k.2.1, k.2.2⟩
        exact hl ▸ ⟨g.queue, g.oneUsage, g.alerts⟩
      · exact hl ▸ Link.offer_usage_carries (Journal.nextRecord_isUnsent hj hr) hc
    · exact h
  · exact h

theorem pacingTick : Keeps s t.pacingTick := by
  unfold State.pacingTick
  dsimp only
  split
  · exact h.modPublish.offerUsage
  · exact h

theorem acknowledge (q : Seq) : Keeps s (t.acknowledge q) := by
  have hk : t.journal.ackFrees q ≤ t.journal.sent := by
    unfold Journal.ackFrees
    dsimp only
    split
    · exact Nat.zero_le _
    · exact Nat.min_le_right ..
  unfold State.acknowledge
  dsimp only
  split
  · exact h
  · refine entriesFreed (h.trans (of_blocks id id id (fun hj hl => ?_) id id id
      (fun k => ⟨k.baseline, k.samples, k.history, k.strikes⟩) id id))
    obtain ⟨hord, hunsent⟩ := Journal.free_ordered hk hj
    exact ⟨hord, hl.oneUsage, fun e he r hr => hunsent r (hl.inQueue e he r hr), hl.backlog⟩

end Keeps

/-! ### District time (R189 to R193) -/

/-- Under CONFIG FAULT no rule changes the time state or sends a beacon. -/
def State.TimeRuns (s : State) : Prop := s.FaultTimeUnset → s.clock.phase ≠ .configFault

theorem timeRuns_of_state {s : State} (h : s.clock.state ≠ .unset) : s.TimeRuns := fun k hp => h (k hp).1

theorem timeRuns_of_beacon {s : State} (h : s.clock.beacon ≠ .none) : s.TimeRuns := fun k hp => h (k hp).2.2

namespace Keeps

variable {s t : State} (h : Keeps s t)
include h

/-- A write to the clock that spares the phase, the image, the time state, the trim and the beacon. -/
theorem modCount {f : Clock → Clock} (hp : (f t.clock).phase = t.clock.phase := by rfl)
    (hi : (f t.clock).image = t.clock.image := by rfl) (hs : (f t.clock).state = t.clock.state := by rfl)
    (ht : (f t.clock).trim = t.clock.trim := by rfl) (hb : (f t.clock).beacon = t.clock.beacon := by rfl) :
    Keeps s (t.modClock f) :=
  h.modClock (by simp [State.ConfigInRange, hi]) (by simp [State.FaultTimeUnset, hp, hs, ht, hb])

/-- A write to the clock while time runs, which spares the phase and the image. -/
theorem modTime (hrun : t.TimeRuns) {f : Clock → Clock} (hp : (f t.clock).phase = t.clock.phase := by rfl)
    (hi : (f t.clock).image = t.clock.image := by rfl) : Keeps s (t.modClock f) :=
  h.modClock (by simp [State.ConfigInRange, hi]) fun k hphase => absurd (hp ▸ hphase) (hrun k)

theorem advanceTime : Keeps s t.advanceTime := by
  have ht : Keeps s (t.modClock Clock.advance) := h.modCount
  unfold State.advanceTime
  dsimp only
  split
  · exact ht
  · exact ht.reevaluateBand

theorem enterTime (hrun : t.TimeRuns) (new : TimeState) : Keeps s (t.enterTime new) := by
  have ht : Keeps s (t.modClock fun c => { c with state := new, trim := if new = .coasting then 0 else c.trim }) :=
    h.modTime hrun
  unfold State.enterTime
  dsimp only
  generalize t.modClock (fun c => { c with state := new, trim := if new = .coasting then 0 else c.trim }) = u at ht ⊢
  split
  · exact (ht.modTallies (f := Meter.coastMarks)).reevaluateBand
  · exact ht.reevaluateBand

theorem offerBeacon (hrun : t.TimeRuns) : Keeps s t.offerBeacon := by
  have hkeep : t.link.Keeps (t.link.offer (.time t.clock.state)).1 := Link.offer_keeps rfl
  unfold State.offerBeacon
  split
  · next l ho =>
    rw [ho] at hkeep
    exact (h.modLink (f := fun _ => l) hkeep).modTime hrun
  · exact h.modTime hrun

theorem offerWaitingBeacon : Keeps s t.offerWaitingBeacon := by
  unfold State.offerWaitingBeacon
  split
  · next hw => exact h.offerBeacon (timeRuns_of_beacon (by simp [hw]))
  · exact h

theorem stepTime (d : DTime) : Keeps s (t.stepTime d) := by
  have ht := ((h.modCount (f := fun c => { c with time := d })).modTallies (f := Meter.stepMarks)).reevaluateBand
  unfold State.stepTime
  dsimp only
  split
  · exact ht.modTallies
  · exact ht

theorem stepBy (m : Int) : Keeps s (t.stepBy m) := by
  unfold State.stepBy
  refine (h.modClock id fun k hp => ?_).stepTime _
  obtain ⟨hs, -, hb⟩ := k hp
  exact ⟨hs, rfl, hb⟩

omit h in
theorem stepBy_phase (t : State) (m : Int) : (t.stepBy m).clock.phase = t.clock.phase := by
  simp [State.stepBy, State.stepTime]
  split <;> simp

theorem correct (hset : t.clock.state = .set) : Keeps s t.correct := by
  have ht : Keeps s (t.modClock fun c => { c with peers := c.peers.filter fun p => !p.stale t.now }) := h.modCount
  unfold State.correct
  dsimp only
  split
  · exact ht.modTime (timeRuns_of_state (by simp [hset]))
  · exact ht.stepBy _

theorem secondTick : Keeps s t.secondTick := by
  unfold State.secondTick
  have ht : Keeps s (t.modClock fun c => { c with secondCount := c.secondCount % Config.secondRounds }) := h.modCount
  generalize t.modClock (fun c => { c with secondCount := c.secondCount % Config.secondRounds }) = u at ht ⊢
  have hc : Keeps s (if u.clock.state = .set then u.correct else u) := by
    split
    · next hset => exact ht.correct hset
    · exact ht
  dsimp only
  generalize (if u.clock.state = .set then u.correct else u) = v at hc ⊢
  split
  · split
    · next hb => exact hc.offerBeacon (timeRuns_of_state hb.1)
    · exact hc
  · exact h

theorem takeTime (hphase : t.clock.phase ≠ .configFault) (source : Byte) (sender : TimeState) (d : DTime) :
    Keeps s (t.takeTime source sender d) := by
  unfold State.takeTime
  split
  · exact h
  · dsimp only
    have ht : Keeps s (t.modClock fun c => { c with
        peers := recordOffset c.peers { station := source, offset := (d.toNat : Int) - (t.link.noted.toNat : Int), round := t.now }
        lastTime := t.now }) := h.modCount
    split
    · exact (ht.stepBy _).enterTime (fun _ => (stepBy_phase ..).trans_ne hphase) .set
    · exact ht
    · exact ht.enterTime (fun _ => hphase) .set

end Keeps

end Sys2Proof.Machine
end

section
/-! PROOFS. What every step keeps (O56 to O60): the roster, the shelf link, the tree port and start-up, then each command, and
the invariants themselves. -/

namespace Sys2Proof.Machine

-- One thread elaborates this section: the text as a whole is near the memory limit of the check.
set_option Elab.async false

/-! ### The roster (R167 to R180) -/

/-- Messages that are no USAGE, offered until one is refused. -/
theorem offerAll_keeps {α : Type} {frame : α → Message} (hf : ∀ a, (frame a).isUsage = false) (as : List α) (l : Link) :
    l.Keeps (offerAll frame as l).2 := by
  induction as generalizing l with
  | nil => exact .refl l
  | cons a as ih =>
    unfold offerAll
    split
    · next l' ho =>
      have hkeep : l.Keeps l' := by simpa [ho] using Link.offer_keeps (l := l) (hf a)
      exact hkeep.trans (ih l')
    · exact .refl l

namespace Keeps

variable {s t : State} (h : Keeps s t)
include h

theorem updateContested (x : Serial) : Keeps s (t.updateContested x) := by
  unfold State.updateContested
  split
  · exact h
  · exact h.modFlags

theorem evictClaim : Keeps s t.evictClaim := by
  unfold State.evictClaim
  split
  · split
    · exact h
    · exact (h.modRoster _).updateContested _
  · exact h

theorem recordClaim (x : Serial) (p : Byte) (d : DTime) : Keeps s (t.recordClaim x p d).1 := by
  unfold State.recordClaim
  dsimp only
  split
  · dsimp only
    exact h.modRoster _
  · exact (h.evictClaim.modRoster _).updateContested x

theorem contest (i : SlotId) (x : Serial) (p : Byte) (d : DTime) (standing inserted : Bool) :
    Keeps s (t.contest i x p d standing inserted) := h.same (by simp)

theorem takeClaim (p : Byte) (x : Serial) (d : DTime) (standing : Bool) : Keeps s (t.takeClaim p x d standing) := by
  unfold State.takeClaim
  dsimp only
  split
  · exact h.recordClaim x p d
  · exact (h.recordClaim x p d).contest ..

theorem takeRelease (p : Byte) (x : Serial) : Keeps s (t.takeRelease p x) := by
  unfold State.takeRelease
  split
  · exact (h.modRoster _).updateContested x
  · exact h

theorem takeBar (p : Byte) (x : Serial) (reason : BarReason) (d : DTime) : Keeps s (t.takeBar p x reason d) :=
  h.same (by simp)

theorem takeUnbar (x : Serial) : Keeps s (t.takeUnbar x) := h.same (by simp)

/-- The link replaced by one that has taken frames. -/
theorem setLink {l : Link} (hl : t.link.Keeps l) : Keeps s (t.modLink fun _ => l) := h.modLink hl

theorem offerBars : Keeps s t.offerBars.1 := by
  unfold State.offerBars
  dsimp only
  exact (h.setLink (offerAll_keeps (frame := PendingBar.frame) (fun _ => rfl) _ _)).modRoster _

theorem offerReleases : Keeps s t.offerReleases.1 := by
  unfold State.offerReleases
  dsimp only
  exact (h.setLink (offerAll_keeps (frame := Message.release) (fun _ => rfl) _ _)).modRoster _

omit h in
theorem claimOf_isUsage {t : State} {i : SlotId} {m : Message} (hm : t.claimOf i = some m) : m.isUsage = false := by
  unfold State.claimOf at hm
  split at hm
  · obtain rfl := Option.some.inj hm
    rfl
  · cases hm

theorem offerClaims (is : List SlotId) : Keeps s (State.offerClaims is t) := by
  induction is generalizing t with
  | nil => exact h
  | cons i is ih =>
    unfold State.offerClaims
    split
    · exact ih (h.setClaimDue i none)
    · next m hm =>
      split
      · next l ho =>
        have hkeep : t.link.Keeps l := by simpa [ho] using Link.offer_keeps (l := t.link) (claimOf_isUsage hm)
        exact ih ((h.setLink hkeep).setClaimDue i none)
      · exact h

theorem offerRoster : Keeps s t.offerRoster := by
  unfold State.offerRoster
  dsimp only
  split
  · split
    · exact h.offerBars.offerReleases.offerClaims _
    · exact h.offerBars.offerReleases
  · exact h.offerBars

end Keeps

/-! ### The shelf link (R151 to R165) -/

namespace Keeps

variable {s t : State} (h : Keeps s t)
include h

theorem dispatchFrame (f : RxFrame) : Keeps s (t.dispatchFrame f) := by
  unfold State.dispatchFrame
  split
  · split
    · exact h
    · next hphase => exact h.takeTime hphase ..
  · exact h.takeClaim ..
  · exact h.takeRelease ..
  · exact h.takeBar ..
  · split
    · exact h.takeUnbar _
    · exact h
  · split
    · exact h.modPublish
    · exact h
  · split
    · exact h.modLink (.same rfl rfl rfl)
    · exact h

theorem dispatchCommand (c : RxCommand) : Keeps s (t.dispatchCommand c) := by
  have hr : Keeps s (t.rememberCommand c) := h.modLink (.same rfl rfl rfl)
  unfold State.dispatchCommand
  dsimp only
  split
  · exact hr.answerCode c _
  · split
    · exact hr.modLink (.same rfl rfl rfl)
    · exact hr.answerCode c _

theorem countFlight : Keeps s t.countFlight := h.modLink (.same rfl rfl rfl)

theorem compareCommand (c : RxCommand) : Keeps s (t.compareCommand c) := by
  unfold State.compareCommand
  split
  · exact h.countFlight.dispatchCommand c
  · split
    · split
      · exact h.countFlight.answerPlain ..
      · exact h
    · exact h.countFlight.dispatchCommand c

theorem takeCommandFrame (c : RxCommand) : Keeps s (t.takeCommandFrame c) := by
  unfold State.takeCommandFrame
  split
  · exact h
  · split
    · exact h.compareCommand c
    · exact h.countFlight.answerPlain ..

end Keeps

/-- Without a USAGE frame in the queue any numbers will do. -/
theorem Link.Carries.of_none {l : Link} {Q : UsageRecord → Prop} (h : l.Carries Q)
    (hnone : ∀ e ∈ l.queue, e.message.isUsage = false) (Q' : UsageRecord → Prop) : l.Carries Q' := by
  refine ⟨h.oneUsage, fun e he r hr => ?_, h.backlog⟩
  have := hnone e he
  rw [hr] at this
  cases this

/-- The one USAGE frame taken out of the queue leaves none (R154). -/
theorem Link.none_after_usage {l : Link} {e : TxEntry} (he : e ∈ l.queue) (hu : e.message.isUsage = true)
    (hone : l.queue.countP (·.message.isUsage) ≤ 1) : ∀ k ∈ l.queue.filter (·.age != e.age), k.message.isUsage = false := by
  have herase : (l.queue.erase e).countP (·.message.isUsage) = 0 := by
    rw [List.countP_erase, if_pos ⟨he, hu⟩]
    omega
  intro k hk
  obtain ⟨hmem, hage⟩ := List.mem_filter.mp hk
  have hne : k ≠ e := by
    rintro rfl
    simp at hage
  simpa using List.countP_eq_zero.mp herase k ((List.mem_erase_of_ne hne).mpr hmem)

/-- P moved past the entry just sent (R143). -/
theorem Journal.reportSent_ordered {j : Journal} {r : UsageRecord} (h : j.Ordered) (hr : j.IsUnsent r) :
    (j.reportSent r.seq).Ordered := by
  unfold Journal.reportSent
  dsimp only
  split
  · next hp =>
    obtain ⟨hlo, hhi⟩ := hr
    have hcap : j.held ≤ 512 := h.capacity
    have hsent : (j.publish + 1 - j.oldest).toNat = (r.seq - j.oldest).toNat + 1 := by
      rw [hp] at hlo hhi ⊢
      rw [add_sub_right_comm]
      generalize j.publish - j.oldest = d at hlo hhi
      bv_omega
    exact ⟨h.held, h.capacity, hsent.trans_le hhi, h.numbered⟩
  · exact ⟨h.held, h.capacity, h.sent, h.numbered⟩

namespace Keeps

variable {s t : State} (h : Keeps s t)
include h

/-- A frame that leaves the queue, and the report to its source (R143, R157, R191). -/
theorem releaseFrame {e : TxEntry} (he : e ∈ t.link.queue) (o : SendReport) : Keeps s (t.releaseFrame e o) := by
  have hgone : t.link.Keeps { t.link with
      queue := t.link.queue.filter (·.age != e.age), phase := .idle, rival := none, silence := 0 } :=
    Link.filter_keeps (fun k => k.age != e.age) rfl rfl rfl
  have hlink := h.setLink hgone
  unfold State.releaseFrame State.reportFrame
  split
  · next r hr =>
    have hu : e.message.isUsage = true := by simp [hr, Message.isUsage]
    refine h.trans (of_blocks id (setLink (refl t) hgone).link id (fun hj hl => ⟨?_, ?_⟩) id id id
      (fun k => ⟨k.baseline, k.samples, k.history, k.strikes⟩) id id)
    · cases o with
      | sent => exact Journal.reportSent_ordered hj (hl.inQueue e he r hr)
      | abandoned => exact ⟨hj.held, hj.capacity, hj.sent, hj.numbered⟩
    · exact (hgone.carries _ hl).of_none (Link.none_after_usage he hu hl.oneUsage) _
  · exact hlink.modClock id fun k hp => ⟨(k hp).1, (k hp).2.1, rfl⟩
  all_goals exact hlink

theorem rivalOffer (r : RivalOffer) : Keeps s (t.rivalOffer r) := by
  unfold State.rivalOffer
  split
  · exact h.offerRoster.offerWaitingBeacon
  · exact h.secondTick
  · exact h.pacingTick

theorem removeFrame {e : TxEntry} (he : e ∈ t.link.queue) (o : SendReport) : Keeps s (t.removeFrame e o) := by
  have hr := h.releaseFrame he o
  unfold State.removeFrame
  dsimp only
  refine modLink ?_ (Link.drainBacklog_keeps _)
  split
  · exact hr.rivalOffer _
  · exact hr

end Keeps

theorem sendingEntry_mem {l : Link} {e : TxEntry} (h : l.sendingEntry = some e) : e ∈ l.queue := by
  unfold Link.sendingEntry at h
  split at h
  · exact List.mem_of_find?_eq_some h
  all_goals cases h

/-! ### The tree port (R1 to R4, R28, R186, R187) -/

namespace Keeps

variable {s t : State} (h : Keeps s t)
include h

theorem enterLit : Keeps s t.enterLit :=
  forSlots ((h.modTree id).modRoll _) fun u i => (refl u).startExchange i .resume

theorem enterCalibrating : Keeps s t.enterCalibrating := by
  unfold State.enterCalibrating
  exact h.modTree id

theorem darkSlot (i : SlotId) : Keeps s (t.darkSlot i) := by
  unfold State.darkSlot
  split
  · next hst => exact h.enterHeld (by simp [hst])
  · next hst => exact h.enterHeld (by simp [hst])
  · next hst =>
    split
    · exact h.loseSlot (by simp [hst])
    · exact h.abandonAssignment i
  all_goals exact h

/-- The issued-plan records discarded, in whatever state of the tree port (R4, R90). -/
theorem dropIssued {f : TreePort → TreePort} (hu : (f t.tree).urgent = t.tree.urgent := by rfl)
    (hn : (f t.tree).normal = t.tree.normal := by rfl) (hi : (f t.tree).issued = [] := by rfl)
    (hr : (f t.tree).received = t.tree.received := by rfl) : Keeps s (t.modTree f) :=
  h.modTree fun ⟨ku, kn, _, kr⟩ => ⟨hu ▸ ku, hn ▸ kn, hi ▸ Nat.zero_le _, hr ▸ kr⟩

theorem enterDark : Keeps s t.enterDark := by
  unfold State.enterDark
  refine Keeps.modSched (Keeps.modEnrol (forSlots ?_ fun u i => (refl u).darkSlot i) _) _
  exact (h.endTransmission.dropIssued.abandonWhere _).watchRetreat

/-- Calibration samples discarded (R99). -/
theorem dropSamples : Keeps s (t.modWatch fun w => { w with calib := [] }) :=
  h.modWatch fun k => ⟨k.baseline, by simp, k.history, k.strikes⟩

theorem failTree : Keeps s t.failTree := by
  unfold State.failTree
  split
  · exact (h.modTree id).dropSamples
  · exact h.enterDark
  all_goals exact h

theorem noteFailure : Keeps s t.noteFailure := by
  unfold State.noteFailure
  split
  · exact h
  · exact h.modCount.raise _ _

theorem switchIn : Keeps s t.switchIn := by
  have ht : Keeps s (t.modClock fun c => { c with osc := .line, edges := Config.countEdges, edgeLatch := true }) :=
    h.modCount
  unfold State.switchIn
  dsimp only
  split
  · exact ht.modCount.raise _ _
  · exact ht

end Keeps

/-! ### Start-up (R183 to R185) -/

theorem clamp_mem {lo hi : Nat} (h : lo ≤ hi) (v : Nat) : lo ≤ clamp lo hi v ∧ clamp lo hi v ≤ hi := by
  unfold clamp
  omega

theorem ofBE_field_lt (bs : List Byte) (k n : Nat) : fieldNat bs k n < 256 ^ n := by
  have hfold : ∀ (l : List Byte) (a : Nat), l.foldl (fun a b => 256 * a + b.toNat) a < (a + 1) * 256 ^ l.length := by
    intro l
    induction l with
    | nil => simp
    | cons b l ih =>
      intro a
      refine (ih _).trans_le ?_
      have hb : b.toNat < 256 := b.isLt
      rw [List.length_cons, pow_succ', ← Nat.mul_assoc]
      refine Nat.mul_le_mul_right _ ?_
      dsimp only
      omega
  refine (hfold (field bs k n) 0).trans_le ?_
  rw [Nat.zero_add, Nat.one_mul]
  exact Nat.pow_le_pow_right (by decide) (List.length_take_le ..)

theorem imageProfile_inRange (bs : List Byte) (p : Nat) : (imageProfile bs p).InRange := by
  have hA : min (fieldNat bs (15 + 8 * p) 2) 256 ≤ 256 := Nat.min_le_right ..
  obtain ⟨hc, hC⟩ := clamp_mem (hA.trans (by decide : 256 ≤ 1024)) (fieldNat bs (15 + 8 * p + 2) 2)
  obtain ⟨hq, hQ⟩ := clamp_mem (by decide : 16 ≤ 1024) (fieldNat bs (15 + 8 * p + 5) 2)
  obtain ⟨hw, hW⟩ := clamp_mem (by decide : 1 ≤ 8) (fieldNat bs (15 + 8 * p + 7) 1)
  exact ⟨hA, hc, hC, hq, hQ, hw, hW⟩

theorem imagePrices_inRange (bs : List Byte) (j : Nat) : (imagePrices bs j).InRange :=
  ⟨Nat.le_of_lt_succ (ofBE_field_lt ..), Nat.le_of_lt_succ (ofBE_field_lt ..), Nat.le_of_lt_succ (ofBE_field_lt ..)⟩

theorem clampInterval_allowed (v : Nat) : clampInterval v = 5 ∨ clampInterval v = 10 ∨ clampInterval v = 15
    ∨ clampInterval v = 30 ∨ clampInterval v = 60 := by
  unfold clampInterval
  split
  · simp
  · split
    · simp
    · split
      · simp
      · split <;> simp

/-- An image is brought into range item by item (R184). -/
theorem imageConfig_inRange (bs : List Byte) : (imageConfig bs).InRange where
  stations := ⟨Nat.min_le_right .., Nat.min_le_right ..⟩
  budget := Nat.min_le_right ..
  poll := clamp_mem (by decide) _
  rollPeriod := clamp_mem (by decide) _
  threshold := clamp_mem (by decide) _
  tracking := by
    obtain ⟨hlo, -⟩ := clamp_mem (by decide : 1 ≤ 4095) (fieldNat bs 7 2)
    simp only [imageConfig, clampTracking]
    by_cases ht : clamp 1 4095 (fieldNat bs 7 2) = 1
    · simp [ht]
    · simp only [if_neg ht]
      exact clamp_mem (by omega) _
  poolLow := Nat.min_le_right ..
  poolHigh := clamp_mem (Nat.succ_le_succ (Nat.min_le_right _ 8190)) _
  profiles := fun p => by simpa [imageConfig, Vector.get_eq_getElem] using imageProfile_inRange bs p.val
  prices := fun j => by simpa [imageConfig, Vector.get_eq_getElem] using imagePrices_inRange bs j.val
  switchPoints := by
    refine ⟨by simp [imageConfig], fun p hp => ?_⟩
    obtain ⟨j, -, rfl⟩ := List.mem_map.mp hp
    exact Nat.min_le_right ..
  interval := clampInterval_allowed _
  pacing := ⟨Nat.le_max_left .., max_le (by decide) (Nat.le_of_lt_succ (ofBE_field_lt ..))⟩

namespace Keeps

variable {s t : State} (h : Keeps s t)
include h

theorem configFault : Keeps s t.configFault :=
  ((h.modClock id fun _ _ => ⟨rfl, rfl, rfl⟩).modLink (Link.dropBeacons_keeps _)).raise _ _

/-- The configuration of a good image put in force (R185). -/
theorem setConfig {c : Configuration} (hc : t.ConfigInRange → c.InRange) : Keeps s { t with config := c } :=
  h.trans (of_blocks id id id (fun hj hl => ⟨hj, hl⟩) id id (fun k => ⟨hc k, k.2⟩)
    (fun k => ⟨k.baseline, k.samples, k.history, k.strikes⟩) id id)

theorem handOver {c : Configuration} (hc : t.ConfigInRange → c.InRange) (mark : Half) : Keeps s (t.handOver c mark) := by
  unfold State.handOver
  refine modTree (modTallies (reevaluateBand (modClock (modPublish (h.setConfig hc)) id fun _ hp => ?_))) id
  cases hp

end Keeps

/-! ### TREE_RESTART, bursts and the round boundary (R8 to R11, R37, R162, R181, R189) -/

namespace Keeps

variable {s t : State} (h : Keeps s t)
include h

theorem restartPort : Keeps s t.restartPort := by
  have ha := h.abandonWhere fun _ => true
  unfold State.restartPort
  dsimp only
  split
  · exact ha
  · exact ha
  · exact ha.enterCalibrating.dropSamples
  · exact ha.endTransmission.dropIssued.enterCalibrating
  · exact ha.modTree id

theorem restartSlot (i : SlotId) : Keeps s (t.restartSlot i) := by
  unfold State.restartSlot
  split
  case h_3 hst =>
    split
    · exact h.closeSlot (by simp [hst]) _
    · exact h.abandonAssignment i
  case h_1 | h_2 => exact h
  all_goals
    next hst => exact h.closeSlot (by simp [hst]) _

theorem restartManager : Keeps s t.restartManager := h.forSlots fun u i => (refl u).restartSlot i

theorem restart (o : RestartOrder) : Keeps s (t.restart o) := by
  have hport : ∀ (b : Bool) {u}, Keeps s u → Keeps s (if b then u.restartPort else u) := by
    intro b u hu
    split
    · exact hu.restartPort
    · exact hu
  have hwatch : ∀ (b : Bool) {u}, Keeps s u → Keeps s (if b then u.watchRetreat else u) := by
    intro b u hu
    split
    · exact hu.watchRetreat
    · exact hu
  have hnot : ∀ (b : Bool) (u v : State), (if b then u else v) = if !b then v else u := by
    intro b u v
    cases b <;> rfl
  unfold State.restart
  dsimp only
  rw [hnot o.watchFirst _ (State.watchRetreat _), hnot o.portFirst _ (State.restartPort _)]
  exact (((hport _ (hwatch _ (hwatch _ (hport _ h)).restartManager)).modEnrol _).modSched _).modCount

theorem upstream (e : PlanEntry) (packets : List (List Byte)) : Keeps s (t.upstream e packets) := by
  unfold State.upstream
  split
  · dsimp only
    split
    · exact (h.forward ..).offerUpdate ..
    · exact h.forward ..
  · exact h

theorem heardBurst (e : PlanEntry) (n : Round) (rx : BurstRx) : Keeps s (t.heardBurst e n rx) := by
  unfold State.heardBurst
  split
  · exact h
  · exact ((h.upstream ..).takeFill ..).holdoffSequence ..

theorem applyUpsets (us : List TallyUpset) : Keeps s (t.applyUpsets us) :=
  h.foldl (fun u _ => (refl u).modTally ..) us

theorem countRound : Keeps s t.countRound := by
  unfold State.countRound
  have hclock : Keeps s (t.modClock fun c => { c with round := c.round + 1, secondCount := c.secondCount + 1 }) :=
    h.modCount
  exact (((hclock.modTallies.modRoster _).modPublish).modRoll _).modSearch

theorem offerOwed (i : SlotId) : Keeps s (t.offerOwed i) := by
  unfold State.offerOwed
  have hs : Keeps s (match (t.owed i).sever with
      | some (g, x) => t.offerSever i g x
      | none => t) := by
    split
    · exact h.offerSever ..
    · exact h
  dsimp only
  split
  · exact hs.offerRelease ..
  · exact hs

theorem offerEnrolment (i : SlotId) : Keeps s (t.offerEnrolment i) :=
  (((h.offerExchange i).askSpan i).startPending i).offerHoldoff i

theorem roundOffers : Keeps s t.roundOffers := by
  unfold State.roundOffers
  have howed := h.forSlots (p := fun i => (t.owed i).sever.isSome || (t.owed i).release.isSome)
    fun u i => (refl u).offerOwed i
  exact (((howed.offerRoll.forSlots fun u i => (refl u).offerEnrolment i).offerWatchOrders.forSlots
    fun u i => (refl u).offerWakeDue i).offerRoster).offerWaitingBeacon

omit h in
theorem length_keepIssued (rs : List Issued) (r : Issued) (hrs : rs.length ≤ 3) : (keepIssued rs r).length ≤ 3 := by
  unfold keepIssued
  by_cases hfull : 3 ≤ rs.length <;> simp [hfull] <;> omega

theorem composeRound (n : Round) : Keeps s (t.composeRound n) := by
  have hpass := (h.endTransmission.selectOrders n).passBindings n
  have htx : ((t.endTransmission.selectOrders n).1.passBindings n).down.txBlocks = 0 := by
    simpa using txBlocks_endTransmission t
  have hpay := hpass.composePayload htx
  unfold State.composeRound
  dsimp only
  generalize ((t.endTransmission.selectOrders n).1.passBindings n).composePayload = q at hpay ⊢
  exact hpay.modTree fun ⟨ku, kn, ki, kr⟩ => ⟨ku, kn, length_keepIssued _ _ ki, kr⟩

theorem beginPeriodic : Keeps s t.beginPeriodic := h.same (by simp)

end Keeps

/-! ### Each command, and each step -/

theorem beforeHandOver_inRange : Configuration.beforeHandOver.InRange where
  stations := by decide
  budget := by decide
  poll := by decide
  rollPeriod := by decide
  threshold := by decide
  tracking := by decide
  poolLow := by decide
  poolHigh := by decide
  profiles := fun p => by simp [Configuration.beforeHandOver, Vector.get_eq_getElem, Profile.InRange]
  prices := fun j => by simp [Configuration.beforeHandOver, Vector.get_eq_getElem, Prices.InRange]
  switchPoints := ⟨by decide, by simp [Configuration.beforeHandOver]⟩
  interval := by decide
  pacing := by decide

section Reset

variable (cause : ResetCause) (straps : BitVec 5) (pending : List Instr)

theorem afterReset_slot (i : SlotId) : (State.afterReset cause straps pending).slot i = SlotRecord.reset := by
  simp [State.afterReset, HomeTable.reset, State.slot, Vector.get_eq_getElem]

theorem afterReset_journalOrdered : (State.afterReset cause straps pending).JournalOrdered where
  held := by simp [State.afterReset, Journal.reset, Journal.held]
  capacity := by simp [State.afterReset, Journal.reset, Journal.held]
  sent := le_rfl
  numbered := fun k hk => absurd hk (Nat.not_lt_zero k)
  oneUsage := Nat.zero_le _
  inQueue := fun e he => absurd he (List.not_mem_nil)
  backlog := fun m hm => absurd hm (List.not_mem_nil)

theorem afterReset_poolConserved : (State.afterReset cause straps pending).PoolConserved := by
  have hq : (State.afterReset cause straps pending).queueBlocks = fun _ => 0 := by
    funext i
    simp [State.queueBlocks, State.queue, State.afterReset, Downstream.reset, Vector.get_eq_getElem, packetBlocks]
  rw [poolConserved_iff, State.heldBlocks, hq]
  simp [State.afterReset, Downstream.reset]

theorem afterReset_watchBounded : (State.afterReset cause straps pending).WatchBounded where
  baseline := Nat.zero_le _
  samples := ⟨Nat.zero_lt_succ _, fun c hc => absurd hc (List.not_mem_nil)⟩
  history := Nat.zero_le _
  strikes := fun i => by simp [State.strikes, State.afterReset, Watch.reset, Vector.get_eq_getElem]

/-- The state after a reset meets every invariant. -/
theorem afterReset_invariants :
    let r := State.afterReset cause straps pending
    r.LanesFit ∧ r.LinkFits ∧ r.MeterCounted ∧ r.JournalOrdered ∧ r.PoolConserved ∧ r.SerialHeldOnce ∧ r.ConfigInRange
      ∧ r.WatchBounded ∧ r.SilentBounded ∧ r.FaultTimeUnset := by
  refine ⟨⟨Nat.zero_le _, Nat.zero_le _, Nat.zero_le _, Nat.zero_le _⟩, ⟨Nat.zero_le _, Nat.zero_le _, Nat.zero_le _⟩,
    ⟨Nat.zero_le _, by simp [State.afterReset, Meter.reset]⟩, afterReset_journalOrdered .., afterReset_poolConserved ..,
    fun i j x hi => ?_, ⟨beforeHandOver_inRange, fun im him => nomatch him⟩, afterReset_watchBounded ..,
    fun i => ?_, fun hp => nomatch hp⟩
  · simp [afterReset_slot, SlotRecord.reset, SlotRecord.holds] at hi
  · simp [afterReset_slot, SlotRecord.reset]

theorem Keeps.afterReset (s : State) : Keeps s (State.afterReset cause straps pending) := by
  obtain ⟨lanes, link, meter, journal, pool, serials, config, watch, silent, fault⟩ :=
    afterReset_invariants cause straps pending
  exact ⟨fun _ => lanes, fun _ => link, fun _ => meter, fun _ => journal, fun _ => pool, fun _ => serials,
    fun _ => config, fun _ => watch, fun _ => silent, fun _ => fault⟩

end Reset

/-- Every answer of a command keeps every invariant. -/
def KeptBy (s : State) : Result → Prop
  | .next t => Keeps s t
  | .fault _ | .refused _ => True

section Commands

variable (s : State)

theorem configReadAttempt_keeps (answer : Option (List Byte)) : KeptBy s (execConfigReadAttempt answer s) := by
  have hread : Keeps s (s.modClock fun c => { c with reads := c.reads + 1 }) := (Keeps.refl s).modCount
  unfold execConfigReadAttempt
  split
  · next hload =>
    split
    · next bs _ =>
      refine (Keeps.refl s).modClock (fun k => ⟨k.1, fun im him => ?_⟩) fun _ hp => ?_
      · obtain rfl : imageOf bs = im := by simpa using him
        exact imageConfig_inRange bs
      · have hphase : s.clock.phase = .configFault := hp
        simp [hload.1] at hphase
    · dsimp only [KeptBy]
      split
      · exact hread.configFault
      · exact hread
  · exact .refl s

theorem startCountWriteBack_keeps (readBack : Option Half) : KeptBy s (execStartCountWriteBack readBack s) := by
  unfold execStartCountWriteBack
  split
  · next im _ him =>
    have hw : Keeps s (s.modClock fun c => { c with startWritten := startCountWrites (im.startCount + 1) }) :=
      (Keeps.refl s).modCount
    dsimp only
    split
    · exact hw.handOver (fun k => k.2 im him) _
    · dsimp only [KeptBy]
      split
      · exact hw.modCount.configFault
      · exact hw.modCount
  · exact .refl s

theorem calibrationSample_keeps (count : BitVec 12) : KeptBy s (execCalibrationSample count s) := by
  have hcount : count.toNat ≤ 4095 := Nat.le_of_lt_succ count.isLt
  have hsum : ∀ l : List Nat, (∀ c ∈ l, c ≤ 4095) → l.sum ≤ l.length * 4095 := fun l hl => List.sum_le_card_nsmul l _ hl
  unfold execCalibrationSample
  split
  · dsimp only
    split
    · refine Keeps.enterLit ((Keeps.refl s).modWatch fun k => ⟨?_, by simp, k.history, k.strikes⟩)
      have hlt := k.samples.1
      have hle := hsum s.watch.calib k.samples.2
      simp only [State.modWatch_watch, List.sum_append, List.sum_singleton]
      omega
    · next hshort =>
      refine (Keeps.refl s).modWatch fun k => ⟨k.baseline, ⟨Nat.lt_of_not_le hshort, fun c hc => ?_⟩, k.history, k.strikes⟩
      rcases List.mem_append.mp hc with hc | hc
      · exact k.samples.2 c hc
      · exact List.mem_singleton.mp hc ▸ hcount
  · exact .refl s

theorem roundBoundary_keeps (offersFirst : Bool) (upsets : List TallyUpset) :
    KeptBy s (execRoundBoundary offersFirst upsets s) := by
  have hoffers : ∀ (b : Bool) {u}, Keeps s u → Keeps s (if b then u.roundOffers else u) := by
    intro b u hu
    split
    · exact hu.roundOffers
    · exact hu
  have hlit : ∀ {u}, Keeps s u →
      Keeps s (if u.tree.state = .lit then (u.composeRound u.now).buildPlan (u.now + 1) else u) := by
    intro u hu
    split
    · exact (hu.composeRound _).buildPlan _
    · exact hu
  have hnot : ∀ u v : State, (if offersFirst then u else v) = if !offersFirst then v else u := by
    intro u v
    cases offersFirst <;> rfl
  have hstart := (((Keeps.refl s).countRound.advanceTime).applyUpsets upsets).beginHeldRetest
  unfold execRoundBoundary
  dsimp only [KeptBy]
  rw [hnot _ (State.roundOffers _)]
  exact (hoffers _ (hlit (hoffers _ hstart))).beginPeriodic.startLocate

theorem roundReceptionEnd_keeps : KeptBy s (execRoundReceptionEnd s) := by
  unfold execRoundReceptionEnd
  split
  · exact .refl s
  · next r _ =>
    have hend : Keeps s (s.modTree (·.endReception r.plan.round)) :=
      (Keeps.refl s).modTree fun ⟨ku, kn, ki, _⟩ =>
        ⟨ku, kn, (List.length_drop ..).trans_le ((Nat.sub_le ..).trans ki), List.length_take_le ..⟩
    have hscore : Keeps s ((s.modTree (·.endReception r.plan.round)).modWatch fun w => { w with score := .empty }) :=
      hend.modSearch
    dsimp only [KeptBy]
    split
    · exact hscore.judgeWindow ..
    · exact hscore.scoreRound _

theorem collision_keeps : KeptBy s (execCollision s) := by
  unfold execCollision
  split
  · exact .refl s
  · next e he =>
    have hmem : e ∈ s.link.queue := sendingEntry_mem he
    have hjam : Keeps s (s.modLink Link.stopAndJam) := (Keeps.refl s).modLink (.same rfl rfl rfl)
    dsimp only
    split
    · exact (hjam.modLink (.same rfl rfl rfl)).removeFrame hmem _
    · refine hjam.modLink (Link.map_keeps (fun k => if k.age = e.age then { k with attempts := e.attempts + 1 } else k)
        (fun k => ?_) rfl rfl rfl)
      split <;> rfl

theorem meterUpdateConsume_keeps : KeptBy s (execMeterUpdateConsume s) := by
  unfold execMeterUpdateConsume
  split
  · exact .refl s
  · next u us hq =>
    refine Keeps.creditUpdate ((Keeps.refl s).modMeter fun ⟨hcap, hcount⟩ => ?_) u
    rw [hq, List.length_cons] at hcap hcount
    refine ⟨Nat.le_of_succ_le hcap, ?_⟩
    simp only [Config.meterEntries] at hcap
    simp only [State.modMeter_meter]
    bv_omega

theorem burstClassify_keeps (rx : BurstRx) : KeptBy s (execBurstClassify rx s) := by
  unfold execBurstClassify
  split
  · exact .refl s
  · split
    · exact .refl s
    · have hb := ((Keeps.refl s).modReception fun k => { k with classified := k.classified + 1 }).sampleLatch rx.light
      dsimp only [KeptBy]
      split
      · exact (hb.heardBurst ..).applyClass ..
      · exact hb.applyClass ..

theorem echoSpanEnd_keeps (report : EchoSpanReport) : KeptBy s (execEchoSpanEnd report s) := by
  unfold execEchoSpanEnd
  split
  · exact .refl s
  · split
    · exact .refl s
    · split
      · exact .refl s
      · exact ((((Keeps.refl s).modReception _).sampleLatch _).ruleEcho ..).modEnrol _

theorem packetIngress_keeps (tag : Half) (content : List Byte) : KeptBy s (execPacketIngress tag content s) := by
  have hdrop : ∀ (p : Prop) [Decidable p] i, Keeps s (if p then s.dropPacket i content else s) := by
    intro p _ i
    split
    · exact (Keeps.refl s).dropPacket ..
    · exact .refl s
  have htake : ∀ i, Keeps s (if s.queueRefuses i (blocksOf content) then s.dropPacket i content else
      s.enqueue i content) := by
    intro i
    split
    · exact (Keeps.refl s).dropPacket ..
    · next hroom => exact (Keeps.refl s).enqueue i content (by simpa using hroom)
  unfold execPacketIngress
  split
  · exact .refl s
  · split
    · exact .refl s
    · split
      · exact htake _
      · exact htake _
      all_goals exact hdrop _ _

theorem answerDecode_keeps (rx : AnswerRx) : KeptBy s (execAnswerDecode rx s) := by
  unfold execAnswerDecode
  split
  · split
    · exact (Keeps.refl s).clearLatch.rollAnswer ..
    · exact (Keeps.refl s).clearLatch
    · exact (Keeps.refl s).clearLatch.echoAnswer ..
    · exact .refl s
  · exact .refl s

theorem rollCallDue_keeps : KeptBy s (execRollCallDue s) := by
  have hdue : Keeps s (s.modRoll fun r => { r with reached := false, due := true }) := (Keeps.refl s).modRoll _
  unfold execRollCallDue
  split
  · dsimp only [KeptBy]
    split
    · exact hdue.modRoll _
    · exact hdue
  · exact .refl s

theorem followUpDue_keeps : KeptBy s (execFollowUpDue s) := by
  have hnone : Keeps s (s.modRoll fun r => { r with followUpAt := none }) := (Keeps.refl s).modRoll _
  unfold execFollowUpDue
  split
  · exact .refl s
  · split
    · dsimp only
      split
      · exact hnone.modRoll _
      · split
        · exact hnone.modRoll _
        · exact hnone
    · exact .refl s

theorem rollCallSpanReport_keeps (light : Bool) : KeptBy s (execRollCallSpanReport light s) := by
  unfold execRollCallSpanReport
  split
  · have hr := (((Keeps.refl s).sampleLatch light).modRoll fun _ => (s.enrol.roll.ended (s.enrol.roll.light || light)
      s.now).1).modSched fun d => { d with rollProgress := none }
    dsimp only [KeptBy]
    split
    · exact hr.evidence
    · exact hr
  · exact .refl s

theorem holdoffTimeout_keeps (i : SlotId) : KeptBy s (execHoldoffTimeout i s) := by
  unfold execHoldoffTimeout
  split
  · exact .refl s
  · split
    · exact ((Keeps.refl s).erase _).report _ _
    · exact (Keeps.refl s).replace _ _

theorem lightSample_keeps (place : SamplePlace) (count : BitVec 12) : KeptBy s (execLightSample place count s) := by
  have hcount : count.toNat ≤ 4095 := Nat.le_of_lt_succ count.isLt
  unfold execLightSample
  split
  · exact .refl s
  · split
    · exact (Keeps.refl s).guardSample _ _ hcount
    · exact (Keeps.refl s).quietSample _ _ hcount

/-- One of two operations, each of which keeps every invariant. -/
theorem keeps_ite {p : Prop} [Decidable p] {t u : State} (ht : p → Keeps s t) (hu : ¬p → Keeps s u) :
    Keeps s (if p then t else u) := by
  split
  · next hp => exact ht hp
  · next hp => exact hu hp

theorem locateOrdersSettled_keeps : KeptBy s (execLocateOrdersSettled s) := by
  unfold execLocateOrdersSettled
  split
  · exact .refl s
  · exact keeps_ite s (fun _ => (Keeps.refl s).openTest 2) fun _ => .refl s

theorem lostExpiry_keeps (i : SlotId) : KeptBy s (execLostExpiry i s) := by
  unfold execLostExpiry
  split
  · next hst _ => exact keeps_ite s (fun _ => (Keeps.refl s).closeSlot (by simp [hst]) .lost) fun _ => .refl s
  · exact .refl s

theorem queueFlush_keeps : KeptBy s (execQueueFlush s) := by
  unfold execQueueFlush
  split
  · exact .refl s
  · have hf := fun (f : Flush) fs => ((Keeps.refl s).modDown (f := fun d => { d with flushes := fs }) id).flushQueue f.slot f.gen
    exact keeps_ite s (fun _ => (hf _ _).flushDone _ _) fun _ => hf _ _

theorem drainComplete_keeps (i : SlotId) : KeptBy s (execDrainComplete i s) := by
  have ht := ((Keeps.refl s).fold i).checkTallies i
  unfold execDrainComplete
  split
  · exact keeps_ite s (fun _ => ht.finishClose i) fun _ => ht.owe i _
  · exact .refl s

theorem scrubPass_keeps : KeptBy s (execScrubPass s) := by
  unfold execScrubPass
  split
  · exact (Keeps.modTallies (Keeps.refl s)).forSlots fun u i => (Keeps.refl u).checkTallies i
  · exact .refl s

theorem intervalRound_keeps : KeptBy s (execIntervalRound s) := by
  unfold execIntervalRound
  split
  · exact ((Keeps.refl s).forSlots fun u i => (Keeps.refl u).intervalClose i).modTallies
  · exact .refl s

theorem usageAck_keeps : KeptBy s (execUsageAck s) := by
  unfold execUsageAck
  split
  · exact .refl s
  · next a as _ =>
    have ht : Keeps s (s.modJournal fun j => { j with acks := as }) := (Keeps.refl s).modPublish
    exact keeps_ite s (fun _ => ht.acknowledge a.seq) fun _ => ht

/-- P put back to O: no entry is SENT, and every number held is UNSENT (R147). -/
theorem ackTimeout_keeps : KeptBy s (execAckTimeout s) := by
  unfold execAckTimeout
  split
  · exact .refl s
  · refine keeps_ite s (fun _ => (Keeps.refl s).modJournal (fun k => ⟨k.held, k.capacity, ?_, k.numbered⟩)
      fun r hr => ⟨?_, hr.2⟩) fun _ => .refl s
    all_goals simp [Journal.sent]

theorem frameReceive_keeps (bytes : List Byte) : KeptBy s (execFrameReceive bytes s) := by
  unfold execFrameReceive
  split
  · exact .refl s
  · split
    · exact .refl s
    · exact (Keeps.refl s).dispatchFrame _

theorem rosterDecision_keeps : KeptBy s (execRosterDecision s) := by
  unfold execRosterDecision
  split
  · exact .refl s
  · exact ((Keeps.refl s).modRoster _).applyDecision _

theorem reechoRequest_keeps : KeptBy s (execReechoRequest s) := by
  unfold execReechoRequest
  split
  · exact .refl s
  · exact ((Keeps.refl s).modEnrol _).reecho _

theorem commandReceive_keeps : KeptBy s (execCommandReceive s) := by
  unfold execCommandReceive
  split
  · exact .refl s
  · next c cs _ =>
    have ht : Keeps s (s.modLink fun l => { l with inbox := cs }) := (Keeps.refl s).modLink (.same rfl rfl rfl)
    exact ht.takeCommandFrame c

theorem profileCloseAnswer_keeps : KeptBy s (execProfileCloseAnswer s) := by
  unfold execProfileCloseAnswer
  split
  · exact .refl s
  · next p ps _ =>
    have ht : Keeps s (s.modEnrol fun k => { k with closes := ps }) := (Keeps.refl s).modEnrol _
    exact keeps_ite s (fun _ => ht.applyClose p) fun _ => ht.answerCode _ _

theorem provision_keeps : KeptBy s (execProvision s) := by
  unfold execProvision
  split
  · exact .refl s
  · next c u hu => exact ((Keeps.refl s).takeCommand hu).provisionBy c

theorem unprovision_keeps : KeptBy s (execUnprovision s) := by
  unfold execUnprovision
  split
  · exact .refl s
  · next c u hu =>
    have ht := (Keeps.refl s).takeCommand hu
    split
    · exact ht.answerCode c _
    · split
      · exact ht.answerCode c _
      · exact (ht.modEnrol _).answerCode c _

theorem deroll_keeps : KeptBy s (execDeroll s) := by
  unfold execDeroll
  split
  · exact .refl s
  · next c u hu =>
    have ht := (Keeps.refl s).takeCommand hu
    split
    · exact ht.answerCode c _
    · exact (ht.derollSlot _).answerCode c _

theorem readHome_keeps : KeptBy s (execReadHome s) := by
  unfold execReadHome
  split
  · exact .refl s
  · next c u hu =>
    have ht := (Keeps.refl s).takeCommand hu
    split
    · exact ht.answerCode c _
    · exact ht.answer c _ _

theorem readStatus_keeps : KeptBy s (execReadStatus s) := by
  unfold execReadStatus
  split
  · exact .refl s
  · next c u hu => exact ((Keeps.refl s).takeCommand hu).answer c _ _

theorem readStrangers_keeps : KeptBy s (execReadStrangers s) := by
  unfold execReadStrangers
  split
  · exact .refl s
  · next c u hu =>
    have ht := (Keeps.refl s).takeCommand hu
    dsimp only
    split
    · exact ht.answerCode c _
    · exact ht.answer c _ _

theorem forgetStrangers_keeps : KeptBy s (execForgetStrangers s) := by
  unfold execForgetStrangers
  split
  · exact .refl s
  · next c u hu => exact (((Keeps.refl s).takeCommand hu).modEnrol _).answerCode c _

theorem rollNow_keeps : KeptBy s (execRollNow s) := by
  unfold execRollNow
  split
  · exact .refl s
  · next c u hu =>
    have ht := (Keeps.refl s).takeCommand hu
    split
    · split
      · exact ((ht.modRoll _).modRoll _).answerCode c _
      · exact ht.answerCode c _
    · exact ht.answerCode c _

theorem treeRestart_keeps (o : RestartOrder) : KeptBy s (execTreeRestart o s) := by
  unfold execTreeRestart
  split
  · exact .refl s
  · next c u hu => exact (((Keeps.refl s).takeCommand hu).restart o).answerCode c _

theorem clearFlags_keeps : KeptBy s (execClearFlags s) := by
  unfold execClearFlags
  split
  · exact .refl s
  · next c u hu => exact (((Keeps.refl s).takeCommand hu).modLink (.same rfl rfl rfl)).answer c _ _

theorem frameTransmitStart_keeps (start : TransmitStart) : KeptBy s (execFrameTransmitStart start s) := by
  unfold execFrameTransmitStart
  split
  · split
    · exact (Keeps.refl s).modLink (.same rfl rfl rfl)
    · exact .refl s
  · exact .refl s

theorem backoffEnd_keeps : KeptBy s (execBackoffEnd s) := by
  unfold execBackoffEnd
  split
  · exact (Keeps.refl s).modLink (.same rfl rfl rfl)
  all_goals exact .refl s

theorem frameSent_keeps : KeptBy s (execFrameSent s) := by
  unfold execFrameSent
  split
  · exact .refl s
  · next e he => exact (Keeps.refl s).removeFrame (sendingEntry_mem he) _

theorem timeSetExpiry_keeps : KeptBy s (execTimeSetExpiry s) :=
  keeps_ite s (fun hset => (Keeps.refl s).enterTime (timeRuns_of_state (by simp [hset.1])) _) fun _ => .refl s

theorem claimRefresh_keeps : KeptBy s (execClaimRefresh s) := by
  unfold execClaimRefresh
  split
  · exact ((Keeps.refl s).modRoster _).forSlots fun u i => (Keeps.refl u).setClaimDue i _
  · exact .refl s

theorem barRebroadcast_keeps : KeptBy s (execBarRebroadcast s) := by
  unfold execBarRebroadcast
  split
  · exact (Keeps.refl s).modRoster _
  · exact .refl s

theorem linkActivity_keeps (event : LinkEvent) : KeptBy s (execLinkActivity event s) := by
  unfold execLinkActivity
  cases event <;> exact (Keeps.refl s).modLink (.same rfl rfl rfl)

theorem lineClockFailure_keeps : KeptBy s (execLineClockFailure s) := by
  unfold execLineClockFailure
  split
  · exact .refl s
  · exact (Keeps.modCount (Keeps.refl s)).failTree.noteFailure

theorem startCountComplete_keeps : KeptBy s (execStartCountComplete s) := by
  unfold execStartCountComplete
  split
  · exact (Keeps.refl s).switchIn.enterCalibrating
  · exact .refl s

theorem restoreCountComplete_keeps : KeptBy s (execRestoreCountComplete s) := by
  have ht := (Keeps.refl s).switchIn
  unfold execRestoreCountComplete
  split
  · split
    · exact (ht.modTree (f := fun t => { t with recalDue := false }) id).enterCalibrating
    · exact ht.enterLit
  · exact .refl s

theorem darkHoldEnd_keeps : KeptBy s (execDarkHoldEnd s) := by
  unfold execDarkHoldEnd
  split
  · exact keeps_ite s (fun _ => (Keeps.refl s).modTree id) fun _ => .refl s
  · exact .refl s

/-- Each command keeps every invariant. -/
theorem exec_keeps (i : Instr) : KeptBy s (exec i s) := by
  have hs := Keeps.refl s
  cases i with
  | powerOnReset straps => exact .afterReset ..
  | pinReset straps => exact .afterReset ..
  | configReadAttempt answer => exact configReadAttempt_keeps s answer
  | startCountWriteBack readBack => exact startCountWriteBack_keeps s readBack
  | roundBoundary offersFirst upsets => exact roundBoundary_keeps s offersFirst upsets
  | rollCallDue => exact rollCallDue_keeps s
  | followUpDue => exact followUpDue_keeps s
  | darkHoldEnd => exact darkHoldEnd_keeps s
  | calibrationSample count => exact calibrationSample_keeps s count
  | lineClockFailure => exact lineClockFailure_keeps s
  | startCountComplete => exact startCountComplete_keeps s
  | restoreCountComplete => exact restoreCountComplete_keeps s
  | burstClassify rx => exact burstClassify_keeps s rx
  | holdoffTimeout slot => exact holdoffTimeout_keeps s slot
  | answerDecode rx => exact answerDecode_keeps s rx
  | rollCallSpanReport light => exact rollCallSpanReport_keeps s light
  | echoSpanEnd report => exact echoSpanEnd_keeps s report
  | reechoRequest => exact reechoRequest_keeps s
  | lightSample place count => exact lightSample_keeps s place count
  | roundReceptionEnd => exact roundReceptionEnd_keeps s
  | locateOrdersSettled => exact locateOrdersSettled_keeps s
  | alertExpiry => exact keeps_ite s (fun _ => hs.enterWatch _) fun _ => hs
  | foreignLightRetest =>
    exact keeps_ite s (fun _ => keeps_ite s (fun _ => hs.modSearch) fun _ => hs.openTest 4) fun _ => hs
  | lostExpiry slot => exact lostExpiry_keeps s slot
  | queueFlush => exact queueFlush_keeps s
  | packetIngress tag content => exact packetIngress_keeps s tag content
  | roundTransmissionEnd => exact hs.endTransmission
  | meterUpdateConsume => exact meterUpdateConsume_keeps s
  | drainComplete slot => exact drainComplete_keeps s slot
  | scrubPass => exact scrubPass_keeps s
  | intervalRound => exact intervalRound_keeps s
  | pacingTick => exact hs.pacingTick
  | usageAck => exact usageAck_keeps s
  | ackTimeout => exact ackTimeout_keeps s
  | frameReceive bytes => exact frameReceive_keeps s bytes
  | rosterDecision => exact rosterDecision_keeps s
  | commandReceive => exact commandReceive_keeps s
  | provision => exact provision_keeps s
  | profileCloseAnswer => exact profileCloseAnswer_keeps s
  | unprovision => exact unprovision_keeps s
  | deroll => exact deroll_keeps s
  | readHome => exact readHome_keeps s
  | readStatus => exact readStatus_keeps s
  | readStrangers => exact readStrangers_keeps s
  | forgetStrangers => exact forgetStrangers_keeps s
  | rollNow => exact rollNow_keeps s
  | treeRestart order => exact treeRestart_keeps s order
  | clearFlags => exact clearFlags_keeps s
  | frameTransmitStart start => exact frameTransmitStart_keeps s start
  | collision => exact collision_keeps s
  | backoffEnd => exact backoffEnd_keeps s
  | frameSent => exact frameSent_keeps s
  | secondTick => exact hs.secondTick
  | timeSetExpiry => exact timeSetExpiry_keeps s
  | claimRefresh => exact claimRefresh_keeps s
  | barRebroadcast => exact barRebroadcast_keeps s
  | rosterAgeing => exact (hs.modRoster _).foldl (fun u _ => (Keeps.refl u).updateContested _) _
  | linkActivity event => exact linkActivity_keeps s event

end Commands

/-- Each step keeps every invariant: the command it takes runs on a state that differs in the queue alone. -/
theorem step_keeps {s t : State} (h : step s = .next t) : Keeps s t := by
  unfold step at h
  split at h
  · obtain rfl := Host.Outcome.next.inj h
    exact .refl s
  · next c rest _ =>
    have hkept := exec_keeps { s with pending := rest } c
    rw [h] at hkept
    exact ((Keeps.refl s).same (by simp)).trans hkept

/-! ### The invariants (O55 to O60) -/

/-- Settles O55: the state of O2 is the one after a power-on reset. -/
theorem invariantsAtReset : Obligations.InvariantsAtReset := afterReset_invariants .power 0 []

/-- Settles O56. -/
theorem capacitiesKept : Obligations.CapacitiesKept := fun _ _ lanes link meter h =>
  ⟨(step_keeps h).lanes lanes, (step_keeps h).link link, (step_keeps h).meter meter⟩

/-- Settles O57. -/
theorem journalOrderKept : Obligations.JournalOrderKept := fun _ _ hs h => (step_keeps h).journal hs

/-- Settles O58. -/
theorem poolConservedKept : Obligations.PoolConservedKept := fun _ _ hs h => (step_keeps h).pool hs

/-- Settles O59. -/
theorem serialHeldOnceKept : Obligations.SerialHeldOnceKept := fun _ _ hs h => (step_keeps h).serials hs

/-- Settles O60. -/
theorem rangesKept : Obligations.RangesKept :=
  ⟨fun _ _ hs h => (step_keeps h).config hs, fun _ _ hs h => (step_keeps h).fault hs,
    fun _ _ watch silent h => ⟨(step_keeps h).watch watch, (step_keeps h).silent silent⟩⟩

end Sys2Proof.Machine
end

section
/-! PROOFS. A step, the reset values, rating and alerts (O1, O2, O40, O47): the facts that the later chapters use first. -/

namespace Sys2Proof.Machine

-- One thread elaborates this section: the text as a whole is near the memory limit of the check.
set_option Elab.async false

/-- Settles O1: `step` splits on the queue of commands. -/
theorem stepTakesFront : Obligations.StepTakesFront := by
  refine ⟨fun c rest s => rfl, fun s hs => ?_⟩
  simp [step, hs]

/-! ### Reset values -/

/-- A per-slot table filled with one value reads that value at every slot. -/
theorem replicate_get {α : Type} {n : Nat} (x : α) (i : Fin n) : (Vector.replicate n x).get i = x := by
  simp [Vector.get]

/-- Settles O2: each block's reset value is written out in the model; the per-slot tables hold one value throughout. -/
theorem resetValues : Obligations.ResetValues := by
  refine ⟨?_, fun straps s => ⟨rfl, rfl⟩⟩
  refine ⟨?_, ?_, ?_, ?_, ?_, ?_, ?_, ?_, ?_, ?_, ?_⟩
  · exact ⟨rfl, rfl, rfl, rfl, rfl, rfl⟩
  · exact fun i => replicate_get _ i
  · exact ⟨rfl, rfl, rfl, rfl, rfl, rfl, rfl, fun i => replicate_get _ i⟩
  · exact ⟨rfl, rfl, rfl, rfl, rfl, fun i => replicate_get _ i⟩
  · exact ⟨rfl, rfl, rfl, fun i => replicate_get _ i⟩
  · exact ⟨rfl, rfl, rfl, rfl, rfl, fun i => replicate_get _ i⟩
  · refine ⟨rfl, rfl, rfl, rfl, rfl, fun i => ?_⟩
    have hctx : State.reset.ctx i = Context.closed := replicate_get _ i
    exact ⟨by rw [hctx]; rfl, by rw [hctx]; rfl, replicate_get _ i⟩
  · exact ⟨rfl, rfl, rfl, rfl, rfl, rfl, rfl, rfl⟩
  · exact ⟨rfl, rfl, rfl, rfl, rfl, rfl⟩
  · exact ⟨rfl, rfl, rfl, rfl, rfl, rfl, fun i => replicate_get _ i⟩
  · exact ⟨rfl, rfl, rfl, rfl, rfl, rfl, rfl, rfl, rfl, rfl, rfl, rfl⟩

/-! ### Rating (R126, R127) -/

/-- Units and carry of one kind give back the amount they were made of. -/
theorem rateKind_spec (bytes price carry : Nat) :
    1048576 * (rateKind bytes price carry).1 + (rateKind bytes price carry).2 = bytes * price + carry :=
  Nat.div_add_mod _ _

theorem rateKind_carry_lt (bytes price carry : Nat) : (rateKind bytes price carry).2 < 1048576 :=
  Nat.mod_lt _ (by decide)

/-- The round-up unit of one carry. -/
theorem roundUp_toNat (x : Nat) : (decide (0 < x)).toNat = if x = 0 then 0 else 1 := by
  rcases Nat.eq_zero_or_pos x with rfl | hx
  · rfl
  · simp [hx, Nat.pos_iff_ne_zero.mp hx]

/-- Settles O40: each kind is a division with remainder by 1,048,576, and a final close adds the three round-up units. -/
theorem ratingConserves : Obligations.RatingConserves := by
  intro p t u x y z
  have hassured := rateKind_spec t.counts.upAssured p.assured t.carries.assured
  have hsurplus := rateKind_spec t.counts.upSurplus p.surplus t.carries.surplus
  have hdown := rateKind_spec t.counts.down p.down t.carries.down
  refine ⟨⟨_, _, _, hassured, hsurplus, hdown, rfl⟩, rateKind_carry_lt _ _ _, rateKind_carry_lt _ _ _,
    rateKind_carry_lt _ _ _, rfl, ?_⟩
  simp only [rateTally, Carries.nonzero, roundUp_toNat, if_true, ← Nat.add_assoc]
  rfl

/-! ### Alerts (R158, R159, R164) -/

theorem offer_of_room {l : Link} {m : Message} (husage : m.isUsage = false) (h : l.queue.length < Config.queueFrames) :
    l.offer m = ({ l with
      queue := l.queue ++ [{ message := m, attempts := 0, age := l.nextAge }], nextAge := l.nextAge + 1 }, true) := by
  simp [Link.offer, husage, Nat.not_le.mpr h]

theorem offer_of_full {l : Link} {m : Message} (h : Config.queueFrames ≤ l.queue.length) : l.offer m = (l, false) := by
  simp [Link.offer, h]

theorem sendAlert_of_room {l : Link} {m : Message} (husage : m.isUsage = false)
    (h : l.queue.length < Config.queueFrames) :
    l.sendAlert m = { l with
      queue := l.queue ++ [{ message := m, attempts := 0, age := l.nextAge }], nextAge := l.nextAge + 1 } := by
  simp [Link.sendAlert, offer_of_room husage h]

theorem sendAlert_of_full {l : Link} {m : Message} (h : Config.queueFrames ≤ l.queue.length) :
    l.sendAlert m = l.backlogAlert m := by
  simp [Link.sendAlert, offer_of_full h]

theorem raise_state (s : State) (k : AlertKind) (details : List Byte) :
    s.raise k details = { s with link := (s.raise k details).link } := rfl

/-- The link after an alert, by whether its kind is enabled. -/
theorem raise_link (s : State) (k : AlertKind) (details : List Byte) :
    (s.raise k details).link =
      if s.alertEnabled k then (s.link.setFlag k.code).sendAlert (.alert k s.clock.state s.clock.time details)
      else s.link.setFlag k.code := rfl

theorem alertEnabled_of {s : State} {k : AlertKind}
    (h : s.clock.phase = .running → s.config.alertMask.getLsbD k.code = true) : s.alertEnabled k = true := by
  by_cases hrunning : s.clock.phase = .running
  · simp [State.alertEnabled, h hrunning]
  · simp [State.alertEnabled, hrunning]

/-- An alert sets its flag and gives its frame by the mask and the room of the queue. -/
theorem raised_raise (s : State) (k : AlertKind) (details : List Byte) : s.Raised (s.raise k details) k details where
  flag := by
    rw [raise_link]
    split
    · rcases Nat.lt_or_ge s.link.queue.length Config.queueFrames with hroom | hfull
      · rw [sendAlert_of_room rfl (by exact hroom)]; rfl
      · rw [sendAlert_of_full (by exact hfull)]; rfl
    · rfl
  masked := fun hrunning hmask => by simp [raise_link, State.alertEnabled, hrunning, hmask, Link.setFlag]
  queued := fun henabled hroom => by
    rw [raise_link, if_pos (alertEnabled_of henabled), sendAlert_of_room rfl (by exact hroom)]; rfl
  backlogged := fun henabled hfull hback => by
    rw [raise_link, if_pos (alertEnabled_of henabled), sendAlert_of_full (by exact hfull)]
    simp [Link.backlogAlert, Link.setFlag, Nat.not_le.mpr hback]
  displaced := fun henabled hfull oldest rest hback hfullBack => by
    rw [raise_link, if_pos (alertEnabled_of henabled), sendAlert_of_full (by exact hfull)]
    have hrest : Config.queueFrames ≤ rest.length + 1 := by simpa [hback] using hfullBack
    simp [Link.backlogAlert, Link.setFlag, hback, hrest]

/-- What an alert says depends only on the link, the clock's state, time and phase, and the alert mask; so an alert raised
in `u` is one of `s` where these agree. -/
theorem State.Raised.of_congr {s u t : State} {k : AlertKind} {details : List Byte} (h : u.Raised t k details)
    (hlink : u.link = s.link) (hphase : u.clock.phase = s.clock.phase) (hstate : u.clock.state = s.clock.state)
    (htime : u.clock.time = s.clock.time) (hconfig : u.config = s.config) : s.Raised t k details := by
  obtain ⟨flag, masked, queued, backlogged, displaced⟩ := h
  rw [hlink, hphase, hconfig] at masked
  rw [hlink, hphase, hconfig, hstate, htime] at queued backlogged displaced
  exact ⟨hlink ▸ flag, masked, queued, backlogged, displaced⟩

/-- Only the link of the state after it matters to an alert. -/
theorem State.Raised.congr_right {s t u : State} {k : AlertKind} {details : List Byte} (h : s.Raised t k details)
    (hlink : u.link = t.link) : s.Raised u k details := by
  obtain ⟨flag, masked, queued, backlogged, displaced⟩ := h
  rw [← hlink] at flag masked queued backlogged displaced
  exact ⟨flag, masked, queued, backlogged, displaced⟩

/-- Settles O47: the alert itself, and the two commands of the clock monitor that raise one in STARTING. -/
theorem alertsRaised : Obligations.AlertsRaised := by
  refine ⟨fun s k details => ⟨raised_raise s k details, rfl⟩, fun s hstate hfailed => ?_, fun s hstate hfailed => ?_⟩
  · have hexec : exec .lineClockFailure s = .next ((s.modClock fun c =>
        { c.restartCount with osc := .internal, failed := true }).raise .clockFail []) := by
      simp [exec, execLineClockFailure, State.failTree, State.noteFailure, State.modClock, hstate, hfailed,
        Clock.restartCount]
    exact ⟨_, hexec, (raised_raise _ _ _).of_congr rfl rfl rfl rfl rfl, rfl⟩
  · have hexec : exec .startCountComplete s = .next ((s.modClock fun c =>
        { c with osc := .line, edges := Config.countEdges, edgeLatch := true, failed := false }).raise
          .clockRestored []).enterCalibrating := by
      simp [exec, execStartCountComplete, State.switchIn, State.modClock, hstate, hfailed]
    exact ⟨_, hexec, ((raised_raise _ _ _).of_congr rfl rfl rfl rfl rfl).congr_right rfl, rfl⟩

end Sys2Proof.Machine
end

section
/-! PROOFS. Commands that look up or write a few fields: READ_HOME, READ_STATUS, READ_STRANGERS, FORGET_STRANGERS, PROVISION
and the answer to a profile close (O29, O30, O32), with the reading rules for folds over the slots that they need. -/

namespace Sys2Proof.Machine

-- One thread elaborates this section: the text as a whole is near the memory limit of the check.
set_option Elab.async false

/-! ### States and folds -/

/-- States with equal blocks are equal; each block is left to the frame lemmas unless it is given. -/
theorem State.ext_blocks {s t : State} (tree : s.tree = t.tree := by simp) (home : s.home = t.home := by simp)
    (enrol : s.enrol = t.enrol := by simp) (sched : s.sched = t.sched := by simp) (down : s.down = t.down := by simp)
    (watch : s.watch = t.watch := by simp) (meter : s.meter = t.meter := by simp)
    (journal : s.journal = t.journal := by simp) (link : s.link = t.link := by simp)
    (roster : s.roster = t.roster := by simp) (clock : s.clock = t.clock := by simp)
    (config : s.config = t.config := by simp) (pending : s.pending = t.pending := by simp) : s = t := by
  cases s; cases t; simp_all

/-- What every turn of a fold over the members of a list keeps, the fold keeps. -/
theorem foldl_keeps_of_mem {α β : Type} (g : State → β) (f : State → α → State) {l : List α}
    (h : ∀ s, ∀ a ∈ l, g (f s a) = g s) (s : State) : g (l.foldl f s) = g s := by
  induction l generalizing s with
  | nil => rfl
  | cons a l ih =>
    rw [List.foldl_cons, ih fun s b hb => h s b (List.mem_cons_of_mem _ hb), h s a List.mem_cons_self]

theorem mem_allSlots (i : SlotId) : i ∈ allSlots := List.mem_finRange i

/-- A turn for each slot that meets `p`, none of which changes what `g` reads of slot `i` but its own, leaves it where `i`
does not meet `p`. -/
theorem forSlots_keeps_other {β : Type} (g : State → SlotId → β) {p : SlotId → Bool} {f : State → SlotId → State}
    {i : SlotId} (h : ∀ s j, j ≠ i → g (f s j) i = g s i) (hi : p i = false) (s : State) :
    g (s.forSlots p f) i = g s i :=
  foldl_keeps_of_mem (g · i) f (fun s j hj => h s j fun hji => by
    rw [hji, List.mem_filter, hi] at hj
    exact absurd hj.2 (by simp)) s

/-! ### READ_HOME, READ_STATUS, READ_STRANGERS and FORGET_STRANGERS (R39, R45, R163) -/

theorem fieldNat_singleton (b : Byte) : fieldNat [b] 0 1 = b.toNat := by simp [fieldNat, field, ofBE]

section ReadHome

variable {s : State} {c : RxCommand} (hd : s.Dispatched 4 c)
include hd

theorem execReadHome_snapshot {i : SlotId} (hslot : s.namedSlot c = .ok i) :
    execReadHome s = .next ((s.modLink (·.without c)).answer c .done (slotSnapshot i (s.slot i) s.clock.round)) := by
  have hnamed : (s.modLink (·.without c)).namedSlot c = .ok i := hslot
  rw [execReadHome, takeCommand_of_dispatched hd]
  simp only [hnamed]
  rfl

theorem execReadHome_error {rc : ReplyCode} (hslot : s.namedSlot c = .error rc) :
    execReadHome s = .next ((s.modLink (·.without c)).answerCode c rc) := by
  have hnamed : (s.modLink (·.without c)).namedSlot c = .error rc := hslot
  rw [execReadHome, takeCommand_of_dispatched hd]
  simp only [hnamed]

end ReadHome

theorem namedSlot_of_id {s : State} {c : RxCommand} {i : SlotId} (hargs : c.args = [BitVec.ofNat 8 i.val]) :
    s.namedSlot c = .ok i := by
  have hbyte : (BitVec.ofNat 8 i.val).toNat = i.val := by
    rw [BitVec.toNat_ofNat]; exact Nat.mod_eq_of_lt (by omega)
  simp [State.namedSlot, hargs, fieldNat_singleton, hbyte, i.isLt]

theorem namedSlot_of_badId {s : State} {c : RxCommand} {b : Byte} (hargs : c.args = [b]) (hb : 128 ≤ b.toNat) :
    s.namedSlot c = .error .badArgument := by
  simp [State.namedSlot, hargs, fieldNat_singleton, Nat.not_lt.mpr hb]

theorem namedSlot_of_holder {s : State} {c : RxCommand} {i : SlotId} (hargs : c.args.length = 8)
    (hholder : s.holder c.serial = some i) : s.namedSlot c = .ok i := by
  simp [State.namedSlot, hargs, hholder]

theorem namedSlot_of_unheld {s : State} {c : RxCommand} (hargs : c.args.length = 8)
    (hholder : s.holder c.serial = none) : s.namedSlot c = .error .notFound := by
  simp [State.namedSlot, hargs, hholder]

theorem execReadStatus_snapshot {s : State} {c : RxCommand} (hd : s.Dispatched 5 c) :
    execReadStatus s = .next ((s.modLink (·.without c)).answer c .done s.statusSnapshot) := by
  rw [execReadStatus, readStatusCode, takeCommand_of_dispatched hd]
  rfl

theorem countState_eq_length (s : State) (k : SlotState) :
    s.countState k = (allSlots.filter fun i => (s.slot i).state == k).length :=
  List.countP_eq_length_filter

/-- The reply of a command answered in the state it was taken from. -/
theorem answered_of_taken (s : State) (c : RxCommand) (rc : ReplyCode) (results : List Byte) :
    (s.link.without c).Answered ((s.modLink (·.without c)).answer c rc results).link c rc results :=
  answer_answered (s.modLink (·.without c)) c rc results

theorem execReadStrangers_bad {s : State} {c : RxCommand} {k : Byte} (hd : s.Dispatched 6 c) (hargs : c.args = [k])
    (hk : 15 < k.toNat) : execReadStrangers s = .next ((s.modLink (·.without c)).answerCode c .badArgument) := by
  rw [execReadStrangers, takeCommand_of_dispatched hd]
  simp [hargs, fieldNat_singleton, hk]

theorem execReadStrangers_listed {s : State} {c : RxCommand} {k : Byte} (hd : s.Dispatched 6 c) (hargs : c.args = [k])
    (hk : k.toNat ≤ 15) :
    execReadStrangers s = .next ((s.modLink (·.without c)).answer c .done
      (be 1 s.enrol.strangers.length ++ ((s.enrol.strangers.drop k.toNat).take 5).flatMap Stranger.bytes)) := by
  rw [execReadStrangers, takeCommand_of_dispatched hd]
  simp [hargs, fieldNat_singleton, Nat.not_lt.mpr hk]

theorem execForgetStrangers_done {s : State} {c : RxCommand} (hd : s.Dispatched 7 c) :
    execForgetStrangers s = .next (((s.modLink (·.without c)).modEnrol fun k => { k with strangers := [] }).answerCode c
      .done) := by
  rw [execForgetStrangers, takeCommand_of_dispatched hd]

/-- READ_HOME answers with the snapshot of the slot it names, or with why it names none. -/
theorem execReadHome_answered {s : State} {c : RxCommand} (hd : s.Dispatched 4 c) :
    ∃ t, exec .readHome s = .next t ∧ t = { s with link := t.link }
      ∧ (∀ i, s.namedSlot c = .ok i →
        (s.link.without c).Answered t.link c .done (slotSnapshot i (s.slot i) s.clock.round))
      ∧ ∀ rc, s.namedSlot c = .error rc → (s.link.without c).Answered t.link c rc [] := by
  cases hnamed : s.namedSlot c with
  | ok i =>
    refine ⟨_, execReadHome_snapshot hd hnamed, rfl, fun j hj => ?_, fun _ h => nomatch h⟩
    injection hj with hij
    exact hij ▸ answered_of_taken s c .done _
  | error rc =>
    refine ⟨_, execReadHome_error hd hnamed, rfl, fun _ h => (nomatch h), fun e he => ?_⟩
    injection he with hrc
    exact hrc ▸ answered_of_taken s c rc []

/-- Settles O29: each of the four commands answers in the state it was taken from. -/
theorem readsAnswered : Obligations.ReadsAnswered := by
  refine ⟨fun s c => ⟨fun hd => ?_, fun hd => ⟨_, execReadStatus_snapshot hd, rfl, ?_⟩⟩,
    fun s c => ⟨fun k hd hargs => ?_, fun hd => ⟨_, execForgetStrangers_done hd, rfl, answerCode_answered (by rfl) c .done⟩⟩⟩
  · obtain ⟨t, hexec, hkept, hok, herror⟩ := execReadHome_answered hd
    exact ⟨t, hexec, hkept, fun i hargs => hok i (namedSlot_of_id hargs),
      fun b hargs hb => herror _ (namedSlot_of_badId hargs hb),
      fun i hargs hholder => hok i (namedSlot_of_holder hargs hholder),
      fun hargs hholder => herror _ (namedSlot_of_unheld hargs hholder)⟩
  · have hsnapshot := answered_of_taken s c .done s.statusSnapshot
    simp only [State.statusSnapshot, slotStates, countState_eq_length] at hsnapshot ⊢
    exact hsnapshot
  · rcases Nat.lt_or_ge 15 k.toNat with hbad | hgood
    · exact ⟨_, execReadStrangers_bad hd hargs hbad, rfl, fun _ => answerCode_answered (by rfl) c .badArgument,
        fun h => absurd hbad (Nat.not_lt.mpr h)⟩
    · exact ⟨_, execReadStrangers_listed hd hargs hgood, rfl, fun h => absurd hgood (Nat.not_le.mpr h),
        fun _ => answered_of_taken s c .done _⟩

end Sys2Proof.Machine
end

section
/-! PROOFS. PROVISION and the answer to a profile close (O30, O32; R41, R42, R54, R55): what a top-up and a change of profile
do to the slots, then the commands by the conditions of R41's table. -/

namespace Sys2Proof.Machine

-- One thread elaborates this section: the text as a whole is near the memory limit of the check.
set_option Elab.async false

/-! ### Top-up and a change of profile (R54, R55) -/

theorem writeAssured_slot (s : State) (i : SlotId) (a : Nat) (short : Bool) (j : SlotId) :
    (s.writeAssured i a short).slot j =
      if j = i then { s.slot j with assured := a, short := short } else s.slot j := by
  have hhome : (s.writeAssured i a short).home =
      (s.modSlot i fun r => { r with assured := a, short := short }).home := by
    unfold State.writeAssured
    dsimp only
    split <;> rfl
  rw [slot_congr hhome, State.modSlot_slot]

theorem topUpSlot_slot_other (s : State) {i j : SlotId} (hji : j ≠ i) : (s.topUpSlot j).slot i = s.slot i := by
  unfold State.topUpSlot
  dsimp only
  split
  · rw [State.modSlot_slot, if_neg hji.symm]
  · rfl

/-- A top-up gives only to short slots. -/
theorem topUp_slot_of_not_short {s : State} {i : SlotId} (h : (s.slot i).short = false) :
    s.topUp.slot i = s.slot i :=
  forSlots_keeps_other State.slot (fun s _ hji => topUpSlot_slot_other s hji) h s

/-- A held slot's new profile: its fields, and A by admission. A top-up follows only where A falls, and then A is the
profile's own, so the slot is not short and takes no part in it. -/
theorem changeProfile_slot_self (s : State) (i : SlotId) (p : Fin 8) :
    let f := s.profileOf p
    let a := min f.assured (s.room + (s.slot i).assured)
    (s.changeProfile i p).slot i = { s.slot i with
      profile := some p, ceiling := f.ceiling, tariff := some f.tariff, assured := a, short := decide (a < f.assured) } := by
  intro f a
  have hwritten := writeAssured_slot
    (s.modSlot i fun r => { r with profile := some p, ceiling := f.ceiling, tariff := some f.tariff }) i a
    (decide (a < f.assured)) i
  rw [if_pos rfl, State.modSlot_slot, if_pos rfl] at hwritten
  unfold State.changeProfile
  dsimp only
  split
  case isTrue hfalls =>
    have hshort : ¬ a < f.assured := by
      have hfalls' : min f.assured (s.room + (s.slot i).assured) < (s.slot i).assured := hfalls
      omega
    rw [topUp_slot_of_not_short (by rw [hwritten]; exact decide_eq_false hshort), hwritten]
  case isFalse => exact hwritten

/-- Where A does not fall, a change of profile writes no other slot. -/
theorem changeProfile_slot_other {s : State} {i j : SlotId} {p : Fin 8} (hji : j ≠ i)
    (ha : (s.slot i).assured ≤ min (s.profileOf p).assured (s.room + (s.slot i).assured)) :
    (s.changeProfile i p).slot j = s.slot j := by
  unfold State.changeProfile
  dsimp only
  rw [if_neg (Nat.not_lt.mpr ha), writeAssured_slot, if_neg hji, State.modSlot_slot, if_neg hji]

/-- A change of profile keeps every block but the home table and the pending marks of the metering engine. -/
theorem changeProfile_state (s : State) (i : SlotId) (p : Fin 8) :
    s.changeProfile i p = { s with home := (s.changeProfile i p).home, meter := (s.changeProfile i p).meter } :=
  State.ext_blocks

/-! ### PROVISION by the conditions of its table (R41) -/

/-- The provision list with the values of an entry in the place of its serial's. -/
theorem writeEntry_state (s : State) (e : ProvisionEntry) :
    s.writeEntry e = { s with enrol := { s.enrol with
      provision := s.enrol.provision.map fun o => if o.serial = e.serial then e else o } } := rfl

theorem badTag_or_tagTaken_iff (s : State) (t : Half) (x : Serial) :
    (badTag t || s.tagTaken t x) = true ↔
      t.toNat = 0 ∨ 4095 < t.toNat ∨ ∃ e ∈ s.enrol.provision, e.tag = t ∧ e.serial ≠ x := by
  have hzero : t = 0#16 ↔ t.toNat = 0 := ⟨fun h => by rw [h]; rfl, fun h => BitVec.eq_of_toNat_eq h⟩
  simp [badTag, State.tagTaken, hzero, or_assoc]

section Provision

variable (s : State) (c : RxCommand)

/-- The arguments are bad (R41): no such profile, a tag out of range, or one held by another serial's entry. -/
def State.badProvision : Prop :=
  7 < fieldNat c.args 8 1 ∨ (BitVec.ofNat 16 (fieldNat c.args 9 2)).toNat = 0
    ∨ 4095 < (BitVec.ofNat 16 (fieldNat c.args 9 2)).toNat
    ∨ ∃ e ∈ s.enrol.provision, e.tag = BitVec.ofNat 16 (fieldNat c.args 9 2) ∧ e.serial ≠ c.serial

theorem provisionBy_bad (hbad : s.badProvision c) : s.provisionBy c = s.answerCode c .badArgument := by
  unfold State.provisionBy
  dsimp only
  split
  case isTrue hprofile =>
    have htag : (badTag c.provisionArgs.tag || s.tagTaken c.provisionArgs.tag c.provisionArgs.serial) = true :=
      (badTag_or_tagTaken_iff s _ _).mpr (hbad.resolve_left (Nat.not_lt.mpr (Nat.le_of_lt_succ hprofile)))
    rw [if_pos htag]
  case isFalse => rfl

variable {s c}

/-- With good arguments PROVISION goes on to the serial's outstanding close, entry and holder. -/
theorem provisionBy_good (hgood : ¬ s.badProvision c) (h : fieldNat c.args 8 1 < 8) :
    s.provisionBy c =
      let e : ProvisionEntry :=
        { serial := c.serial, profile := ⟨fieldNat c.args 8 1, h⟩, tag := BitVec.ofNat 16 (fieldNat c.args 9 2) }
      if s.enrol.closes.any (·.serial == c.serial) then s.answerCode c .busy
      else match s.entryOf c.serial with
        | some o => s.provisionKnown c o e
        | none =>
          if 256 ≤ s.enrol.provision.length then s.answerCode c .listFull
          else (s.modEnrol fun k => { k with provision := k.provision ++ [e] }).answerCode c .done := by
  have htag : ¬ (badTag c.provisionArgs.tag || s.tagTaken c.provisionArgs.tag c.provisionArgs.serial) = true :=
    fun h => hgood (Or.inr ((badTag_or_tagTaken_iff s _ _).mp h))
  unfold State.provisionBy
  dsimp only
  rw [dif_pos (show c.provisionArgs.profile < 8 from h), if_neg htag]
  rfl

theorem provisionBy_busy (hgood : ¬ s.badProvision c) (hclose : ∃ p ∈ s.enrol.closes, p.serial = c.serial) :
    s.provisionBy c = s.answerCode c .busy := by
  have hprofile : fieldNat c.args 8 1 < 8 := Nat.lt_succ_of_le (Nat.not_lt.mp fun h => hgood (Or.inl h))
  rw [provisionBy_good hgood hprofile]
  exact if_pos (by simpa using hclose)

theorem provisionBy_open (hgood : ¬ s.badProvision c) (hcloses : s.enrol.closes = []) (h : fieldNat c.args 8 1 < 8) :
    s.provisionBy c =
      let e : ProvisionEntry :=
        { serial := c.serial, profile := ⟨fieldNat c.args 8 1, h⟩, tag := BitVec.ofNat 16 (fieldNat c.args 9 2) }
      match s.entryOf c.serial with
        | some o => s.provisionKnown c o e
        | none =>
          if 256 ≤ s.enrol.provision.length then s.answerCode c .listFull
          else (s.modEnrol fun k => { k with provision := k.provision ++ [e] }).answerCode c .done := by
  rw [provisionBy_good hgood h]
  simp only [hcloses, List.any_nil, Bool.false_eq_true, if_false]

end Provision

/-- A known serial that no slot holds, or whose slot is CLOSING or has the profile already, only changes its entry. -/
theorem provisionKnown_entryOnly {s : State} {c : RxCommand} {o e : ProvisionEntry}
    (h : s.holder e.serial = none
      ∨ ∃ i, s.holder e.serial = some i ∧ ((s.slot i).state = .closing ∨ o.profile = e.profile)) :
    s.provisionKnown c o e = (s.writeEntry e).answerCode c .done := by
  unfold State.provisionKnown
  rcases h with hnone | ⟨i, hsome, heither⟩
  · rw [hnone]
  · rw [hsome]
    exact if_pos heither

theorem execProvision_taken {s : State} {c : RxCommand} (hd : s.Dispatched 1 c) :
    exec .provision s = .next ((s.modLink (·.without c)).provisionBy c) := by
  show execProvision s = _
  rw [execProvision, takeCommand_of_dispatched hd]

/-- Settles O30, by the answers of PROVISION in the order of its table. -/
theorem provisionAnswered : Obligations.ProvisionAnswered := by
  intro s c hd x profile tag bad
  have hexec := execProvision_taken hd
  refine ⟨_, hexec, fun hbad => ?_, fun hgood hclose => ?_, fun hgood hcloses hentry hfull => ?_,
    fun h hgood hcloses hentry hroom => ?_, fun h o hgood hcloses hentry hholder => ?_⟩
  · rw [provisionBy_bad (s.modLink (·.without c)) c hbad]
    exact ⟨rfl, answerCode_answered (by rfl) c .badArgument⟩
  · rw [provisionBy_busy (s := s.modLink (·.without c)) hgood hclose]
    exact ⟨rfl, answerCode_answered (by rfl) c .busy⟩
  · have hprofile : fieldNat c.args 8 1 < 8 := Nat.lt_succ_of_le (Nat.not_lt.mp fun h => hgood (Or.inl h))
    have hnone : (s.modLink (·.without c)).entryOf c.serial = none := hentry
    rw [provisionBy_open (s := s.modLink (·.without c)) hgood hcloses hprofile, hnone]
    dsimp only
    rw [if_pos (show 256 ≤ (s.modLink (·.without c)).enrol.provision.length from hfull)]
    exact ⟨rfl, answerCode_answered (by rfl) c .listFull⟩
  · have hnone : (s.modLink (·.without c)).entryOf c.serial = none := hentry
    rw [provisionBy_open (s := s.modLink (·.without c)) hgood hcloses h, hnone]
    dsimp only
    rw [if_neg (show ¬ 256 ≤ (s.modLink (·.without c)).enrol.provision.length from Nat.not_le.mpr hroom)]
    exact ⟨rfl, answerCode_answered (by rfl) c .done⟩
  · have hsome : (s.modLink (·.without c)).entryOf c.serial = some o := hentry
    rw [provisionBy_open (s := s.modLink (·.without c)) hgood hcloses h, hsome]
    dsimp only
    rw [provisionKnown_entryOnly (hholder.imp id fun ⟨i, hi, heither⟩ => ⟨i, hi, heither.imp id fun hp => Fin.ext hp⟩)]
    exact ⟨rfl, answerCode_answered (by rfl) c .done⟩

/-! ### PROFILE_CLOSE_ANSWER (R42) -/

theorem tagTaken_eq_false {s : State} {t : Half} {x : Serial} (h : ∀ e ∈ s.enrol.provision, e.tag = t → e.serial = x) :
    s.tagTaken t x = false := by
  simpa [State.tagTaken] using h

/-- A closed answer with its tag still free: the entry is written, and the slot too while it is the same occupant's and
neither CLOSING nor FREE. -/
theorem applyClose_of_free_tag {s : State} {p : ProfileClose}
    (htag : ∀ e ∈ s.enrol.provision, e.tag = p.tag → e.serial = p.serial) :
    s.applyClose p =
      let u := s.writeEntry { serial := p.serial, profile := p.profile, tag := p.tag }
      (if (s.slot p.slot).gen = p.gen ∧ (s.slot p.slot).state ≠ .closing ∧ (s.slot p.slot).state ≠ .free then
        u.changeProfile p.slot p.profile else u).answerCode p.command .done := by
  unfold State.applyClose
  rw [tagTaken_eq_false htag]
  rfl

/-- Settles O32: BUSY for no entry; else the entry, and the slot by its occupant and state. -/
theorem profileCloseAnswered : Obligations.ProfileCloseAnswered := by
  intro s p rest hcloses
  have hexec : exec .profileCloseAnswer s = .next (let u := s.modEnrol fun k => { k with closes := rest }
      if p.closed then u.applyClose p else u.answerCode p.command .busy) := by
    show execProfileCloseAnswer s = _
    rw [execProfileCloseAnswer, hcloses]
  refine ⟨fun hclosed => ?_, fun hclosed htag => ?_⟩
  · rw [hexec, hclosed]
    exact ⟨_, rfl, rfl, answerCode_answered (by rfl) p.command .busy⟩
  · rw [hexec, hclosed]
    dsimp only
    rw [if_pos rfl, applyClose_of_free_tag (by exact htag)]
    dsimp only
    split
    case isTrue hsame =>
      rw [changeProfile_state]
      exact ⟨_, rfl, rfl, answerCode_answered (by rfl) p.command .done, rfl, rfl,
        fun _ _ _ => changeProfile_slot_self _ _ _,
        fun h => absurd hsame fun ⟨hgen, hclosing, hfree⟩ => h.elim (· hgen) (·.elim hclosing hfree)⟩
    case isFalse hother =>
      exact ⟨_, rfl, rfl, answerCode_answered (by rfl) p.command .done, rfl, rfl,
        fun hgen hclosing hfree => absurd ⟨hgen, hclosing, hfree⟩ hother, fun _ => rfl⟩

end Sys2Proof.Machine
end

section
/-! PROOFS. The shelf link: frames received, commands taken and the transmitter's waits (O43, O45, O48; R152 to R162). -/

namespace Sys2Proof.Machine

-- One thread elaborates this section: the text as a whole is near the memory limit of the check.
set_option Elab.async false

/-! ### Frames received (R152, R153) -/

theorem ownFrame_of_wire {l : Link} {age : Nat} {bytes : List Byte} (hphase : l.phase = .sending age)
    (hwire : bytes = l.wire) : l.ownFrame bytes = true := by
  simp [Link.ownFrame, hphase, hwire]

theorem ownFrame_eq_false {l : Link} {bytes : List Byte} (h : ∀ age, l.phase = .sending age → bytes ≠ l.wire) :
    l.ownFrame bytes = false := by
  unfold Link.ownFrame
  split
  case h_1 age hphase => exact beq_eq_false_iff_ne.mpr (h age hphase)
  all_goals rfl

section OtherFrame

variable {s : State} {bytes : List Byte} (hother : ∀ age, s.link.phase = .sending age → bytes ≠ s.link.wire)
include hother

theorem execFrameReceive_rejected (hframe : receivedFrame s.station bytes = none) :
    exec (.frameReceive bytes) s = .next s := by
  show execFrameReceive bytes s = _
  rw [execFrameReceive, ownFrame_eq_false hother, hframe]
  rfl

theorem execFrameReceive_accepted {f : RxFrame} (hframe : receivedFrame s.station bytes = some f) :
    exec (.frameReceive bytes) s = .next (s.dispatchFrame f) := by
  show execFrameReceive bytes s = _
  rw [execFrameReceive, ownFrame_eq_false hother, hframe]
  rfl

end OtherFrame

theorem fieldNat_one_lt (bs : List Byte) (k : Nat) : fieldNat bs k 1 < 256 := ofBE_field_lt bs k 1

theorem ofNat_fieldNat_eq_iff (bs : List Byte) (k : Nat) (b : Byte) :
    BitVec.ofNat 8 (fieldNat bs k 1) = b ↔ fieldNat bs k 1 = b.toNat := by
  have hlt := fieldNat_one_lt bs k
  constructor
  · rintro rfl
    rw [BitVec.toNat_ofNat, Nat.mod_eq_of_lt hlt]
  · intro h
    rw [h, BitVec.ofNat_toNat]
    rfl

/-- A kind that the part does not act on gives nothing (R153). -/
theorem framePayload_of_other_kind (dest source : Byte) (p : List Byte) {kind : Nat}
    (h : kind = 6 ∨ kind = 7 ∨ 9 < kind ∨ kind = 0) : framePayload dest source kind p = none := by
  unfold framePayload
  dsimp only
  split
  case h_8 => rfl
  all_goals omega

/-- A frame that fails a test of R152, or is of a kind without a meaning here, is not accepted. -/
theorem receivedFrame_eq_none {station : Byte} {bs : List Byte}
    (h : bs.length < 7 + fieldNat bs 4 1
      ∨ fieldNat bs (5 + fieldNat bs 4 1) 2 ≠ (check16 (field bs 1 (4 + fieldNat bs 4 1))).toNat
      ∨ 144 < fieldNat bs 4 1 ∨ (fieldNat bs 1 1 ≠ station.toNat ∧ fieldNat bs 1 1 ≠ 255)
      ∨ fieldNat bs 2 1 = station.toNat
      ∨ fieldNat bs 3 1 = 6 ∨ fieldNat bs 3 1 = 7 ∨ 9 < fieldNat bs 3 1 ∨ fieldNat bs 3 1 = 0) :
    receivedFrame station bs = none := by
  unfold receivedFrame
  dsimp only
  split
  case isTrue => rfl
  case isFalse hlength =>
  split
  case isTrue => rfl
  case isFalse hcheck =>
  split
  case isTrue => rfl
  case isFalse hlong =>
  split
  case isTrue => rfl
  case isFalse hdest =>
  split
  case isTrue => rfl
  case isFalse hsource =>
  rcases h with h | h | h | h | h | h
  · simp [h] at hlength
  · simp [h] at hcheck
  · exact absurd h hlong
  · obtain ⟨hstation, hall⟩ := h
    have hne : BitVec.ofNat 8 (fieldNat bs 1 1) ≠ 255 := fun he => hall ((ofNat_fieldNat_eq_iff bs 1 255).mp he)
    have hnotStation : BitVec.ofNat 8 (fieldNat bs 1 1) ≠ station :=
      fun he => hstation ((ofNat_fieldNat_eq_iff bs 1 station).mp he)
    exact absurd (by rw [Bool.and_eq_true]; exact ⟨bne_iff_ne.mpr hnotStation, bne_iff_ne.mpr hne⟩) hdest
  · exact absurd (beq_iff_eq.mpr ((ofNat_fieldNat_eq_iff bs 2 station).mpr h)) hsource
  · exact framePayload_of_other_kind _ _ _ h

/-- Settles O43: the own frame, a frame that is not accepted, a COMMAND and a USAGE_ACK. -/
theorem frameReceived : Obligations.FrameReceived := by
  intro s bytes
  refine ⟨fun age hphase hwire => ?_, fun hother => ⟨fun htests => ?_, fun d c hframe => ?_, fun a hframe => ?_⟩⟩
  · show execFrameReceive bytes s = _
    rw [execFrameReceive, ownFrame_of_wire hphase hwire]
    rfl
  · exact execFrameReceive_rejected hother (receivedFrame_eq_none htests)
  · exact execFrameReceive_accepted hother hframe
  · exact execFrameReceive_accepted hother hframe

/-! ### Commands taken (R160 to R162) -/

theorem execCommandReceive_taken {s : State} {c : RxCommand} {rest : List RxCommand} (hinbox : s.link.inbox = c :: rest) :
    exec .commandReceive s = .next ((s.modLink fun l => { l with inbox := rest }).takeCommandFrame c) := by
  show execCommandReceive s = _
  rw [execCommandReceive, hinbox]

theorem LastCommand.names_iff (k : LastCommand) (c : RxCommand) :
    k.names c = true ↔ k.tag = c.tag ∧ k.code = c.code ∧ k.args = c.args := by
  simp [LastCommand.names, and_assoc]

section TakeCommandFrame

variable {s : State} {c : RxCommand}

theorem takeCommandFrame_of_four (h : 4 ≤ s.link.inFlight) : s.takeCommandFrame c = s := if_pos h

theorem takeCommandFrame_of_stranger (hflight : s.link.inFlight < 4) (hauth : s.authorised c = false) :
    s.takeCommandFrame c = s.countFlight.answerPlain c .refused [] := by
  unfold State.takeCommandFrame
  rw [if_neg (Nat.not_le.mpr hflight), hauth]
  rfl

theorem takeCommandFrame_of_repeat {k : LastCommand} (hflight : s.link.inFlight < 4) (hauth : s.authorised c = true)
    (hlast : s.link.lastCommand = some k) (hnames : k.names c = true) :
    s.takeCommandFrame c = match k.reply with
      | some (rc, results) => s.countFlight.answerPlain c rc results
      | none => s := by
  unfold State.takeCommandFrame
  rw [if_neg (Nat.not_le.mpr hflight), hauth, if_pos rfl, State.compareCommand, hlast]
  exact if_pos hnames

theorem takeCommandFrame_of_new (hflight : s.link.inFlight < 4) (hauth : s.authorised c = true)
    (hnew : ∀ k, s.link.lastCommand = some k → k.names c = false) :
    s.takeCommandFrame c = s.countFlight.dispatchCommand c := by
  unfold State.takeCommandFrame
  rw [if_neg (Nat.not_le.mpr hflight), hauth, if_pos rfl, State.compareCommand]
  cases hlast : s.link.lastCommand with
  | none => rfl
  | some k => exact if_neg (by simp [hnew k hlast])

end TakeCommandFrame

section DispatchCommand

variable {s : State} {c : RxCommand}

theorem dispatchCommand_of_notNow (hfault : s.clock.phase = .configFault) (hcode : c.code ≠ readStatusCode) :
    s.dispatchCommand c = (s.rememberCommand c).answerCode c .notNow := by
  unfold State.dispatchCommand
  exact if_pos ⟨hfault, hcode⟩

theorem dispatchCommand_of_badForm (hphase : s.clock.phase ≠ .configFault) (hformed : c.wellFormed = false) :
    s.dispatchCommand c = (s.rememberCommand c).answerCode c .badArgument := by
  unfold State.dispatchCommand
  exact (if_neg fun h => hphase h.1).trans (if_neg (by simp [hformed]))

theorem dispatchCommand_of_wellFormed (hphase : s.clock.phase ≠ .configFault) (hformed : c.wellFormed = true) :
    s.dispatchCommand c = (s.rememberCommand c).modLink fun l => { l with dispatched := l.dispatched ++ [c] } := by
  unfold State.dispatchCommand
  exact (if_neg fun h => hphase h.1).trans (if_pos hformed)

end DispatchCommand

/-- What a reply that is not stored leaves of the last command record and the commands in transit. -/
theorem sendReply_kept (l : Link) (c : RxCommand) (rc : ReplyCode) (results : List Byte) :
    (l.sendReply (c.replyWith rc results)).lastCommand = l.lastCommand
      ∧ (l.sendReply (c.replyWith rc results)).dispatched = l.dispatched := by
  rcases Nat.lt_or_ge l.queue.length Config.queueFrames with hroom | hfull
  · rw [sendReply_of_room c rc results hroom]; exact ⟨rfl, rfl⟩
  · rw [sendReply_of_full c rc results hfull]; exact ⟨rfl, rfl⟩

/-- A command remembered and then answered stands in the last command record with that reply. -/
theorem rememberCommand_answerCode_lastCommand (s : State) (c : RxCommand) (rc : ReplyCode) :
    ((s.rememberCommand c).answerCode c rc).link.lastCommand =
      some { tag := c.tag, code := c.code, args := c.args, reply := some (rc, []) } := by
  rw [(answerCode_answered (s := s.rememberCommand c) rfl c rc).stored]
  simp [State.rememberCommand, LastCommand.names]

theorem answerCode_dispatched (s : State) (c : RxCommand) (rc : ReplyCode) :
    (s.answerCode c rc).link.dispatched = s.link.dispatched := by
  obtain ⟨-, -, -, -, -, -, -, -, -, -, -, -, hdispatched⟩ := (answer_answered s c rc []).kept
  exact hdispatched

/-- Settles O45, by the tests of R160 and R161 in their order. -/
theorem commandTaken : Obligations.CommandTaken := by
  intro s c rest hinbox s' l mine
  have hexec := execCommandReceive_taken hinbox
  refine ⟨fun hfour => ?_, fun hflight hrunning => ⟨fun hnot => ?_, fun k hmine hlast htag hcode hargs => ?_,
    fun hmine hnew => ?_⟩, fun hflight hfault hlast hcode => ?_⟩
  · rw [hexec, takeCommandFrame_of_four (by exact hfour)]
    rfl
  · have hauth : (s.modLink fun l => { l with inbox := rest }).authorised c = false := by
      simp [State.authorised, hrunning, show c.source ≠ BitVec.ofNat 8 s.config.controller from hnot]
    rw [hexec, takeCommandFrame_of_stranger (by exact hflight) hauth]
    obtain ⟨hkeptLast, hkeptDispatched⟩ := sendReply_kept l c .refused []
    refine ⟨_, rfl, rfl, hkeptLast, hkeptDispatched, fun hroom => ?_⟩
    exact congrArg Link.queue (sendReply_of_room (l := l) c .refused [] hroom)
  · have hauth : (s.modLink fun l => { l with inbox := rest }).authorised c = true := by
      simp [State.authorised, show c.source = BitVec.ofNat 8 s.config.controller from hmine]
    rw [hexec, takeCommandFrame_of_repeat (by exact hflight) hauth hlast ((k.names_iff c).mpr ⟨htag, hcode, hargs⟩)]
    refine ⟨fun hreply => by rw [hreply]; rfl, fun rc results hreply hroom => ?_⟩
    rw [hreply]
    exact congrArg (fun l' => Host.Outcome.next { s with link := l' })
      (sendReply_of_room (l := l) c rc results hroom)
  · have hauth : (s.modLink fun l => { l with inbox := rest }).authorised c = true := by
      simp [State.authorised, show c.source = BitVec.ofNat 8 s.config.controller from hmine]
    rw [hexec, takeCommandFrame_of_new (by exact hflight) hauth
      fun k hk => Bool.eq_false_iff.mpr fun hn => hnew k hk ((k.names_iff c).mp hn)]
    have hphase : s.clock.phase ≠ .configFault := by simp [hrunning]
    refine ⟨fun hformed => ?_, fun hformed => ?_⟩
    · rw [dispatchCommand_of_wellFormed (by exact hphase) hformed]
      rfl
    · rw [dispatchCommand_of_badForm (by exact hphase) hformed]
      exact ⟨_, rfl, State.ext_blocks, answerCode_dispatched _ _ _, rememberCommand_answerCode_lastCommand _ c .badArgument⟩
  · have hauth : (s.modLink fun l => { l with inbox := rest }).authorised c = true := by simp [State.authorised, hfault]
    rw [hexec, takeCommandFrame_of_new (by exact hflight) hauth fun k hk => absurd (hlast ▸ hk) (by simp)]
    rw [dispatchCommand_of_notNow (by exact hfault) hcode]
    exact ⟨_, rfl, State.ext_blocks, answerCode_dispatched _ _ _, rememberCommand_answerCode_lastCommand _ c .notNow⟩

/-! ### The transmitter's waits (R155, R156) -/

theorem classWait_eq (m : Message) :
    classWait m.txClass = if m.txClass = 0 then 12 else if m.txClass = 1 then 16 else 20 := by
  cases m <;> rfl

/-- Settles O48: the start by its test, the backoff, and the three events of another station. -/
theorem transmitterWaits : Obligations.TransmitterWaits := by
  intro s
  refine ⟨fun e start hphase hhead => ?_, fun bits start hphase => ⟨?_, ?_⟩, rfl, rfl, rfl⟩
  · rw [← classWait_eq]
    refine ⟨fun hsilent hwait => ?_, fun hnot => ?_⟩
    · show execFrameTransmitStart start s = _
      rw [execFrameTransmitStart, hphase, hhead]
      exact if_pos ⟨hsilent, hwait⟩
    · show execFrameTransmitStart start s = _
      rw [execFrameTransmitStart, hphase, hhead]
      refine if_neg fun ⟨hsilent, hwait⟩ => ?_
      rcases hnot with hactive | hearly
      · exact absurd hactive (by simp [hsilent])
      · exact absurd hwait (Nat.not_le.mpr hearly)
  · show execFrameTransmitStart start s = _
    rw [execFrameTransmitStart, hphase]
  · show execBackoffEnd s = _
    rw [execBackoffEnd, hphase]
    rfl

end Sys2Proof.Machine
end

section
/-! PROOFS. Samples, answers in an echo span, the report of a roll call, the pacing tick and calibration (O6, O14, O17, O21,
O41), with the rules for an offer to the order lanes and for a change of the tree watch that later chapters use too. -/

namespace Sys2Proof.Machine

-- One thread elaborates this section: the text as a whole is near the memory limit of the check.
set_option Elab.async false

/-! ### Offers to the order lanes (R4, R5, R14) -/

/-- An offer writes nothing of the tree port but the lanes and the sequence counter. -/
theorem TreePort.offer_kept (t : TreePort) (lane : Lane) (body : OrderBody) (target : Option (SlotId × Gen)) :
    (t.offer lane body target).1 =
      { t with
        urgent := (t.offer lane body target).1.urgent, normal := (t.offer lane body target).1.normal
        orderSeq := (t.offer lane body target).1.orderSeq } := by
  unfold TreePort.offer
  split
  · rfl
  split
  · rfl
  split
  · rfl
  · cases lane <;> rfl

theorem offerOrder_tree_state (s : State) (lane : Lane) (body : OrderBody) (target : Option (SlotId × Gen)) :
    (s.offerOrder lane body target).1.tree.state = s.tree.state := by
  show (s.tree.offer lane body target).1.state = s.tree.state
  rw [TreePort.offer_kept]

/-! ### Exchanges: what they keep (R56) -/

theorem askSpan_roll (s : State) (i : SlotId) : (s.askSpan i).enrol.roll = s.enrol.roll := by
  unfold State.askSpan
  dsimp only
  split
  · rfl
  split <;> rfl

theorem offerExchange_kept (s : State) (i : SlotId) :
    (s.offerExchange i).tree.state = s.tree.state ∧ (s.offerExchange i).enrol.roll = s.enrol.roll := by
  unfold State.offerExchange
  dsimp only
  split
  · exact ⟨rfl, rfl⟩
  next p _ =>
  split
  · split
    · exact ⟨by simpa using offerOrder_tree_state .., by rw [askSpan_roll]; simp [State.modEcho]⟩
    all_goals exact ⟨offerOrder_tree_state .., by simp⟩
  · exact ⟨rfl, rfl⟩

theorem startExchange_kept (s : State) (i : SlotId) (p : EchoPurpose) :
    (s.startExchange i p).tree.state = s.tree.state ∧ (s.startExchange i p).enrol.roll = s.enrol.roll :=
  offerExchange_kept _ i

/-- Entry to LIT: the tree port is LIT and the roll-call counter stands at 16 (R46). -/
theorem enterLit_kept (s : State) :
    s.enterLit.tree.state = .lit ∧ s.enterLit.enrol.roll = { s.enrol.roll with counter := 16 } := by
  unfold State.enterLit
  exact ⟨foldl_keeps (·.tree.state) _ (fun s i => (startExchange_kept s i .resume).1) _ _,
    foldl_keeps (·.enrol.roll) _ (fun s i => (startExchange_kept s i .resume).2) _ _⟩

/-! ### Calibration (R2, R99) -/

theorem execDarkHoldEnd_calibrating {s : State} {n : Round} (hstate : s.tree.state = .calibrating)
    (hhold : s.tree.holdStart = some n) :
    exec .darkHoldEnd s = .next (if 12000 ≤ (s.clock.round - n).toNat then
      { s with tree := { s.tree with sampling := true } } else s) := by
  show execDarkHoldEnd s = _
  rw [execDarkHoldEnd, hstate, hhold]
  rfl

theorem execCalibrationSample_sampling {s : State} {count : BitVec 12} (hstate : s.tree.state = .calibrating)
    (hsampling : s.tree.sampling = true) :
    exec (.calibrationSample count) s = .next (
      if 64 ≤ (s.watch.calib ++ [count.toNat]).length then
        (s.modWatch fun w => { w with calib := [], b16 := 16 * ((s.watch.calib ++ [count.toNat]).sum / 64) }).enterLit
      else s.modWatch fun w => { w with calib := s.watch.calib ++ [count.toNat] }) := by
  show execCalibrationSample count s = _
  rw [execCalibrationSample, if_pos ⟨hstate, hsampling⟩]
  dsimp only
  split <;> rfl

/-- Settles O6: the dark hold by its 12,000 rounds, a sample by whether it is the 64th. -/
theorem calibrationRuns : Obligations.CalibrationRuns := by
  refine ⟨fun s n hstate hhold => ⟨fun hpast => ?_, fun hearly => ?_⟩,
    fun s count hstate hsampling => ⟨fun hfew => ?_, fun hlast => ?_⟩⟩
  · rw [execDarkHoldEnd_calibrating hstate hhold, if_pos hpast]
  · rw [execDarkHoldEnd_calibrating hstate hhold, if_neg (Nat.not_le.mpr hearly)]
  · have hlength : ¬ 64 ≤ (s.watch.calib ++ [count.toNat]).length := by
      rw [List.length_append, List.length_singleton]; omega
    rw [execCalibrationSample_sampling hstate hsampling, if_neg hlength]
    rfl
  · have hlength : 64 ≤ (s.watch.calib ++ [count.toNat]).length := by
      rw [List.length_append, List.length_singleton]; omega
    rw [execCalibrationSample_sampling hstate hsampling, if_pos hlength]
    obtain ⟨hlit, hroll⟩ := enterLit_kept
      (s.modWatch fun w => { w with calib := [], b16 := 16 * ((s.watch.calib ++ [count.toNat]).sum / 64) })
    exact ⟨_, rfl, by simp, hlit, congrArg RollCall.counter hroll, State.ext_blocks⟩

/-! ### Light samples (R12, R97, R98) -/

/-- The baseline after a sample, in the order in which R98 gives its cases; `e` is the sample's excess E. -/
theorem judgeSample_eq {threshold tracking b16 count : Nat} {e : Int} (he : (count : Int) - (b16 / 16 : Nat) = e) :
    judgeSample threshold tracking b16 count =
      (if (threshold : Int) < e then b16
        else if -(tracking : Int) ≤ e ∧ e ≤ tracking then b16 - b16 / 16 + count
        else if e < -(tracking : Int) then ((b16 : Int) + 4 * e).toNat
        else b16, decide ((threshold : Int) < e)) := by
  have hwithin : e.natAbs ≤ tracking ↔ -(tracking : Int) ≤ e ∧ e ≤ tracking := by omega
  unfold judgeSample
  simp only [he, hwithin]
  by_cases hviolation : (threshold : Int) < e
  · rw [if_pos hviolation, if_pos hviolation, decide_eq_true hviolation]
  · rw [if_neg hviolation, if_neg hviolation, decide_eq_false hviolation]
    split
    · rfl
    · split <;> rfl

theorem execLightSample_guard {s : State} {r : Issued} (hr : s.reception = some r) (k : Nat) (count : BitVec 12) :
    exec (.lightSample (.guard k) count) s = .next (s.guardSample r.plan k count.toNat) := by
  show execLightSample (.guard k) count s = _
  rw [execLightSample, hr]

theorem execLightSample_quiet {s : State} {r : Issued} (hr : s.reception = some r) (offset : Fin 2048)
    (count : BitVec 12) :
    exec (.lightSample (.quiet offset) count) s = .next (s.quietSample r.plan offset.val count.toNat) := by
  show execLightSample (.quiet offset) count s = _
  rw [execLightSample, hr]

theorem quietAt_of {p : Plan} {offset : Nat} (hgrid : offset % 32 = 0)
    (hplace : p.spans.window = true ∧ 1792 ≤ offset ∨ p.burstEnd ≤ offset ∧ offset < p.spans.tailStart) :
    p.quietAt offset = true := by
  have hstart : Config.windowStart = 1792 := rfl
  simpa [Plan.quietAt, hgrid, hstart] using hplace

theorem toNat_eq_ite (b : Bool) : b.toNat = if b = true then 1 else 0 := by
  cases b <;> rfl

/-- Settles O21: the baseline by R98, then where the sample is kept or counted. -/
theorem lightSampleJudged : Obligations.LightSampleJudged := by
  intro s r count hr e t d b
  have hjudge : judgeSample s.config.threshold s.config.tracking s.watch.b16 count.toNat = (b, decide (t < e)) :=
    judgeSample_eq rfl
  refine ⟨fun k p q hp hq => ?_, fun q hq => ?_, fun offset hgrid hplace => ?_⟩
  · rw [execLightSample_guard hr]
    simp only [State.guardSample, hq, Nat.succ_ne_zero, if_false, Nat.add_sub_cancel, hp, Option.map_some, State.judge,
      hjudge]
    rfl
  · rw [execLightSample_guard hr]
    simp only [State.guardSample, hq, if_true, State.judge, hjudge]
    rfl
  · rw [execLightSample_quiet hr]
    simp only [State.quietSample, quietAt_of hgrid hplace, if_true, State.judge, hjudge, toNat_eq_ite,
      Bool.and_eq_true, decide_eq_true_iff]
    rfl

/-! ### Answers in an echo span (R9, R57) -/

theorem noteLight_eq (r : Issued) (start : Nat) (light : Bool) :
    r.noteLight start light = { r with
      echoLight := if light = true ∧ start ∉ r.echoLight then r.echoLight ++ [start] else r.echoLight } := by
  unfold Issued.noteLight
  by_cases h : light = true ∧ start ∉ r.echoLight
  · rw [if_pos h, if_pos (by simpa using h)]
  · rw [if_neg h, if_neg (by simpa using h)]

/-- The record in reception is the oldest one. -/
theorem issued_of_reception {s : State} {r : Issued} (hr : s.reception = some r) :
    s.tree.issued = r :: s.tree.issued.tail := by
  unfold State.reception at hr
  cases hissued : s.tree.issued with
  | nil => simp [hissued] at hr
  | cons a rest =>
    rw [hissued] at hr
    dsimp only at hr
    split at hr
    · rw [Option.some.inj hr]; rfl
    · exact absurd hr (by simp)

theorem modReception_eq {s : State} {r : Issued} (hr : s.reception = some r) (f : Issued → Issued) :
    s.modReception f = { s with tree := { s.tree with issued := f r :: s.tree.issued.tail } } := by
  have hissued := issued_of_reception hr
  simp only [State.modReception, State.modTree]
  split
  case h_1 hnil =>
    rw [hissued] at hnil
    exact absurd hnil (List.cons_ne_nil _ _)
  case h_2 a rest hcons =>
    obtain ⟨rfl, rfl⟩ := List.cons.inj (hcons.symm.trans hissued)
    rfl

theorem spanAt_roll_eq_none {p : Plan} {offset : Nat} (htail : p.spans.rollTail = true → offset < 348)
    (hhead : p.spans.rollHead = true → 64 < offset) :
    spanAt p offset = (p.spans.echoes.find? fun e =>
      e.start ≤ offset && offset + Config.answerTicks ≤ e.start + Config.echoTicks).map .echo := by
  unfold spanAt
  refine if_neg fun h => ?_
  rw [Bool.or_eq_true, Bool.and_eq_true, Bool.and_eq_true, decide_eq_true_iff, decide_eq_true_iff] at h
  rcases h with ⟨hset, hin⟩ | ⟨hset, hin⟩
  · exact absurd (htail hset) (Nat.not_lt.mpr hin)
  · have := hhead hset
    simp only [Config.answerTicks, Config.rollHeadEnd] at hin
    omega

theorem arrivalTicks_self (n : Round) (offset : Nat) : arrivalTicks n n offset = 4096 + offset := by
  simp [arrivalTicks, since, Config.roundTicks]

/-- Settles O14: the answer kept, the answer that is not valid, and the one in no span. -/
theorem echoAnswerKept : Obligations.EchoAnswerKept := by
  intro s rx r hr
  refine ⟨fun a e hvalid htail hhead hechoes hstart hend => ?_, fun hinvalid => ?_, fun htail hhead houtside => ?_⟩
  · have hspan : spanAt r.plan rx.offset.val = some (.echo e) := by
      rw [spanAt_roll_eq_none htail hhead, hechoes]
      have hin : rx.offset.val + Config.answerTicks ≤ e.start + Config.echoTicks := hend
      simp [hstart, hin]
    have hcleared : s.clearLatch.reception = some r := hr
    show execAnswerDecode rx s = _
    rw [execAnswerDecode, hr, hvalid]
    simp only [hspan, State.echoAnswer, modReception_eq hcleared, noteLight_eq, arrivalTicks_self]
    rfl
  · show execAnswerDecode rx s = _
    rw [execAnswerDecode, hr, hinvalid]
  · have hspan : spanAt r.plan rx.offset.val = none := by
      rw [spanAt_roll_eq_none htail hhead, Option.map_eq_none_iff, List.find?_eq_none]
      intro e he hin
      rw [Bool.and_eq_true, decide_eq_true_iff, decide_eq_true_iff] at hin
      obtain ⟨hstart, hend⟩ := hin
      have hfour : rx.offset.val + 4 ≤ e.start + 16 := hend
      rcases houtside e he with hbefore | hafter <;> omega
    show execAnswerDecode rx s = _
    rw [execAnswerDecode, hr]
    cases validAnswer rx with
    | none => rfl
    | some a => simp only [hspan]

/-! ### Changes of the tree watch without a roll call in progress (R64, R68, R103 to R106) -/

/-- With no roll call in progress there is nothing to withdraw. -/
theorem withdrawRoll_of_none {s : State} (h : s.sched.rollProgress = none) : s.withdrawRoll = s := by
  simp [State.withdrawRoll, h]

/-- A change of the tree watch while no roll call is in progress writes the watch and the watch request only. -/
theorem enterWatch_of_none {s : State} (h : s.sched.rollProgress = none) (new : WatchState) :
    s.enterWatch new = { s with
      watch := { s.watch with
        state := new, since := s.clock.round, retestHeld := false
        history := if s.watch.state.searching && !new.searching then [] else s.watch.history }
      sched := { s.sched with watchReq := if new.searching then s.sched.watchReq else none } } := by
  unfold State.enterWatch
  cases hnew : new.searching with
  | true => exact (if_pos rfl).trans (withdrawRoll_of_none (by exact h))
  | false => exact if_neg Bool.false_ne_true

/-- Evidence in CLEAR or ALERT without a roll call in progress: CONFIRMING with a test of four windows. -/
theorem evidence_of_none {s : State} (h : s.sched.rollProgress = none)
    (hstate : s.watch.state = .clear ∨ s.watch.state = .alert) :
    s.evidence = { s with
      watch := { s.watch with
        state := .confirming, since := s.clock.round, retestHeld := false
        test := some { want := 4, rounds := [], judged := 0, violated := 0 } }
      sched := { s.sched with watchReq := some 4 } } := by
  unfold State.evidence
  rcases hstate with hclear | halert
  · simp only [hclear, State.enterConfirming]
    rw [enterWatch_of_none h, enterWatch_of_none (by exact h)]
    simp [State.openTest, hclear, WatchState.searching, State.modWatch, State.modSched]
  · simp only [halert, State.enterConfirming]
    rw [enterWatch_of_none h]
    simp [State.openTest, halert, WatchState.searching, State.modWatch, State.modSched]

theorem evidence_of_searching {s : State} (h : s.watch.state ≠ .clear ∧ s.watch.state ≠ .alert) : s.evidence = s := by
  unfold State.evidence
  split
  · exact absurd ‹_› h.1
  · exact absurd ‹_› h.2
  all_goals rfl

/-! ### The report of a roll call (R9, R49, R50, R67) -/

/-- The roll call after its report, and whether the report makes a light streak. -/
theorem RollCall.ended_eq (c : RollCall) (light : Bool) (now : Round) :
    c.ended light now =
      ({ c with
          phase := .idle, openRound := none, light := false, answered := false
          followUps := if light && decide (c.followUps < 8) then c.followUps + 1 else 0
          cause := if light && decide (c.followUps < 8) then some .followUp else none
          followUpAt := if light && decide (c.followUps < 8) then some now else none
          streak := if light && !c.answered then (if c.streak < 7 then c.streak + 1 else 0) else 0 },
        light && !c.answered && decide (7 ≤ c.streak)) := by
  unfold RollCall.ended
  cases hblind : light && !c.answered with
  | false => simp
  | true =>
    rcases Nat.lt_or_ge c.streak 7 with hfew | hmany
    · simp [hfew, Nat.not_le.mpr hfew]
    · simp [hmany, Nat.not_lt.mpr hmany]

theorem rollHeadHere_of {s : State} {r : Issued} {n : Round} (hr : s.reception = some r)
    (hopen : s.enrol.roll.openRound = some n) (hphase : s.enrol.roll.phase = .opened)
    (hhead : r.plan.spans.rollHead = true) (hround : r.plan.round = n + 2) : s.rollHeadHere = true := by
  simp [State.rollHeadHere, hr, hopen, hphase, hhead, hround]

/-- The state after the report of a roll call, before the watch has its evidence. -/
def State.rollReported (s : State) (light : Bool) (r : RollCall) : State :=
  ((s.sampleLatch light).modRoll fun _ => r).modSched fun d => { d with rollProgress := none }

theorem execRollCallSpanReport_here {s : State} (hhere : s.rollHeadHere = true) (light : Bool) :
    exec (.rollCallSpanReport light) s = .next (
      let r := s.enrol.roll.ended (s.enrol.roll.light || light) s.clock.round
      if r.2 then (s.rollReported light r.1).evidence else s.rollReported light r.1) := by
  show execRollCallSpanReport light s = _
  rw [execRollCallSpanReport, if_pos hhere]
  rfl

/-- Settles O17: the ruling of the roll call, then the evidence of its eighth blind report. -/
theorem rollCallReported : Obligations.RollCallReported := by
  intro s r n reported hr hopen hphase hhead hround c light blind follow
  rw [execRollCallSpanReport_here (rollHeadHere_of hr hopen hphase hhead hround), RollCall.ended_eq]
  dsimp only
  split
  case isTrue hstreak =>
    have hboth : blind = true ∧ 7 ≤ c.streak := by simpa [blind, light, c] using hstreak
    by_cases hstate : s.watch.state = .clear ∨ s.watch.state = .alert
    · rw [evidence_of_none (s := s.rollReported reported _) rfl hstate]
      exact ⟨_, rfl, rfl, rfl, rfl, fun h => absurd h (by simp [hboth.1, hboth.2]), fun _ _ _ => ⟨rfl, rfl, rfl⟩⟩
    · rw [evidence_of_searching (s := s.rollReported reported _) (not_or.mp hstate)]
      exact ⟨_, rfl, rfl, rfl, rfl, fun _ => rfl, fun _ _ h => absurd h hstate⟩
  case isFalse hstreak =>
    have hnot : ¬ (blind = true ∧ 7 ≤ c.streak) := by simpa [blind, light, c] using hstreak
    exact ⟨_, rfl, rfl, rfl, rfl, fun _ => rfl, fun hblind hseven => absurd ⟨hblind, hseven⟩ hnot⟩

/-! ### The pacing tick (R142) -/

theorem execPacingTick_due {s : State} (hrunning : s.clock.phase = .running)
    (hdue : 4 * s.config.pacing ≤ s.journal.pacing) :
    exec .pacingTick s = .next
      (s.modJournal fun j => { j with pacing := j.pacing % (4 * s.config.pacing) }).offerUsage := by
  show Host.Outcome.next s.pacingTick = _
  rw [State.pacingTick, if_pos ⟨hrunning, hdue⟩]

theorem offerUsage_of_idle {s : State} (h : s.journal.inHand ≠ none ∨ s.journal.nextRecord = none) :
    s.offerUsage = s := by
  unfold State.offerUsage
  split
  case h_1 r hnone hsome => exact absurd h (by simp [hnone, hsome])
  case h_2 => rfl

theorem offerUsage_of_next {s : State} {r : UsageRecord} (hhand : s.journal.inHand = none)
    (hnext : s.journal.nextRecord = some r) :
    s.offerUsage = if (s.link.offer (.usage r)).2 then
      (s.modLink fun _ => (s.link.offer (.usage r)).1).modJournal fun j => { j with inHand := some j.publish } else s := by
  unfold State.offerUsage
  simp only [hhand, hnext]
  split
  case h_1 l hoffer => rw [hoffer]; rfl
  case h_2 l hoffer => rw [hoffer]; rfl

/-- Settles O41: the offer taken, and the three reasons why a tick offers nothing. -/
theorem pacingTickOffers : Obligations.PacingTickOffers := by
  intro s r hrunning hdue
  refine ⟨fun hhand hnext hroom hnone => ?_, fun hnothing => ?_⟩
  · have hoffer : s.link.offer (.usage r) = ({ s.link with
        queue := s.link.queue ++ [{ message := .usage r, attempts := 0, age := s.link.nextAge }]
        nextAge := s.link.nextAge + 1 }, true) := by
      have husage : s.link.queue.any (·.message.isUsage) = false := by
        rw [List.any_eq_false]
        intro e he
        cases hm : e.message with
        | usage q => exact absurd hm (hnone e he q)
        | _ => simp [Message.isUsage]
      simp [Link.offer, husage, Config.queueFrames, Nat.not_le.mpr hroom]
    rw [execPacingTick_due hrunning hdue, offerUsage_of_next (by exact hhand) (by exact hnext)]
    simp only [State.modJournal_link, hoffer, if_true]
    rfl
  · rw [execPacingTick_due hrunning hdue]
    rcases hnothing with hhand | hnext | hfull
    · rw [offerUsage_of_idle (Or.inl (by exact hhand))]
      rfl
    · rw [offerUsage_of_idle (Or.inr (by exact hnext))]
      rfl
    · by_cases hidle : s.journal.inHand ≠ none ∨ s.journal.nextRecord = none
      · rw [offerUsage_of_idle (by exact hidle)]
        rfl
      · obtain ⟨hhand, hnext⟩ := not_or.mp hidle
        obtain ⟨q, hq⟩ := Option.ne_none_iff_exists'.mp hnext
        rw [offerUsage_of_next (by exact not_not.mp hhand) (by exact hq)]
        simp only [State.modJournal_link, offer_of_full (show Config.queueFrames ≤ s.link.queue.length from hfull),
          Bool.false_eq_true, if_false]
        rfl

end Sys2Proof.Machine
end

section
/-! PROOFS. The buffer pool and the meter queue (O34, O35; R82 to R91, R119, R120, R132): reading a context and a tally after
it was written, an offered update, then packets, flushes and the end of a transmission. -/

namespace Sys2Proof.Machine

-- One thread elaborates this section: the text as a whole is near the memory limit of the check.
set_option Elab.async false

/-! ### Reading the metering engine after a write (R120, R122) -/

section Reading

variable (s : State) (i j : SlotId)

theorem modCtx_ctx_self (f : Context → Context) : (s.modCtx i f).ctx i = f (s.ctx i) := by
  rw [State.modCtx_ctx, if_pos rfl]

theorem modMarks_ctx (f : Marks → Marks) :
    (s.modMarks i f).ctx j = if j = i then { s.ctx j with marks := f (s.ctx j).marks } else s.ctx j :=
  State.modCtx_ctx s i j _

theorem modMarks_state (f : Marks → Marks) : ((s.modMarks i f).ctx j).state = (s.ctx j).state := by
  rw [modMarks_ctx]; split <;> rfl

@[simp] theorem modMarks_tally (f : Marks → Marks) (b : Band) : (s.modMarks i f).tally j b = s.tally j b := by
  unfold State.tally
  rw [modMarks_ctx]; split <;> rfl

theorem modTally_ctx (b : Band) (f : Tally → Tally) :
    (s.modTally i b f).ctx j =
      if j = i then { s.ctx j with tallies := putAt (s.ctx j).tallies b (f (s.tally j b)) } else s.ctx j :=
  State.modCtx_ctx s i j _

theorem modTally_tally (b c : Band) (f : Tally → Tally) :
    (s.modTally i b f).tally j c = if j = i ∧ c = b then f (s.tally j c) else s.tally j c := by
  unfold State.tally
  rw [modTally_ctx]
  by_cases hj : j = i
  · rw [if_pos hj]
    dsimp only
    rw [putAt_get]
    by_cases hc : c = b
    · rw [if_pos hc, if_pos ⟨hj, hc⟩, hc]; rfl
    · rw [if_neg hc, if_neg fun h => hc h.2]
  · rw [if_neg hj, if_neg fun h => hj h.1]

@[simp] theorem setOver_ctx (v : ByteCounts) : (s.setOver i v).ctx j = s.ctx j := rfl

@[simp] theorem setOver_tally (v : ByteCounts) (b : Band) : (s.setOver i v).tally j b = s.tally j b := rfl

theorem setOver_spill (v : ByteCounts) : (s.setOver i v).spill j = if j = i then v else s.spill j :=
  putAt_get s.meter.spill i j v

@[simp] theorem modCtx_spill (f : Context → Context) : (s.modCtx i f).spill j = s.spill j := rfl

@[simp] theorem modMarks_spill (f : Marks → Marks) : (s.modMarks i f).spill j = s.spill j := rfl

@[simp] theorem modTally_spill (b : Band) (f : Tally → Tally) : (s.modTally i b f).spill j = s.spill j := rfl

end Reading

/-! ### An update offered to the meter queue (R119, R120) -/

section OfferUpdate

variable (s : State) (i : SlotId) (g : Gen) (kind : MeterKind) (bytes assured : Nat)

theorem offerUpdate_of_room (h : s.meter.queue.length < Config.meterEntries) :
    s.offerUpdate i g kind bytes assured = { s with meter := { s.meter with
      queue := s.meter.queue ++
        [{ slot := i, gen := g, kind := kind, bytes := bytes, assured := assured, band := s.meter.band }]
      taken := s.meter.taken + 1 } } := by
  unfold State.offerUpdate
  exact if_pos h

theorem offerUpdate_of_full (h : Config.meterEntries ≤ s.meter.queue.length) :
    s.offerUpdate i g kind bytes assured =
      (s.setOver i ((s.spill i).add (updateCounts kind bytes assured)).1).modMarks i fun m =>
        { m with late := true }.saturate ((s.spill i).add (updateCounts kind bytes assured)).2 := by
  unfold State.offerUpdate
  exact if_neg (Nat.not_lt.mpr h)

theorem offerUpdate_takes : s.meter.TakesUpdate (s.offerUpdate i g kind bytes assured).meter i g kind bytes assured := by
  intro hroom
  rw [offerUpdate_of_room s i g kind bytes assured hroom]
  exact ⟨rfl, rfl⟩

/-- An offered update writes no context but for its pending marks. -/
theorem offerUpdate_ctx_state (j : SlotId) :
    ((s.offerUpdate i g kind bytes assured).ctx j).state = (s.ctx j).state := by
  rcases Nat.lt_or_ge s.meter.queue.length Config.meterEntries with hroom | hfull
  · rw [offerUpdate_of_room s i g kind bytes assured hroom]; rfl
  · rw [offerUpdate_of_full s i g kind bytes assured hfull, modMarks_state]; rfl

theorem offerUpdate_state :
    s.offerUpdate i g kind bytes assured = { s with meter := (s.offerUpdate i g kind bytes assured).meter } :=
  State.ext_blocks

end OfferUpdate

/-- A packet turned away while the meter queue is full is noted late, and its bytes join the slot's overflow (R120). -/
theorem offerUpdate_drop_of_full {s : State} {i : SlotId} {g : Gen} {bytes : Nat} (hfull : 64 ≤ s.meter.queue.length) :
    (s.offerUpdate i g .drop bytes 0).meter.queue = s.meter.queue
      ∧ (s.offerUpdate i g .drop bytes 0).meter.taken = s.meter.taken
      ∧ ((s.offerUpdate i g .drop bytes 0).ctx i).marks.late = true
      ∧ ((s.offerUpdate i g .drop bytes 0).spill i).dropped = min ((s.spill i).dropped + bytes) 1099511627775 := by
  rw [offerUpdate_of_full s i g .drop bytes 0 hfull]
  refine ⟨rfl, rfl, ?_, ?_⟩
  · rw [modMarks_ctx, if_pos rfl]; rfl
  · rw [modMarks_spill, setOver_spill, if_pos rfl]; rfl

/-! ### Packets at the network port (R82, R83) -/

theorem badTag_eq_true_iff (t : Half) : badTag t = true ↔ t.toNat = 0 ∨ 4095 < t.toNat := by
  have hzero : t = 0#16 ↔ t.toNat = 0 := ⟨fun h => by rw [h]; rfl, fun h => BitVec.eq_of_toNat_eq h⟩
  simp [badTag, hzero]

theorem slotOfTag_of_bad {s : State} {tag : Half} (h : tag.toNat = 0 ∨ 4095 < tag.toNat ∨ s.entryOfTag tag = none) :
    s.slotOfTag tag = none := by
  unfold State.slotOfTag
  by_cases hbad : badTag tag = true
  · exact if_pos hbad
  · have hnone : s.entryOfTag tag = none := by
      rcases h with h | h | h
      · exact absurd ((badTag_eq_true_iff tag).mpr (Or.inl h)) hbad
      · exact absurd ((badTag_eq_true_iff tag).mpr (Or.inr h)) hbad
      · exact h
    rw [if_neg hbad, hnone]
    rfl

theorem slotOfTag_of_entry {s : State} {tag : Half} {e : ProvisionEntry} (hlow : 1 ≤ tag.toNat)
    (hhigh : tag.toNat ≤ 4095) (hentry : s.entryOfTag tag = some e) : s.slotOfTag tag = s.holder e.serial := by
  have hgood : ¬ badTag tag = true := fun h => by
    rcases (badTag_eq_true_iff tag).mp h with h | h <;> omega
  unfold State.slotOfTag
  rw [if_neg hgood, hentry]
  rfl

theorem enqueue_queue (s : State) (i j : SlotId) (content : List Byte) :
    (s.enqueue i content).queue j =
      if j = i then { s.queue j with packets := (s.queue j).packets ++ [content] } else s.queue j := by
  show (s.modQueue i fun q => { q with packets := q.packets ++ [content] }).queue j = _
  rw [State.modQueue_queue]

theorem queueRefuses_iff (s : State) (i : SlotId) (b : Nat) :
    s.queueRefuses i b = true ↔
      ¬ (packetBlocks (s.queue i).packets + b ≤ (s.slotProfile i).queueLimit
        ∧ (s.down.pressure = true → packetBlocks (s.queue i).packets < 32) ∧ b ≤ s.down.free) := by
  simp only [State.queueRefuses, Bool.or_eq_true, Bool.and_eq_true, decide_eq_true_iff]
  cases s.down.pressure with
  | true => simp only [true_and, true_implies]; omega
  | false => simp only [Bool.false_eq_true, false_and, or_false, false_implies, true_and]; omega

theorem execPacketIngress_unled {s : State} {tag : Half} {content : List Byte} (h : s.slotOfTag tag = none) :
    exec (.packetIngress tag content) s = .next s := by
  show execPacketIngress tag content s = _
  rw [execPacketIngress, h]
  split <;> rfl

/-- A packet of a good length whose tag leads to a slot, by the slot's state (R82). -/
theorem execPacketIngress_led {s : State} {tag : Half} {content : List Byte} {i : SlotId} (hshort : 64 ≤ content.length)
    (hlong : content.length ≤ 2048) (hslot : s.slotOfTag tag = some i) :
    exec (.packetIngress tag content) s = .next (
      if (s.slot i).state = .active ∨ (s.slot i).state = .resuming then
        if s.queueRefuses i (blocksOf content) then s.dropPacket i content else s.enqueue i content
      else if (s.slot i).metered then s.dropPacket i content else s) := by
  show execPacketIngress tag content s = _
  have hlength : ¬ (content.length < 64 ∨ 2048 < content.length) := by omega
  rw [execPacketIngress, if_neg hlength, hslot]
  dsimp only
  cases (s.slot i).state <;> simp

/-- Settles O34, by the lines of R82's table. -/
theorem packetIngressDecided : Obligations.PacketIngressDecided := by
  intro s tag content
  refine ⟨fun h => ?_, fun e hshort hlong hlow hhigh hentry => ⟨fun hnone => ?_, ?_⟩⟩
  · rcases h with hlength | hlength | h
    · show execPacketIngress tag content s = _
      rw [execPacketIngress, if_pos (Or.inl hlength)]
    · show execPacketIngress tag content s = _
      rw [execPacketIngress, if_pos (Or.inr hlength)]
    · exact execPacketIngress_unled (slotOfTag_of_bad h)
  · exact execPacketIngress_unled ((slotOfTag_of_entry hlow hhigh hentry).trans hnone)
  · intro i hholder b held takes open_
    rw [execPacketIngress_led hshort hlong ((slotOfTag_of_entry hlow hhigh hentry).trans hholder)]
    have htakes : s.queueRefuses i (blocksOf content) = true ↔ ¬ takes := queueRefuses_iff s i (blocksOf content)
    have hdropped : (s.dropPacket i content).down = s.down
        ∧ s.meter.TakesUpdate (s.dropPacket i content).meter i (s.slot i).gen .drop content.length 0
        ∧ (64 ≤ s.meter.queue.length → (s.dropPacket i content).meter.queue = s.meter.queue
          ∧ (s.dropPacket i content).meter.taken = s.meter.taken
          ∧ ((s.dropPacket i content).ctx i).marks.late = true
          ∧ ((s.dropPacket i content).spill i).dropped = min ((s.spill i).dropped + content.length) 1099511627775) :=
      ⟨by simp, offerUpdate_takes s i (s.slot i).gen .drop content.length 0, fun hfull => offerUpdate_drop_of_full hfull⟩
    by_cases hopen : open_
    · rw [if_pos hopen]
      by_cases htaken : takes
      · rw [if_neg fun h => htakes.mp h htaken]
        refine ⟨_, rfl, rfl, fun _ _ => ⟨rfl, ?_, fun j hj => ?_, rfl, rfl⟩, fun h => ?_, fun h => absurd hopen h⟩
        · rw [enqueue_queue, if_pos rfl]
        · rw [enqueue_queue, if_neg hj]
        · rcases h with ⟨_, hnot⟩ | ⟨hnot, _⟩
          · exact absurd htaken hnot
          · exact absurd hopen hnot
      · rw [if_pos (htakes.mpr htaken)]
        exact ⟨_, rfl, State.ext_blocks, fun _ h => absurd h htaken, fun _ => hdropped, fun h => absurd hopen h⟩
    · rw [if_neg hopen]
      cases hmetered : (s.slot i).metered with
      | true =>
        exact ⟨_, rfl, State.ext_blocks, fun h => absurd h hopen, fun _ => hdropped, fun _ h => Bool.noConfusion h⟩
      | false =>
        refine ⟨s, rfl, rfl, fun h => absurd h hopen, fun h => ?_, fun _ _ => rfl⟩
        rcases h with ⟨h, _⟩ | ⟨_, h⟩
        · exact absurd h hopen
        · exact Bool.noConfusion h

/-! ### Flushes (R33, R91, R132) -/

theorem ensureOpen_of_some {s : State} {i : SlotId} (h : (s.ctx i).state ≠ .none) : s.ensureOpen i = s := if_neg h

/-- A final-close request writes contexts only: the meter queue, its counts and the accumulators stand. -/
theorem finalRequest_kept (s : State) (i : SlotId) (g : Gen) (reason : CloseReason) (mark : Seq) :
    (s.finalRequest i g reason mark).meter =
      { s.meter with ctx := (s.finalRequest i g reason mark).meter.ctx } := by
  have hopened : (s.ensureOpen i).meter = { s.meter with ctx := (s.ensureOpen i).meter.ctx } := by
    unfold State.ensureOpen
    split <;> rfl
  unfold State.finalRequest
  split
  · split
    · rfl
    · rfl
    all_goals
      show ((s.ensureOpen i).modCtx i _).meter = _
      rw [State.modCtx, State.modMeter_meter, hopened]
  · rfl

theorem finalRequest_opened {s : State} {i : SlotId} {g : Gen} (reason : CloseReason) (mark : Seq)
    (hgen : (s.slot i).gen = g) (hctx : (s.ctx i).state = .opened) :
    (s.finalRequest i g reason mark).ctx i = { s.ctx i with
      state := .draining, closeReason := some reason, drainMark := mark } := by
  unfold State.finalRequest
  rw [if_pos hgen, hctx]
  dsimp only
  have hnotOwed : (CtxState.opened == CtxState.owed) = false := rfl
  rw [ensureOpen_of_some (by simp [hctx]), modCtx_ctx_self]
  simp [hnotOwed]

theorem flushDone_kept (s : State) (i : SlotId) (g : Gen) :
    (s.flushDone i g).meter = { s.meter with ctx := (s.flushDone i g).meter.ctx } := by
  unfold State.flushDone
  split
  · exact finalRequest_kept ..
  · rfl

theorem flushDone_opened {s : State} {i : SlotId} {g : Gen} {reason : CloseReason} (hstate : (s.slot i).state = .closing)
    (hreason : (s.slot i).closeReason = some reason) (hgen : (s.slot i).gen = g) (hctx : (s.ctx i).state = .opened) :
    (s.flushDone i g).ctx i = { s.ctx i with
      state := .draining, closeReason := some reason, drainMark := s.meter.taken } := by
  unfold State.flushDone
  rw [hstate, hreason]
  exact finalRequest_opened reason s.meter.taken hgen hctx

/-- A flush empties the slot's queue into the pool, and offers one DROP update for the bytes, if any. -/
theorem flushQueue_down (s : State) (i : SlotId) (g : Gen) :
    (s.flushQueue i g).down = { s.down with
      queues := putAt s.down.queues i { packets := [], deficit := 0, held := false }
      free := s.down.free + packetBlocks (s.queue i).packets
      pressure := s.down.pressure
        && decide (s.down.free + packetBlocks (s.queue i).packets ≤ s.config.poolHigh) } := by
  unfold State.flushQueue
  dsimp only
  split
  · rfl
  · rw [offerUpdate_state]; rfl

theorem flushQueue_queue (s : State) (i j : SlotId) (g : Gen) :
    (s.flushQueue i g).queue j = if j = i then { packets := [], deficit := 0, held := false } else s.queue j := by
  unfold State.queue
  rw [flushQueue_down]
  exact putAt_get ..

theorem flushQueue_meter_of_empty {s : State} {i : SlotId} (g : Gen) (h : packetSum (s.queue i).packets = 0) :
    (s.flushQueue i g).meter = s.meter := by
  unfold State.flushQueue
  dsimp only
  rw [if_pos h]
  rfl

/-- A flush of bytes offers their DROP update in a state whose metering engine is the one before the flush. -/
theorem flushQueue_of_bytes {s : State} {i : SlotId} (g : Gen) (h : packetSum (s.queue i).packets ≠ 0) :
    ∃ u : State, u.meter = s.meter ∧ s.flushQueue i g = u.offerUpdate i g .drop (packetSum (s.queue i).packets) 0 := by
  unfold State.flushQueue
  dsimp only
  rw [if_neg h]
  refine ⟨_, ?_, rfl⟩
  rfl

theorem flushQueue_takes {s : State} {i : SlotId} (g : Gen) (h : packetSum (s.queue i).packets ≠ 0) :
    s.meter.TakesUpdate (s.flushQueue i g).meter i g .drop (packetSum (s.queue i).packets) 0 := by
  obtain ⟨u, hu, hflush⟩ := flushQueue_of_bytes g h
  rw [hflush, ← hu]
  exact offerUpdate_takes u i g .drop (packetSum (s.queue i).packets) 0

theorem flushQueue_ctx_state (s : State) (i j : SlotId) (g : Gen) :
    ((s.flushQueue i g).ctx j).state = (s.ctx j).state := by
  by_cases h : packetSum (s.queue i).packets = 0
  · unfold State.ctx
    rw [flushQueue_meter_of_empty g h]
  · obtain ⟨u, hu, hflush⟩ := flushQueue_of_bytes g h
    rw [hflush, offerUpdate_ctx_state]
    unfold State.ctx
    rw [hu]

theorem execQueueFlush_first {s : State} {f : Flush} {rest : List Flush} (h : s.down.flushes = f :: rest) :
    exec .queueFlush s = .next (
      let u := (s.modDown fun d => { d with flushes := rest }).flushQueue f.slot f.gen
      if f.closing then u.flushDone f.slot f.gen else u) := by
  show execQueueFlush s = _
  rw [execQueueFlush, h]

/-- The report of a flush done writes the contexts only. -/
theorem flushDone_state (s : State) (i : SlotId) (g : Gen) :
    s.flushDone i g = { s with meter := { s.meter with ctx := (s.flushDone i g).meter.ctx } } :=
  State.ext_blocks (meter := flushDone_kept s i g)

/-- Settles O35: the flush of one slot with its report, and the blocks of a round sent. -/
theorem blocksReturn : Obligations.BlocksReturn := by
  refine ⟨?_, fun s => ⟨fun hnone => ?_, fun hsome => ?_⟩⟩
  · intro s f rest hflushes packets blocks bytes
    have hexec := execQueueFlush_first hflushes
    generalize hs' : (s.modDown fun d => { d with flushes := rest }) = s' at hexec
    have hkept : s' = { s with down := { s.down with flushes := rest } } := hs'.symm
    have hqueue : ∀ j, s'.queue j = s.queue j := fun j => by rw [hkept]; rfl
    have hctx : ∀ j, s'.ctx j = s.ctx j := fun j => by rw [hkept]; rfl
    have hmeter : s'.meter = s.meter := by rw [hkept]
    have hslot : (s'.flushQueue f.slot f.gen).slot f.slot = s.slot f.slot :=
      slot_congr (by rw [(State.flushQueue_frame s' f.slot f.gen).2.1, hkept]) f.slot
    have hbytes : bytes = packetSum (s'.queue f.slot).packets := by rw [hqueue]; rfl
    have htaken : 0 < bytes →
        s.meter.TakesUpdate (s'.flushQueue f.slot f.gen).meter f.slot f.gen .drop bytes 0 := fun h => by
      rw [hbytes] at h ⊢
      exact hmeter ▸ flushQueue_takes f.gen (Nat.pos_iff_ne_zero.mp h)
    have hnone : bytes = 0 → (s'.flushQueue f.slot f.gen).meter = s.meter := fun h =>
      (flushQueue_meter_of_empty f.gen (hbytes ▸ h)).trans hmeter
    have hflushed : ∀ j, (s'.flushQueue f.slot f.gen).queue j =
        if j = f.slot then { packets := [], deficit := 0, held := false } else s.queue j := fun j => by
      rw [flushQueue_queue, hqueue]
    rw [hexec]
    dsimp only
    split
    case isTrue hclosing =>
      rw [flushDone_state]
      refine ⟨_, rfl, ?_, ?_, ?_, fun j hj => ?_, ?_, ?_, fun h => ?_, htaken,
        fun h => absurd hclosing (by simp [h]), fun reason _ hstate hreason hgen hopened => ?_⟩
      · subst hs'; exact State.ext_blocks
      · rw [flushQueue_down, hkept]
      · exact (hflushed f.slot).trans (if_pos rfl)
      · exact (hflushed j).trans (if_neg hj)
      · rw [flushQueue_down, hkept]; rfl
      · rw [flushQueue_down, hkept]; rfl
      · rw [hnone h]; exact ⟨rfl, rfl⟩
      · have hdone := flushDone_opened (s := s'.flushQueue f.slot f.gen) (i := f.slot) (g := f.gen) (reason := reason)
          (by rw [hslot, hstate]) (by rw [hslot, hreason]) (by rw [hslot, hgen])
          (by rw [flushQueue_ctx_state, hctx, hopened])
        unfold State.ctx at hdone ⊢
        dsimp only
        rw [hdone]
        exact ⟨rfl, rfl, rfl⟩
    case isFalse hclosing =>
      refine ⟨_, rfl, ?_, ?_, ?_, fun j hj => ?_, ?_, ?_, fun h => ?_, htaken,
        fun _ => by rw [flushQueue_ctx_state, hctx], fun _ h => absurd h hclosing⟩
      · subst hs'; exact State.ext_blocks
      · rw [flushQueue_down, hkept]
      · exact (hflushed f.slot).trans (if_pos rfl)
      · exact (hflushed j).trans (if_neg hj)
      · rw [flushQueue_down, hkept]; rfl
      · rw [flushQueue_down, hkept]; rfl
      · rw [hnone h]; exact ⟨rfl, rfl⟩
  · show Host.Outcome.next s.endTransmission = _
    unfold State.endTransmission
    dsimp only
    rw [if_pos hnone]
    rfl
  · show Host.Outcome.next s.endTransmission = _
    unfold State.endTransmission
    dsimp only
    rw [if_neg hsome]
    rfl

end Sys2Proof.Machine
end

section
/-! PROOFS. The district roster and quarantine (O44, O54; R167 to R180): the oldest of a list, the contested flag, a CLAIM
recorded, a BAR taken, and the roster's timers. -/

namespace Sys2Proof.Machine

-- One thread elaborates this section: the text as a whole is near the memory limit of the check.
set_option Elab.async false

/-! ### The first of the best of a list -/

/-- The element that a scan keeps, which replaces what it has by one that `better` prefers to it. -/
def pickBest {α : Type} (better : α → α → Bool) (best : Option α) (e : α) : Option α :=
  match best with
  | none => some e
  | some b => if better e b then some e else some b

section PickBest

variable {α : Type} {better : α → α → Bool}

theorem foldl_pickBest_mem (l : List α) : ∀ b ∈ l.foldl (pickBest better) none, b ∈ l := by
  suffices h : ∀ (l : List α) (best : Option α), ∀ b ∈ l.foldl (pickBest better) best, b ∈ best ∨ b ∈ l by
    intro b hb
    exact (h l none b hb).resolve_left (by simp)
  intro l
  induction l with
  | nil => exact fun best b hb => Or.inl hb
  | cons a l ih =>
    intro best b hb
    rcases ih _ b hb with hpick | hl
    · unfold pickBest at hpick
      cases best with
      | none => exact Or.inr (by simp_all)
      | some c =>
        dsimp only at hpick
        split at hpick
        · exact Or.inr (by simp_all)
        · exact Or.inl hpick
    · exact Or.inr (List.mem_cons_of_mem _ hl)

theorem foldl_pickBest_stays {l : List α} {o : α} (h : ∀ e ∈ l, better e o = false) :
    l.foldl (pickBest better) (some o) = some o := by
  induction l with
  | nil => rfl
  | cons a l ih =>
    rw [List.foldl_cons, pickBest, if_neg (by simp [h a List.mem_cons_self])]
    exact ih fun e he => h e (List.mem_cons_of_mem _ he)

/-- The element preferred to all before it, and to which none after it is preferred, is the one kept. -/
theorem foldl_pickBest_eq {pre post : List α} {o : α} (hpre : ∀ e ∈ pre, better o e = true)
    (hpost : ∀ e ∈ post, better e o = false) : (pre ++ o :: post).foldl (pickBest better) none = some o := by
  rw [List.foldl_append, List.foldl_cons]
  have hpick : pickBest better (pre.foldl (pickBest better) none) o = some o := by
    cases hbest : pre.foldl (pickBest better) none with
    | none => rfl
    | some b => exact if_pos (hpre b (foldl_pickBest_mem pre b hbest))
  rw [hpick, foldl_pickBest_stays hpost]

end PickBest

theorem oldestClaim_eq (now : Round) (cs : List Claim) :
    oldestClaim now cs =
      cs.foldl (pickBest fun c b => decide ((now - b.lastHeard).toNat < (now - c.lastHeard).toNat)) none := by
  unfold oldestClaim
  congr 1
  funext best c
  cases best with
  | none => rfl
  | some b => exact if_congr (by simp [since]) rfl rfl

theorem earliestBar_eq (qs : List Quarantine) :
    earliestBar qs = qs.foldl (pickBest fun q b => decide (q.time.toNat < b.time.toNat)) none := by
  unfold earliestBar
  congr 1
  funext best c
  cases best with
  | none => rfl
  | some b => exact if_congr (by simp) rfl rfl

theorem oldestClaim_of {now : Round} {pre post : List Claim} {o : Claim}
    (hpre : ∀ c ∈ pre, (now - c.lastHeard).toNat < (now - o.lastHeard).toNat)
    (hpost : ∀ c ∈ post, (now - c.lastHeard).toNat ≤ (now - o.lastHeard).toNat) :
    oldestClaim now (pre ++ o :: post) = some o := by
  rw [oldestClaim_eq]
  exact foldl_pickBest_eq (fun c hc => decide_eq_true (hpre c hc))
    fun c hc => decide_eq_false (Nat.not_lt.mpr (hpost c hc))

theorem earliestBar_of {pre post : List Quarantine} {o : Quarantine}
    (hpre : ∀ q ∈ pre, o.time.toNat < q.time.toNat) (hpost : ∀ q ∈ post, o.time.toNat ≤ q.time.toNat) :
    earliestBar (pre ++ o :: post) = some o := by
  rw [earliestBar_eq]
  exact foldl_pickBest_eq (fun q hq => decide_eq_true (hpre q hq))
    fun q hq => decide_eq_false (Nat.not_lt.mpr (hpost q hq))

theorem erase_middle {α : Type} [BEq α] [LawfulBEq α] {pre post : List α} {o : α} (h : o ∉ pre) :
    (pre ++ o :: post).erase o = pre ++ post := by
  rw [List.erase_append_right _ h, List.erase_cons_head]

/-! ### Which slot holds a serial, and its contested flag (R23, R174) -/

/-- The holder of a serial depends on the slots' states and serials only. -/
theorem holder_congr {s t : State} (h : ∀ i, (t.slot i).state = (s.slot i).state ∧ (t.slot i).serial = (s.slot i).serial)
    (x : Serial) : t.holder x = s.holder x := by
  unfold State.holder
  congr 1
  funext i
  simp [SlotRecord.holds, h i]

theorem holder_eq_of_home {s t : State} (h : t.home = s.home) (x : Serial) : t.holder x = s.holder x :=
  holder_congr (fun i => by rw [slot_congr h]; exact ⟨rfl, rfl⟩) x

theorem serial_of_holder {s : State} {x : Serial} {i : SlotId} (h : s.holder x = some i) :
    (s.slot i).state ≠ .free ∧ (s.slot i).serial = some x := by
  have hholds : (s.slot i).holds x = true := List.find?_some (p := fun j => (s.slot j).holds x) h
  simpa [SlotRecord.holds] using hholds

theorem updateContested_slot (s : State) (x : Serial) (j : SlotId) :
    (s.updateContested x).slot j =
      if s.holder x = some j then { s.slot j with contested := s.foreignClaim x } else s.slot j := by
  unfold State.updateContested
  cases hholder : s.holder x with
  | none => simp
  | some i =>
    dsimp only
    rw [State.modSlot_slot]
    simp [eq_comm]

theorem updateContested_state (s : State) (x : Serial) :
    s.updateContested x = { s with home := { s.home with slots := (s.updateContested x).home.slots } } := by
  unfold State.updateContested
  split <;> rfl

theorem updateContested_roster (s : State) (x : Serial) : (s.updateContested x).roster = s.roster := by
  rw [updateContested_state]

theorem holder_updateContested (s : State) (x y : Serial) : (s.updateContested x).holder y = s.holder y :=
  holder_congr (fun i => by rw [updateContested_slot]; split <;> exact ⟨rfl, rfl⟩) y

/-- The contested flag written for a list of serials, each as the roster then holds it: the slots that hold one of them
take the roster's finding for their own serial, and the others stand. -/
theorem foldl_updateContested_slot (cs : List Claim) (s : State) (j : SlotId) :
    (cs.foldl (fun s c => s.updateContested c.serial) s).slot j = { s.slot j with
      contested := if ∃ c ∈ cs, s.holder c.serial = some j then s.foreignClaim ((s.slot j).serial.getD 0)
        else (s.slot j).contested } := by
  induction cs generalizing s with
  | nil => simp
  | cons c cs ih =>
    have hclaim : ∀ x, (s.updateContested c.serial).foreignClaim x = s.foreignClaim x := fun x => by
      unfold State.foreignClaim
      rw [updateContested_roster]
    rw [List.foldl_cons, ih, updateContested_slot]
    simp only [holder_updateContested, hclaim, List.exists_mem_cons_iff]
    by_cases hhead : s.holder c.serial = some j
    · have hserial : (s.slot j).serial = some c.serial := (serial_of_holder hhead).2
      simp [hhead, hserial]
    · simp [hhead]

theorem foldl_updateContested_state (cs : List Claim) (s : State) :
    cs.foldl (fun s c => s.updateContested c.serial) s =
      { s with home := (cs.foldl (fun s c => s.updateContested c.serial) s).home } := by
  induction cs generalizing s with
  | nil => rfl
  | cons c cs ih =>
    rw [List.foldl_cons, ih, updateContested_state]

/-! ### A CLAIM recorded (R172, R174) -/

section RecordClaim

variable {s : State} {x : Serial} {p : Byte} {t : DTime}

theorem recordClaim_known (h : ∃ c ∈ s.roster.claims, c.serial = x ∧ c.holder = p) :
    s.recordClaim x p t = (s.modRoster fun r => { r with
      claims := r.claims.map fun c =>
        if c.serial = x ∧ c.holder = p then { c with time := t, lastHeard := s.clock.round } else c }, false) := by
  unfold State.recordClaim
  exact if_pos (by simpa using h)

theorem recordClaim_new (h : ¬ ∃ c ∈ s.roster.claims, c.serial = x ∧ c.holder = p) :
    s.recordClaim x p t = ((s.evictClaim.modRoster fun r => { r with
      claims := r.claims ++ [{ serial := x, holder := p, time := t, lastHeard := s.clock.round }] }).updateContested x,
      true) := by
  unfold State.recordClaim
  exact if_neg (by simpa using h)

end RecordClaim

theorem evictClaim_of_room {s : State} (h : s.roster.claims.length < 1024) : s.evictClaim = s :=
  if_neg (Nat.not_le.mpr h)

theorem evictClaim_of_full {s : State} {pre post : List Claim} {o : Claim} (hfull : 1024 ≤ s.roster.claims.length)
    (hclaims : s.roster.claims = pre ++ o :: post)
    (hpre : ∀ c ∈ pre, (s.clock.round - c.lastHeard).toNat < (s.clock.round - o.lastHeard).toNat)
    (hpost : ∀ c ∈ post, (s.clock.round - c.lastHeard).toNat ≤ (s.clock.round - o.lastHeard).toNat) :
    s.evictClaim = (s.modRoster fun r => { r with claims := pre ++ post }).updateContested o.serial := by
  have hnotin : o ∉ pre := fun ho => absurd (hpre o ho) (Nat.lt_irrefl _)
  unfold State.evictClaim
  rw [if_pos hfull, hclaims, State.now, oldestClaim_of hpre hpost]
  dsimp only
  congr 1
  unfold State.modRoster
  dsimp only
  rw [hclaims, erase_middle hnotin]

/-- The contest rule writes the decisions and the claim-due marks only. -/
theorem contest_state (s : State) (i : SlotId) (x : Serial) (p : Byte) (t : DTime) (standing inserted : Bool) :
    s.contest i x p t standing inserted = { s with roster := { s.roster with
      claimDue := (s.contest i x p t standing inserted).roster.claimDue
      decisions := (s.contest i x p t standing inserted).roster.decisions } } := by
  unfold State.contest
  split
  · rfl
  · rfl
  · split
    · split
      · rfl
      · split <;> rfl
    · rfl
  all_goals rfl

/-- A CLAIM taken writes, beside what the record of it writes, the decisions and the claim-due marks only. -/
theorem takeClaim_state (s : State) (p : Byte) (x : Serial) (t : DTime) (standing : Bool) :
    s.takeClaim p x t standing = { (s.recordClaim x p t).1 with
      roster := { (s.recordClaim x p t).1.roster with
        claimDue := (s.takeClaim p x t standing).roster.claimDue
        decisions := (s.takeClaim p x t standing).roster.decisions } } := by
  unfold State.takeClaim
  dsimp only
  split
  · rfl
  · exact contest_state ..

/-- A CLAIM recorded writes the slots' contested flags and the roster's entries only. -/
theorem recordClaim_state (s : State) (p : Byte) (x : Serial) (t : DTime) :
    (s.recordClaim x p t).1 = { s with
      home := { s.home with slots := (s.recordClaim x p t).1.home.slots }
      roster := { s.roster with claims := (s.recordClaim x p t).1.roster.claims } } := by
  by_cases hknown : ∃ c ∈ s.roster.claims, c.serial = x ∧ c.holder = p
  · rw [recordClaim_known hknown]
    rfl
  · have hevict : s.evictClaim = { s with
        home := { s.home with slots := s.evictClaim.home.slots }
        roster := { s.roster with claims := s.evictClaim.roster.claims } } := by
      unfold State.evictClaim
      split
      · split
        · rfl
        · rw [updateContested_state]; rfl
      · rfl
    rw [recordClaim_new hknown]
    dsimp only
    rw [updateContested_state, hevict]
    rfl

/-- The holder of a serial stands when a CLAIM is recorded: only contested flags are written. -/
theorem holder_recordClaim (s : State) (p : Byte) (x y : Serial) (t : DTime) :
    (s.recordClaim x p t).1.holder y = s.holder y := by
  by_cases hknown : ∃ c ∈ s.roster.claims, c.serial = x ∧ c.holder = p
  · rw [recordClaim_known hknown]
    rfl
  · have hevict : s.evictClaim.holder y = s.holder y := by
      unfold State.evictClaim
      split
      · split
        · rfl
        · rw [holder_updateContested]; rfl
      · rfl
    rw [recordClaim_new hknown]
    dsimp only
    rw [holder_updateContested, ← hevict]
    rfl

theorem foreignClaim_append_self (s : State) (c : Claim) :
    (s.modRoster fun r => { r with claims := r.claims ++ [c] }).foreignClaim c.serial = true := by
  simp [State.foreignClaim, State.modRoster]

/-- A CLAIM from a peer: the entry refreshed or inserted, with its effect on the contested flags. -/
theorem execFrameReceive_claim {s : State} {bytes : List Byte} {p : Byte} {x : Serial} {time : DTime} {standing : Bool}
    (hother : ∀ age, s.link.phase = .sending age → bytes ≠ s.link.wire)
    (hframe : receivedFrame s.station bytes = some (.claim p x time standing)) :
    exec (.frameReceive bytes) s = .next (s.takeClaim p x time standing) :=
  execFrameReceive_accepted hother hframe

theorem claimRecorded (s : State) (bytes : List Byte) (p : Byte) (x : Serial) (time : DTime) (standing : Bool)
    (hother : ∀ age, s.link.phase = .sending age → bytes ≠ s.link.wire)
    (hframe : receivedFrame s.station bytes = some (.claim p x time standing)) :
    let known := ∃ c ∈ s.roster.claims, c.serial = x ∧ c.holder = p
    let entry : Claim := { serial := x, holder := p, time := time, lastHeard := s.clock.round }
    let age : Claim → Nat := fun c => (s.clock.round - c.lastHeard).toNat
    ∃ t, exec (.frameReceive bytes) s = .next t
      ∧ t = { s with
          home := { s.home with slots := t.home.slots }
          roster := { s.roster with
            claims := t.roster.claims, claimDue := t.roster.claimDue, decisions := t.roster.decisions } }
      ∧ (s.holder x = none → t.roster.claimDue = s.roster.claimDue ∧ t.roster.decisions = s.roster.decisions)
      ∧ (known → t.home = s.home
        ∧ t.roster.claims = s.roster.claims.map fun c =>
          if c.serial = x ∧ c.holder = p then { c with time := time, lastHeard := s.clock.round } else c)
      ∧ (¬ known → s.roster.claims.length < 1024 →
        t.roster.claims = s.roster.claims ++ [entry]
          ∧ ∀ j, t.slot j = if s.holder x = some j then { s.slot j with contested := true } else s.slot j)
      ∧ (∀ (pre post : List Claim) (o : Claim), ¬ known → 1024 ≤ s.roster.claims.length →
        s.roster.claims = pre ++ o :: post → (∀ c ∈ pre, age c < age o) → (∀ c ∈ post, age c ≤ age o) →
        t.roster.claims = pre ++ post ++ [entry]
          ∧ ∀ j, t.slot j =
            if s.holder x = some j then { s.slot j with contested := true }
            else if s.holder o.serial = some j then
              { s.slot j with contested := (pre ++ post).any fun c => decide (c.serial = o.serial) }
            else s.slot j) := by
  intro known entry age
  have htaken := takeClaim_state s p x time standing
  have hrecord := recordClaim_state s p x time
  have hhome : (s.takeClaim p x time standing).home = (s.recordClaim x p time).1.home := by rw [htaken]
  have hclaims : (s.takeClaim p x time standing).roster.claims = (s.recordClaim x p time).1.roster.claims := by
    rw [htaken]
  refine ⟨_, execFrameReceive_claim hother hframe, ?_, fun hnone => ?_, fun hknown => ?_, fun hnew hroom => ?_,
    fun pre post o hnew hfull hlist hpre hpost => ?_⟩
  · rw [hhome, hclaims]
    rw [hrecord] at htaken
    exact htaken
  · have hunheld : (s.recordClaim x p time).1.holder x = none := (holder_recordClaim s p x x time).trans hnone
    have hplain : s.takeClaim p x time standing = (s.recordClaim x p time).1 := by
      unfold State.takeClaim
      dsimp only
      rw [hunheld]
    rw [hplain, hrecord]
    exact ⟨rfl, rfl⟩
  · rw [hhome, hclaims, recordClaim_known hknown]
    exact ⟨rfl, rfl⟩
  · have hrec := recordClaim_new (t := time) hnew
    rw [evictClaim_of_room hroom] at hrec
    refine ⟨by rw [hclaims, hrec, updateContested_roster]; rfl, fun j => ?_⟩
    rw [slot_congr hhome, hrec, updateContested_slot, foreignClaim_append_self s entry]
    rfl
  · have hrec := recordClaim_new (t := time) hnew
    rw [evictClaim_of_full hfull hlist hpre hpost] at hrec
    refine ⟨?_, fun j => ?_⟩
    · rw [hclaims, hrec, updateContested_roster]
      show (((s.modRoster fun r => { r with claims := pre ++ post }).updateContested o.serial).roster.claims ++ [entry]) = _
      rw [updateContested_roster]
      rfl
    · rw [slot_congr hhome, hrec, updateContested_slot, foreignClaim_append_self _ entry]
      show (if ((s.modRoster fun r => { r with claims := pre ++ post }).updateContested o.serial).holder x = some j then
          { ((s.modRoster fun r => { r with claims := pre ++ post }).updateContested o.serial).slot j with
            contested := true }
        else ((s.modRoster fun r => { r with claims := pre ++ post }).updateContested o.serial).slot j) = _
      rw [holder_updateContested, updateContested_slot]
      show (if s.holder x = some j then _ else if s.holder o.serial = some j then _ else s.slot j) = _
      split
      · split <;> rfl
      · rfl

end Sys2Proof.Machine
end

section
/-! PROOFS. The other frames of a peer and the roster's timers (O44, O54; R168, R173, R177 to R180). -/

namespace Sys2Proof.Machine

-- One thread elaborates this section: the text as a whole is near the memory limit of the check.
set_option Elab.async false

/-! ### A RELEASE, a BAR and an UNBAR taken (R173, R179, R180) -/

theorem takeRelease_unknown {s : State} {p : Byte} {x : Serial}
    (h : ∀ c ∈ s.roster.claims, ¬ (c.serial = x ∧ c.holder = p)) : s.takeRelease p x = s := by
  unfold State.takeRelease
  exact if_neg (by simpa using h)

theorem takeRelease_known {s : State} {p : Byte} {x : Serial}
    (h : ∃ c ∈ s.roster.claims, c.serial = x ∧ c.holder = p) :
    s.takeRelease p x = (s.modRoster fun r => { r with
      claims := r.claims.filter fun c => ¬ (c.serial = x ∧ c.holder = p) }).updateContested x := by
  have hfilter : ∀ c : Claim, (!(c.serial == x && c.holder == p)) = decide (¬ (c.serial = x ∧ c.holder = p)) := fun c =>
    Bool.eq_iff_iff.mpr (by simp)
  unfold State.takeRelease
  rw [if_pos (by simpa using h)]
  simp only [hfilter]

theorem takeBar_held {s : State} {p : Byte} {x : Serial} {reason : BarReason} {t : DTime} {i : SlotId}
    (h : s.holder x = some i) : s.takeBar p x reason t = s := by
  unfold State.takeBar
  exact if_pos (by rw [h]; rfl)

theorem takeBar_new {s : State} {p : Byte} {x : Serial} {reason : BarReason} {t : DTime} (hunheld : s.holder x = none)
    (hfind : s.roster.quarantine.find? (·.serial == x) = none) :
    s.takeBar p x reason t = { s with
      roster := s.roster.quarantineAdd s.station { serial := x, reason := reason, origin := p, time := t } } := by
  unfold State.takeBar State.modRoster
  dsimp only
  rw [if_neg (by simp [hunheld]), hfind]

theorem takeBar_known {s : State} {p : Byte} {x : Serial} {reason : BarReason} {t : DTime} {e : Quarantine}
    (hunheld : s.holder x = none) (hfind : s.roster.quarantine.find? (·.serial == x) = some e) :
    s.takeBar p x reason t = { s with roster :=
      if e.origin = s.station then s.roster
      else { s.roster with quarantine := s.roster.quarantine.map fun k =>
        if k.serial = x then { serial := x, reason := reason, origin := p, time := t } else k } } := by
  unfold State.takeBar State.modRoster
  dsimp only
  rw [if_neg (by simp [hunheld]), hfind]

theorem quarantineAdd_of_room {r : Roster} {station : Byte} {q : Quarantine} (h : r.quarantine.length < 64) :
    r.quarantineAdd station q = { r with quarantine := r.quarantine ++ [q] } := by
  unfold Roster.quarantineAdd
  cases evictedBar station r.quarantine with
  | none => rfl
  | some e => simp [Nat.not_le.mpr h]

/-- On a full list the earliest peer entry goes, or with no peer entry the earliest local one, the one added earlier of
equals. -/
theorem evictedBar_of {station : Byte} {pre post : List Quarantine} {o : Quarantine}
    (hlocal : o.origin = station → ∀ q ∈ pre ++ o :: post, q.origin = station)
    (hpre : ∀ q ∈ pre, o.origin = station ∨ q.origin ≠ station → o.time.toNat < q.time.toNat)
    (hpost : ∀ q ∈ post, o.origin = station ∨ q.origin ≠ station → o.time.toNat ≤ q.time.toNat) :
    evictedBar station (pre ++ o :: post) = some o := by
  unfold evictedBar
  by_cases horigin : o.origin = station
  · have hpeers : (pre ++ o :: post).filter (·.origin != station) = [] := by
      rw [List.filter_eq_nil_iff]
      exact fun q hq => by simp [hlocal horigin q hq]
    have hall : (pre ++ o :: post).filter (·.origin == station) = pre ++ o :: post := by
      rw [List.filter_eq_self]
      exact fun q hq => by simp [hlocal horigin q hq]
    rw [hpeers, hall, earliestBar_of (fun q hq => hpre q hq (Or.inl horigin)) fun q hq => hpost q hq (Or.inl horigin)]
    rfl
  · have hpeers : (pre ++ o :: post).filter (·.origin != station) =
        pre.filter (·.origin != station) ++ o :: post.filter (·.origin != station) := by
      rw [List.filter_append, List.filter_cons_of_pos (by simp [horigin])]
    rw [hpeers, earliestBar_of]
    · rfl
    · intro q hq
      obtain ⟨hmem, hpeer⟩ := List.mem_filter.mp hq
      exact hpre q hmem (Or.inr (by simpa using hpeer))
    · intro q hq
      obtain ⟨hmem, hpeer⟩ := List.mem_filter.mp hq
      exact hpost q hmem (Or.inr (by simpa using hpeer))

theorem quarantineAdd_of_full {r : Roster} {station : Byte} {q o : Quarantine} {pre post : List Quarantine}
    (hfull : 64 ≤ r.quarantine.length) (hlist : r.quarantine = pre ++ o :: post) (hnotin : o ∉ pre)
    (hevicted : evictedBar station (pre ++ o :: post) = some o) :
    r.quarantineAdd station q = { r with quarantine := pre ++ post ++ [q] } := by
  unfold Roster.quarantineAdd
  dsimp only
  rw [hlist] at hfull ⊢
  rw [hevicted]
  dsimp only
  rw [if_pos hfull, erase_middle hnotin]

section PeerFrames

variable {s : State} {bytes : List Byte} (hother : ∀ age, s.link.phase = .sending age → bytes ≠ s.link.wire)
include hother

/-- A RELEASE of a peer (R173, R174). -/
theorem releaseTaken {p : Byte} {x : Serial} (hframe : receivedFrame s.station bytes = some (.release p x)) :
    let mine : Claim → Prop := fun c => c.serial = x ∧ c.holder = p
    let left := s.roster.claims.filter fun c => ¬ (c.serial = x ∧ c.holder = p)
    ((∀ c ∈ s.roster.claims, ¬ mine c) → exec (.frameReceive bytes) s = .next s) ∧
    ((∃ c ∈ s.roster.claims, mine c) →
      ∃ t, exec (.frameReceive bytes) s = .next t
        ∧ t = { s with home := { s.home with slots := t.home.slots }, roster := { s.roster with claims := left } }
        ∧ ∀ j, t.slot j =
          if s.holder x = some j then { s.slot j with contested := left.any fun c => decide (c.serial = x) }
          else s.slot j) := by
  intro mine left
  have hexec : exec (.frameReceive bytes) s = .next (s.takeRelease p x) := execFrameReceive_accepted hother hframe
  refine ⟨fun hnone => ?_, fun hsome => ?_⟩
  · rw [hexec, takeRelease_unknown hnone]
  · rw [hexec, takeRelease_known hsome]
    refine ⟨_, rfl, ?_, fun j => ?_⟩
    · exact updateContested_state _ _
    · rw [updateContested_slot]
      rfl

/-- A BAR of a peer (R177, R179). -/
theorem barTaken {p : Byte} {x : Serial} {reason : BarReason} {time : DTime}
    (hframe : receivedFrame s.station bytes = some (.bar p x reason time)) :
    let list := s.roster.quarantine
    let entry : Quarantine := { serial := x, reason := reason, origin := p, time := time }
    let holds : List Quarantine → State := fun l => { s with roster := { s.roster with quarantine := l } }
    (∀ i, s.holder x = some i → exec (.frameReceive bytes) s = .next s) ∧
    (s.holder x = none →
      (∀ e, list.find? (·.serial == x) = some e →
        (e.origin = s.station → exec (.frameReceive bytes) s = .next s)
        ∧ (e.origin ≠ s.station →
          exec (.frameReceive bytes) s = .next (holds (list.map fun k => if k.serial = x then entry else k))))
      ∧ ((∀ e ∈ list, e.serial ≠ x) →
        (list.length < 64 → exec (.frameReceive bytes) s = .next (holds (list ++ [entry])))
        ∧ (∀ (pre post : List Quarantine) (o : Quarantine), 64 ≤ list.length → list = pre ++ o :: post →
          let rival : Quarantine → Bool := fun q =>
            decide (o.origin = s.station ∨ q.origin ≠ s.station)
          (o.origin = s.station → ∀ q ∈ list, q.origin = s.station) →
          (∀ q ∈ pre, rival q = true → o.time.toNat < q.time.toNat) →
          (∀ q ∈ post, rival q = true → o.time.toNat ≤ q.time.toNat) →
          exec (.frameReceive bytes) s = .next (holds (pre ++ post ++ [entry]))))) := by
  intro list entry holds
  have hexec : exec (.frameReceive bytes) s = .next (s.takeBar p x reason time) :=
    execFrameReceive_accepted hother hframe
  refine ⟨fun i hheld => by rw [hexec, takeBar_held hheld], fun hunheld =>
    ⟨fun e hfind => ⟨fun hlocal => ?_, fun hpeer => ?_⟩, fun hnew => ⟨fun hroom => ?_, ?_⟩⟩⟩
  · rw [hexec, takeBar_known hunheld hfind, if_pos hlocal]
  · rw [hexec, takeBar_known hunheld hfind, if_neg hpeer]
  · have hfind : s.roster.quarantine.find? (·.serial == x) = none := by simpa using hnew
    rw [hexec, takeBar_new hunheld hfind, quarantineAdd_of_room hroom]
  · intro pre post o hfull hlist rival hlocal hpre hpost
    have hfind : s.roster.quarantine.find? (·.serial == x) = none := by simpa using hnew
    have hnotin : o ∉ pre := fun ho => by
      refine absurd (hpre o ho (decide_eq_true ?_)) (Nat.lt_irrefl _)
      by_cases horigin : o.origin = s.station
      · exact Or.inl horigin
      · exact Or.inr horigin
    have hevicted : evictedBar s.station (pre ++ o :: post) = some o :=
      evictedBar_of (hlist ▸ hlocal) (fun q hq h => hpre q hq (decide_eq_true h))
        fun q hq h => hpost q hq (decide_eq_true h)
    rw [hexec, takeBar_new hunheld hfind, quarantineAdd_of_full hfull hlist hnotin hevicted]

/-- An UNBAR, from the controller of a part that is RUNNING or otherwise (R180, R183). -/
theorem unbarTaken {p : Byte} {x : Serial} (hframe : receivedFrame s.station bytes = some (.unbar p x)) :
    (s.clock.phase = .running → p = BitVec.ofNat 8 s.config.controller →
      exec (.frameReceive bytes) s = .next { s with roster := { s.roster with
        quarantine := s.roster.quarantine.filter fun q => q.serial ≠ x
        bars := s.roster.bars.filter fun b => b.serial ≠ x
        decisions := s.roster.decisions ++ [{ serial := x, kind := .unbar }] } }) ∧
    (s.clock.phase ≠ .running ∨ p ≠ BitVec.ofNat 8 s.config.controller →
      exec (.frameReceive bytes) s = .next s) := by
  have hexec : exec (.frameReceive bytes) s = .next (
      if s.clock.phase = .running ∧ p = BitVec.ofNat 8 s.config.controller then s.takeUnbar x else s) :=
    execFrameReceive_accepted hother hframe
  refine ⟨fun hrunning hcontroller => ?_, fun hnot => ?_⟩
  · have hquarantine : ∀ q : Quarantine, (q.serial != x) = decide (q.serial ≠ x) := fun q =>
      Bool.eq_iff_iff.mpr (by simp)
    have hbar : ∀ b : PendingBar, (b.serial != x) = decide (b.serial ≠ x) := fun b => Bool.eq_iff_iff.mpr (by simp)
    rw [hexec, if_pos ⟨hrunning, hcontroller⟩]
    unfold State.takeUnbar State.decide
    simp only [hquarantine, hbar]
    rfl
  · rw [hexec, if_neg fun ⟨hrunning, hcontroller⟩ => hnot.elim (· hrunning) (· hcontroller)]

end PeerFrames

/-- Settles O44, by the four kinds of frame. -/
theorem peerFramesRecorded : Obligations.PeerFramesRecorded :=
  ⟨claimRecorded, fun _ _ _ _ hother hframe => releaseTaken hother hframe,
    fun _ _ _ _ _ _ hother hframe => barTaken hother hframe, fun _ _ _ _ hother hframe => unbarTaken hother hframe⟩

/-! ### The roster's timers (R168, R173, R178) -/

/-- A pass over slots in which each turn writes what `g` reads of its own slot, and of no other: a slot of the list reads the
value written for it, any other stands. `v` may speak of the state through what every turn keeps. -/
theorem foldl_write {β κ : Type} (g : State → SlotId → β) (kept : State → κ) (v : κ → SlotId → β)
    (f : State → SlotId → State) (hkept : ∀ s j, kept (f s j) = kept s) (hself : ∀ s j, g (f s j) j = v (kept s) j)
    (hother : ∀ s i j, i ≠ j → g (f s j) i = g s i) (l : List SlotId) (s : State) (i : SlotId) :
    g (l.foldl f s) i = if i ∈ l then v (kept s) i else g s i := by
  induction l generalizing s with
  | nil => simp
  | cons j l ih =>
    rw [List.foldl_cons, ih, hkept]
    by_cases hl : i ∈ l
    · rw [if_pos hl, if_pos (List.mem_cons_of_mem _ hl)]
    · rw [if_neg hl]
      by_cases hij : i = j
      · rw [if_pos (hij ▸ List.mem_cons_self), hij, hself]
      · rw [if_neg (by simp [hij, hl]), hother s i j hij]

theorem setClaimDue_claimDue (s : State) (i j : SlotId) (g : Option Gen) :
    (s.setClaimDue i g).claimDue j = if j = i then g else s.claimDue j :=
  putAt_get s.roster.claimDue i j g

theorem claims_iff (st : SlotState) : st.claims = true ↔ st = .active ∨ st = .lost ∨ st = .barred := by
  cases st <;> simp [SlotState.claims]

theorem forSlots_markClaim_claimDue (s : State) (p : SlotId → Bool) (i : SlotId) :
    (s.forSlots p State.markClaim).claimDue i = if p i = true then some (s.slot i).gen else s.claimDue i := by
  have hpass := foldl_write State.claimDue (·.home) (fun h j => some (h.slots.get j).gen) State.markClaim
    (fun _ _ => rfl) (fun s j => by rw [State.markClaim, setClaimDue_claimDue, if_pos rfl]; rfl)
    (fun s i j hij => by rw [State.markClaim, setClaimDue_claimDue, if_neg hij]) (allSlots.filter p) s i
  have hmem : i ∈ allSlots.filter p ↔ p i = true := by simp [List.mem_filter, mem_allSlots]
  unfold State.forSlots
  rw [hpass]
  exact if_congr hmem rfl rfl

theorem forSlots_markClaim_state (s : State) (p : SlotId → Bool) :
    s.forSlots p State.markClaim =
      { s with roster := { s.roster with claimDue := (s.forSlots p State.markClaim).roster.claimDue } } := by
  unfold State.forSlots
  generalize allSlots.filter p = l
  induction l generalizing s with
  | nil => rfl
  | cons j l ih => rw [List.foldl_cons, ih]; rfl

/-- One BAR placed on a list (R178). -/
def placedBar (bars : List PendingBar) (b : PendingBar) : List PendingBar :=
  if bars.any (·.serial == b.serial) then bars.map fun k => if k.serial = b.serial then b else k
  else (if 192 ≤ bars.length then bars.drop 1 else bars) ++ [b]

theorem placeBar_eq (r : Roster) (b : PendingBar) : r.placeBar b = { r with bars := placedBar r.bars b } := by
  unfold Roster.placeBar placedBar
  by_cases h : r.bars.any (·.serial == b.serial) = true
  · rw [if_pos h, if_pos h]
  · rw [if_neg h, if_neg h]

theorem foldl_placeBar_eq (qs : List Quarantine) (r : Roster) :
    qs.foldl (fun r q => r.placeBar q.bar) r = { r with bars := (qs.map Quarantine.bar).foldl placedBar r.bars } := by
  induction qs generalizing r with
  | nil => rfl
  | cons q qs ih => rw [List.foldl_cons, ih, placeBar_eq, List.map_cons, List.foldl_cons]

/-- A BAR placed on a list with room is on it, with every BAR of another serial. -/
theorem placedBar_spec {bars : List PendingBar} (b : PendingBar) (hroom : bars.length < 192) :
    (placedBar bars b).length ≤ bars.length + 1 ∧ b ∈ placedBar bars b
      ∧ ∀ k ∈ bars, k.serial ≠ b.serial → k ∈ placedBar bars b := by
  unfold placedBar
  by_cases h : bars.any (·.serial == b.serial) = true
  · rw [if_pos h]
    refine ⟨by simp, ?_, fun k hk hserial => List.mem_map.mpr ⟨k, hk, if_neg hserial⟩⟩
    obtain ⟨k, hk, hserial⟩ := List.any_eq_true.mp h
    exact List.mem_map.mpr ⟨k, hk, if_pos (by simpa using hserial)⟩
  · rw [if_neg h, if_neg (Nat.not_le.mpr hroom)]
    exact ⟨by simp, by simp, fun k hk _ => List.mem_append_left _ hk⟩

/-- With room for all of them, BARs of different serials placed one after another are all on the list, with every BAR of
another serial. -/
theorem foldl_placedBar_spec {own bars : List PendingBar} (hroom : bars.length + own.length ≤ 192)
    (hdistinct : (own.map (·.serial)).Nodup) :
    (∀ b ∈ own, b ∈ own.foldl placedBar bars)
      ∧ ∀ b ∈ bars, (∀ k ∈ own, k.serial ≠ b.serial) → b ∈ own.foldl placedBar bars := by
  induction own generalizing bars with
  | nil => exact ⟨fun _ h => absurd h (by simp), fun _ hb _ => hb⟩
  | cons a own ih =>
    rw [List.length_cons] at hroom
    rw [List.map_cons, List.nodup_cons] at hdistinct
    obtain ⟨hfirst, hrest⟩ := hdistinct
    obtain ⟨hlength, hplaced, hkept⟩ := placedBar_spec (bars := bars) a (by omega)
    obtain ⟨hown, hbars⟩ := ih (bars := placedBar bars a) (by omega) hrest
    rw [List.foldl_cons]
    refine ⟨fun b hb => ?_, fun b hb hserials => ?_⟩
    · rcases List.mem_cons.mp hb with rfl | hb
      · exact hbars b hplaced fun k hk hserial => hfirst (List.mem_map.mpr ⟨k, hk, hserial⟩)
      · exact hown b hb
    · exact hbars b (hkept b hb fun h => hserials a List.mem_cons_self h.symm)
        fun k hk => hserials k (List.mem_cons_of_mem _ hk)

theorem execClaimRefresh_due {s : State} (h : 240000 ≤ s.roster.refresh) :
    exec .claimRefresh s = .next ((s.modRoster fun r => { r with refresh := r.refresh % 240000 }).forSlots
      (fun i => (s.slot i).state.claims) State.markClaim) := by
  show execClaimRefresh s = _
  exact if_pos h

theorem execBarRebroadcast_due {s : State} (h : 1200000 ≤ s.roster.rebroadcast) :
    exec .barRebroadcast s = .next { s with roster := { s.roster with
      rebroadcast := s.roster.rebroadcast % 1200000
      bars := ((s.roster.quarantine.filter (·.origin == s.station)).map Quarantine.bar).foldl placedBar
        s.roster.bars } } := by
  have hdue : execBarRebroadcast s = .next (s.modRoster fun _ =>
      (s.roster.quarantine.filter (·.origin == s.station)).foldl (fun (r : Roster) q => r.placeBar q.bar)
        { s.roster with rebroadcast := s.roster.rebroadcast % 1200000 }) := if_pos h
  rw [foldl_placeBar_eq] at hdue
  exact hdue

theorem aged_iff (c : Claim) (now : Round) : c.aged now = true ↔ 720000 ≤ (now - c.lastHeard).toNat := by
  unfold Claim.aged
  exact decide_eq_true_iff

/-- The state in which an ageing writes the contested flags: the aged entries are gone. -/
def State.withoutAged (s : State) : State :=
  s.modRoster fun r => { r with claims := r.claims.filter fun c => !c.aged s.clock.round }

theorem execRosterAgeing_eq (s : State) :
    exec .rosterAgeing s = .next ((s.roster.claims.filter (·.aged s.clock.round)).foldl
      (fun s c => s.updateContested c.serial) s.withoutAged) := rfl

/-- The ageing of the roster (R173, R174). -/
theorem rosterAged (s : State) : ∃ t, exec .rosterAgeing s = .next t
    ∧ t.roster = { s.roster with
        claims := s.roster.claims.filter fun c => decide ((s.clock.round - c.lastHeard).toNat < 720000) }
    ∧ t = { s with home := t.home, roster := t.roster }
    ∧ (∀ i, (t.slot i).state = (s.slot i).state ∧ (t.slot i).serial = (s.slot i).serial)
    ∧ ∀ i x, s.holder x = some i → (∃ c ∈ s.roster.claims, c.serial = x ∧ 720000 ≤ (s.clock.round - c.lastHeard).toNat) →
      (t.slot i).contested = t.foreignClaim x := by
  have hstays : ∀ c : Claim, (!c.aged s.clock.round) = decide ((s.clock.round - c.lastHeard).toNat < 720000) := fun c => by
    rw [Bool.eq_iff_iff, Bool.not_eq_true', ← Bool.not_eq_true, aged_iff, decide_eq_true_iff, Nat.not_le]
  have hstate := foldl_updateContested_state (s.roster.claims.filter (·.aged s.clock.round)) s.withoutAged
  have hslot := foldl_updateContested_slot (s.roster.claims.filter (·.aged s.clock.round)) s.withoutAged
  have hexec := execRosterAgeing_eq s
  generalize (s.roster.claims.filter (·.aged s.clock.round)).foldl (fun s c => s.updateContested c.serial)
    s.withoutAged = t at hexec hstate hslot
  have hroster : t.roster = s.withoutAged.roster := by rw [hstate]
  refine ⟨t, hexec, ?_, ?_, fun i => ?_, fun i x hheld haged => ?_⟩
  · rw [hroster]
    unfold State.withoutAged
    simp only [hstays]
    rfl
  · rw [hroster]
    exact hstate
  · rw [hslot]
    exact ⟨rfl, rfl⟩
  · obtain ⟨c, hc, rfl, hage⟩ := haged
    have hserial : (s.withoutAged.slot i).serial = some c.serial := (serial_of_holder hheld).2
    have hcontested : ∃ d ∈ s.roster.claims.filter (·.aged s.clock.round), s.withoutAged.holder d.serial = some i :=
      ⟨c, List.mem_filter.mpr ⟨hc, (aged_iff c _).mpr hage⟩, hheld⟩
    rw [hslot]
    dsimp only
    rw [if_pos hcontested, hserial]
    unfold State.foreignClaim
    rw [hroster]
    rfl

/-- Settles O54, timer by timer. -/
theorem rosterTimersRun : Obligations.RosterTimersRun := by
  refine fun s => ⟨fun hearly => if_neg (Nat.not_le.mpr hearly), fun hdue => ?_,
    fun hearly => if_neg (Nat.not_le.mpr hearly), ?_, rosterAged s⟩
  · rw [execClaimRefresh_due hdue, forSlots_markClaim_state]
    refine ⟨_, rfl, rfl, rfl, rfl, fun i => ?_⟩
    have hread := forSlots_markClaim_claimDue (s.modRoster fun r => { r with refresh := r.refresh % 240000 })
      (fun i => (s.slot i).state.claims) i
    refine hread.trans ?_
    exact if_congr (claims_iff _) rfl rfl
  · intro hdue own place
    exact ⟨_, execBarRebroadcast_due hdue, rfl, fun hroom hdistinct => foldl_placedBar_spec hroom hdistinct⟩

end Sys2Proof.Machine
end

section
/-! PROOFS. What an entry to a slot state writes, block by block, and the manager's orders: the rules by which the later
statements about the home table read a state after `State.enter`, a RELEASE or a SEVER (R14, R24 to R34, R62, R64, R70, R91,
R100, R113, R122, R167). -/

namespace Sys2Proof.Machine

-- One thread elaborates this section: the text as a whole is near the memory limit of the check.
set_option Elab.async false

/-! ### An offer to a lane, outcome by outcome (R4, R5, R14) -/

section
variable {s : State} {lane : Lane} {body : OrderBody} {target : Option (SlotId × Gen)}

theorem offerOrder_unspanned (hspan : body.needsSpan = true) (hdark : s.tree.state ≠ .lit) :
    s.offerOrder lane body target = (s, .abandoned) := by
  unfold State.offerOrder TreePort.offer
  rw [if_pos (by simp [hspan, hdark])]
  rfl

theorem offerOrder_closed (hspan : body.needsSpan = false)
    (hclosed : s.tree.state = .off ∨ s.tree.state = .starting ∨ s.tree.state = .calibrating) :
    s.offerOrder lane body target = (s, if body.isHoldoff then .abandoned else .completed) := by
  unfold State.offerOrder TreePort.offer
  rw [if_neg (by simp [hspan]), if_pos hclosed]
  rfl

theorem not_closed_of_open (hopen : s.tree.state = .lit ∨ (s.tree.state = .dark ∧ body.needsSpan = false)) :
    (body.needsSpan && s.tree.state != .lit) ≠ true
      ∧ ¬ (s.tree.state = .off ∨ s.tree.state = .starting ∨ s.tree.state = .calibrating) := by
  rcases hopen with h | ⟨h, hspan⟩
  · simp [h]
  · simp [h, hspan]

theorem offerOrder_refused (hopen : s.tree.state = .lit ∨ (s.tree.state = .dark ∧ body.needsSpan = false))
    (hfull : s.tree.refuses lane target = true) : s.offerOrder lane body target = (s, .refused) := by
  unfold State.offerOrder TreePort.offer
  rw [if_neg (not_closed_of_open hopen).1, if_neg (not_closed_of_open hopen).2, if_pos hfull]
  rfl

theorem offerOrder_accepted (hopen : s.tree.state = .lit ∨ (s.tree.state = .dark ∧ body.needsSpan = false))
    (hroom : s.tree.refuses lane target = false) :
    s.offerOrder lane body target = (s.modTree (·.accept lane body target), .accepted (s.tree.orderSeq + 1)) := by
  unfold State.offerOrder TreePort.offer
  rw [if_neg (not_closed_of_open hopen).1, if_neg (not_closed_of_open hopen).2, if_neg (by simp [hroom])]
  rfl

end

theorem refuses_urgent_iff (t : TreePort) (target : Option (SlotId × Gen)) :
    t.refuses .urgent target = true ↔ 8 ≤ t.urgent.length := decide_eq_true_iff

theorem refuses_normal_iff (t : TreePort) (target : Option (SlotId × Gen)) :
    t.refuses .normal target = true ↔
      24 ≤ t.normal.length ∨ ∃ i g, target = some (i, g) ∧ ∃ e ∈ t.normal, e.isFor i = true := by
  rcases target with _ | ⟨i, g⟩
  · simp [TreePort.refuses]
    rfl
  · simp [TreePort.refuses, OrderEntry.isFor]
    rfl

/-- The entry that an accepted offer makes (R14). -/
def TreePort.newEntry (t : TreePort) (body : OrderBody) (target : Option (SlotId × Gen)) : OrderEntry where
  body := body
  target := target
  seq := t.orderSeq + 1
  tries := 0
  lastSent := none
  bound := none
  waiting := false

theorem accept_urgent (t : TreePort) (body : OrderBody) (target : Option (SlotId × Gen)) :
    t.accept .urgent body target =
      { t with orderSeq := t.orderSeq + 1, urgent := t.urgent ++ [t.newEntry body target] } := rfl

theorem accept_normal (t : TreePort) (body : OrderBody) (target : Option (SlotId × Gen)) :
    t.accept .normal body target =
      { t with orderSeq := t.orderSeq + 1, normal := t.normal ++ [t.newEntry body target] } := rfl

/-! ### A member dropped from the search (R113) -/

theorem dropMember_of_not_member {s : State} {i : SlotId} (h : s.watch.isMember i = false) : s.dropMember i = s :=
  if_neg (by simp [h])

theorem dropMember_slot (s : State) (i j : SlotId) :
    (s.dropMember i).slot j =
      if j = i then { s.slot j with hushed := (s.slot j).hushed && !s.watch.isMember i } else s.slot j := by
  unfold State.dropMember
  cases s.watch.isMember i
  · simp
  · simpa using State.modSlot_slot s i j _

theorem dropMember_owed (s : State) (i j : SlotId) : (s.dropMember i).owed j = s.owed j := by
  unfold State.dropMember
  split <;> simp

theorem dropMember_strikes (s : State) (i j : SlotId) : (s.dropMember i).strikes j = s.strikes j := by
  have hcounts : ∀ w : Watch, w.settleCheck.counts = w.counts := by
    intro w
    unfold Watch.settleCheck
    (repeat' split) <;> rfl
  have hdrop : ∀ w : Watch, (w.dropMember i).counts = w.counts := by
    intro w
    unfold Watch.dropMember
    split
    · rfl
    · exact hcounts _
  unfold State.dropMember
  split
  · exact congrArg (fun c : Vector Strikes 128 => c.get j) (hdrop _)
  · rfl

/-! ### The announcement, block by block (R31) -/

/-- Whether the watch drops a member of the search that enters a state (R113). -/
def SlotState.leavesSearch : SlotState → Bool
  | .barred | .closing | .free => true
  | .assigning | .active | .lost | .resuming => false

/-- The echo record after its slot went from one state to another (R62). -/
def EchoRecord.onSlot (r : EchoRecord) (old : SlotState) : SlotState → EchoRecord
  | .free => .absent
  | .lost | .barred | .closing | .assigning => { EchoRecord.absent with homeHoldoff := r.homeHoldoff }
  | .resuming => if old = .active then { r with garbledRun := 0, checkPending := false } else r
  | .active => r

/-- The flushes that an entry to a state announces (R91). -/
def SlotState.flush (i : SlotId) (g : Gen) : SlotState → List Flush
  | .lost | .barred => [{ slot := i, gen := g, closing := false }]
  | .closing => [{ slot := i, gen := g, closing := true }]
  | .free | .assigning | .active | .resuming => []

section
variable (s : State) (i : SlotId)

theorem treeOnSlot_tree_congr {s t : State} (htree : t.tree = s.tree) (hslot : t.slot i = s.slot i) (new : SlotState) :
    (t.treeOnSlot i new).tree = (s.treeOnSlot i new).tree := by
  unfold State.treeOnSlot
  rw [hslot]
  cases new <;> dsimp only [State.removeQuietly, State.modTree] <;> (repeat' split) <;> simp [htree]

theorem enrolOnSlot_enrol (old new : SlotState) :
    (s.enrolOnSlot i old new).enrol = { s.enrol with echoes := (s.enrolOnSlot i old new).enrol.echoes } := by
  unfold State.enrolOnSlot
  cases new <;> dsimp only [State.modEcho, State.modEnrol]
  split <;> rfl

theorem enrolOnSlot_echo (old new : SlotState) (j : SlotId) :
    (s.enrolOnSlot i old new).echo j = if j = i then (s.echo j).onSlot old new else s.echo j := by
  unfold State.enrolOnSlot EchoRecord.onSlot
  cases new <;> dsimp only
  case resuming => by_cases h : old = .active <;> simp [h, State.modEcho_echo]
  case active => simp
  all_goals exact State.modEcho_echo ..

theorem watchOnSlot_slot (new : SlotState) (j : SlotId) :
    (s.watchOnSlot i new).slot j =
      if j = i then { s.slot j with hushed := (s.slot j).hushed && !(new.leavesSearch && s.watch.isMember i) }
      else s.slot j := by
  unfold State.watchOnSlot
  cases new <;> simp [SlotState.leavesSearch, dropMember_slot]
  rfl

theorem watchOnSlot_owed (new : SlotState) (j : SlotId) : (s.watchOnSlot i new).owed j = s.owed j := by
  unfold State.watchOnSlot
  cases new <;> simp [dropMember_owed]


/-- The blocks before the watch's in an announcement: none of them writes a slot record. -/
theorem beforeWatch_home (old new : SlotState) :
    ((((s.treeOnSlot i new).enrolOnSlot i old new).schedOnSlot i new).downOnSlot i new).home = s.home := by simp

theorem downOnSlot_flushes (new : SlotState) :
    (s.downOnSlot i new).down.flushes = s.down.flushes ++ new.flush i (s.slot i).gen := by
  unfold State.downOnSlot
  cases new <;> simp [SlotState.flush]
  split <;> simp [State.modQueue]

/-- Only a new assignment changes more of the downstream engine than the flushes announced (R91, R92). -/
theorem downOnSlot_down {new : SlotState} (h : new ≠ .assigning) :
    (s.downOnSlot i new).down = { s.down with flushes := s.down.flushes ++ new.flush i (s.slot i).gen } := by
  unfold State.downOnSlot
  cases new <;> simp [SlotState.flush] at h ⊢

end

/-! ### An entry to a state (R23 to R34) -/

section
variable (s : State) (i : SlotId) (f : SlotRecord → SlotRecord)

/-- The new record, and the search left by a member where it must be; no other slot, unless a slot becomes FREE and the
room it gives back tops up short slots (R55, R113). -/
theorem enter_slot (hheld : (f (s.slot i)).state ≠ .free) (j : SlotId) :
    (s.enter i f).slot j =
      if j = i then
        { f (s.slot i) with
          hushed := (f (s.slot i)).hushed && !((f (s.slot i)).state.leavesSearch && s.watch.isMember i) }
      else s.slot j := by
  have hself : (s.modSlot i f).slot i = f (s.slot i) := by simp [State.modSlot_slot]
  unfold State.enter State.announce
  rw [hself]
  dsimp only
  rw [if_neg hheld, slot_congr (State.rosterOnSlot_frame ..).2.1, slot_congr (State.meterOnSlot_frame ..).2.1,
    watchOnSlot_slot, slot_congr (beforeWatch_home ..)]
  by_cases hj : j = i
  · subst hj
    simp [hself]
  · simp [hj, State.modSlot_slot]

theorem enter_slot_other (hheld : (f (s.slot i)).state ≠ .free) {j : SlotId} (hj : j ≠ i) :
    (s.enter i f).slot j = s.slot j := by rw [enter_slot s i f hheld, if_neg hj]

theorem enter_slot_self (hheld : (f (s.slot i)).state ≠ .free) (hkept : (f (s.slot i)).state.leavesSearch = false) :
    (s.enter i f).slot i = f (s.slot i) := by
  rw [enter_slot s i f hheld, if_pos rfl, hkept]
  simp

theorem topUp_owed (s : State) (j : SlotId) : s.topUp.owed j = s.owed j :=
  foldl_keeps (·.owed j) _ (fun s i => by
    unfold State.topUpSlot
    dsimp only
    split <;> simp) _ s

theorem enter_owed (j : SlotId) : (s.enter i f).owed j = s.owed j := by
  have hcongr : ∀ {s t : State}, t.home = s.home → t.owed j = s.owed j := fun h => by simp [State.owed, h]
  unfold State.enter State.announce
  dsimp only
  generalize ((s.modSlot i f).slot i).state = new
  have hrest : ∀ u : State, ((u.meterOnSlot i (s.slot i).fresh new).rosterOnSlot i (s.slot i).fresh new).owed j =
    u.owed j := fun u => hcongr (by simp)
  split
  · rw [topUp_owed, hrest, watchOnSlot_owed, hcongr (beforeWatch_home ..)]
    simp
  · rw [hrest, watchOnSlot_owed, hcongr (beforeWatch_home ..)]
    simp

theorem enter_tree : (s.enter i f).tree = ((s.modSlot i f).treeOnSlot i (f (s.slot i)).state).tree := by
  have hself : (s.modSlot i f).slot i = f (s.slot i) := by simp [State.modSlot_slot]
  unfold State.enter State.announce
  rw [hself]
  dsimp only
  split <;> simp

theorem enter_enrol :
    (s.enter i f).enrol = { s.enrol with echoes := (s.enter i f).enrol.echoes } := by
  have hstage : (s.enter i f).enrol =
      (((s.modSlot i f).treeOnSlot i (f (s.slot i)).state).enrolOnSlot i (s.slot i).state (f (s.slot i)).state).enrol := by
    have hself : (s.modSlot i f).slot i = f (s.slot i) := by simp [State.modSlot_slot]
    unfold State.enter State.announce
    rw [hself]
    dsimp only
    split <;> simp
  rw [hstage]
  exact (enrolOnSlot_enrol ..).trans (by simp)

theorem enter_echo (j : SlotId) :
    (s.enter i f).echo j =
      if j = i then (s.echo j).onSlot (s.slot i).state (f (s.slot i)).state else s.echo j := by
  have hself : (s.modSlot i f).slot i = f (s.slot i) := by simp [State.modSlot_slot]
  have hcongr : ∀ {s t : State}, t.enrol = s.enrol → t.echo j = s.echo j := fun h => by simp [State.echo, h]
  have hstage : (s.enter i f).enrol =
      (((s.modSlot i f).treeOnSlot i (f (s.slot i)).state).enrolOnSlot i (s.slot i).state (f (s.slot i)).state).enrol := by
    unfold State.enter State.announce
    rw [hself]
    dsimp only
    split <;> simp
  rw [hcongr hstage, enrolOnSlot_echo, hcongr (State.treeOnSlot_frame ..).2.1]
  simp

theorem enter_down : (s.enter i f).down = ((s.modSlot i f).downOnSlot i (f (s.slot i)).state).down := by
  have hself : (s.modSlot i f).slot i = f (s.slot i) := by simp [State.modSlot_slot]
  have hcongr : ∀ {s t : State} (new : SlotState), t.down = s.down → t.slot i = s.slot i →
      (t.downOnSlot i new).down = (s.downOnSlot i new).down := by
    intro s t new hdown hslot
    unfold State.downOnSlot
    rw [hslot]
    cases new <;> dsimp only [State.modDown, State.modQueue] <;> (repeat' split) <;> simp [hdown]
  unfold State.enter State.announce
  rw [hself]
  dsimp only
  split <;> simp <;> exact hcongr _ (by simp) (slot_congr (by simp) i)

theorem enter_roster (h : (f (s.slot i)).state ≠ .active ∨ (s.slot i).fresh = false) :
    (s.enter i f).roster = s.roster := by
  have hself : (s.modSlot i f).slot i = f (s.slot i) := by simp [State.modSlot_slot]
  have hkept : ∀ u : State, (u.rosterOnSlot i (s.slot i).fresh (f (s.slot i)).state).roster = u.roster := by
    intro u
    unfold State.rosterOnSlot
    rcases h with h | h
    · split <;> simp_all
    · rw [h]
      split <;> simp
  unfold State.enter State.announce
  rw [hself]
  dsimp only
  split <;> simp [hkept]

theorem enter_meter
    (h : (f (s.slot i)).state ≠ .active ∧ (f (s.slot i)).state ≠ .barred ∨ (s.slot i).fresh = false) :
    (s.enter i f).meter = s.meter := by
  have hself : (s.modSlot i f).slot i = f (s.slot i) := by simp [State.modSlot_slot]
  have hkept : ∀ u : State, (u.meterOnSlot i (s.slot i).fresh (f (s.slot i)).state).meter = u.meter := by
    intro u
    unfold State.meterOnSlot
    rcases h with h | h
    · split <;> simp_all
    · rw [h]
      split <;> simp
  unfold State.enter State.announce
  rw [hself]
  dsimp only
  split <;> simp [hkept]

theorem enter_watch (hkept : (f (s.slot i)).state = .active ∨ (f (s.slot i)).state = .lost
    ∨ (f (s.slot i)).state = .resuming) : (s.enter i f).watch = s.watch := by
  have hself : (s.modSlot i f).slot i = f (s.slot i) := by simp [State.modSlot_slot]
  unfold State.enter State.announce
  rw [hself]
  dsimp only
  rcases hkept with h | h | h <;> simp [h, State.watchOnSlot]

end

end Sys2Proof.Machine
end

section
/-! PROOFS. RELEASE and SEVER offers, the closing, losing and freeing of a slot, and the statements about them: the expiry of
a LOST slot, the roster's decisions and DEROLL (O26, O27, O28; R14, R27, R29, R30, R32, R34, R38, R175). -/

namespace Sys2Proof.Machine

-- One thread elaborates this section: the text as a whole is near the memory limit of the check.
set_option Elab.async false

/-! ### A RELEASE offered (R32) -/

section
variable {s : State} {i : SlotId} {g : Gen}

theorem offerRelease_done (h : s.tree.state = .off ∨ s.tree.state = .starting ∨ s.tree.state = .calibrating) :
    s.offerRelease i g =
      (s.modOwed i fun o => { o with release := none }).modSlot i fun r => { r with releasePending := false } := by
  unfold State.offerRelease
  rw [offerOrder_closed rfl h]
  rfl

theorem offerRelease_refused (h : s.tree.state = .lit ∨ s.tree.state = .dark)
    (hfull : s.tree.refuses .normal (some (i, g)) = true) :
    s.offerRelease i g = s.modOwed i fun o => { o with release := some g } := by
  unfold State.offerRelease
  rw [offerOrder_refused (h.imp_right fun h => ⟨h, rfl⟩) hfull]

theorem offerRelease_accepted (h : s.tree.state = .lit ∨ s.tree.state = .dark)
    (hroom : s.tree.refuses .normal (some (i, g)) = false) :
    s.offerRelease i g =
      (s.modTree (·.accept .normal .release (some (i, g)))).modOwed i fun o => { o with release := none } := by
  unfold State.offerRelease
  rw [offerOrder_accepted (h.imp_right fun h => ⟨h, rfl⟩) hroom]

end

/-- While some home may still hear it, a RELEASE is due; in OFF, STARTING and CALIBRATING it is completed at once (R5). -/
theorem portState_cases (p : PortState) :
    (p = .off ∨ p = .starting ∨ p = .calibrating) ∨ (p = .lit ∨ p = .dark) := by cases p <;> simp

/-- What a RELEASE leaves of its slot's record (R5, R32). -/
theorem releaseHome_slot (s : State) (i j : SlotId) :
    (s.releaseHome i).slot j =
      if j = i then { s.slot j with releasePending := decide (s.tree.state = .lit ∨ s.tree.state = .dark) }
      else s.slot j := by
  unfold State.releaseHome
  rcases portState_cases s.tree.state with h | h
  · rw [offerRelease_done (by exact h), State.modSlot_slot, State.modOwed_slot_at, State.modSlot_slot]
    rcases h with h | h | h <;> split <;> simp [h]
  · cases hfull : s.tree.refuses .normal (some (i, (s.slot i).gen))
    · rw [offerRelease_accepted (by exact h) (by exact hfull), State.modOwed_slot_at, State.modTree_slot_at,
        State.modSlot_slot]
      split <;> simp [h]
    · rw [offerRelease_refused (by exact h) (by exact hfull), State.modOwed_slot_at, State.modSlot_slot]
      split <;> simp [h]

/-- A RELEASE is in the normal lane with no try made, or owed to it (R14, R32). -/
theorem releaseHome_kept {s : State} (i : SlotId) (h : s.tree.state = .lit ∨ s.tree.state = .dark) :
    (∃ e ∈ (s.releaseHome i).tree.normal, e.body = .release ∧ e.target = some (i, (s.slot i).gen) ∧ e.tries = 0)
      ∨ ((s.releaseHome i).owed i).release = some (s.slot i).gen := by
  unfold State.releaseHome
  cases hfull : s.tree.refuses .normal (some (i, (s.slot i).gen))
  · rw [offerRelease_accepted (by exact h) (by exact hfull)]
    exact .inl ⟨s.tree.newEntry .release (some (i, (s.slot i).gen)), by simp [accept_normal], rfl, rfl, rfl⟩
  · rw [offerRelease_refused (by exact h) (by exact hfull)]
    exact .inr (by simp [State.modOwed_owed])

theorem releaseHome_accepted {s : State} {i : SlotId} (h : s.tree.state = .lit ∨ s.tree.state = .dark)
    (hlen : s.tree.normal.length < 24) (hnone : ∀ e ∈ s.tree.normal, e.isFor i = false) :
    (s.releaseHome i).tree.normal =
      s.tree.normal ++ [s.tree.newEntry .release (some (i, (s.slot i).gen))] := by
  have hroom : s.tree.refuses .normal (some (i, (s.slot i).gen)) = false := by
    rw [Bool.eq_false_iff, Ne, refuses_normal_iff]
    rintro (hfull | ⟨k, g, htarget, e, he, hfor⟩)
    · omega
    · cases htarget
      rw [hnone e he] at hfor
      cases hfor
  unfold State.releaseHome
  rw [offerRelease_accepted (by exact h) (by exact hroom)]
  simp [accept_normal]

theorem releaseHome_done {s : State} (i : SlotId)
    (h : s.tree.state = .off ∨ s.tree.state = .starting ∨ s.tree.state = .calibrating) :
    ((s.releaseHome i).owed i).release = none := by
  unfold State.releaseHome
  rw [offerRelease_done (by exact h)]
  simp [State.modOwed_owed]

/-! ### A slot closed (R32) -/

/-- The slot record on entry to CLOSING (R32). -/
def SlotRecord.close (r : SlotRecord) (reason : CloseReason) : SlotRecord :=
  { r with
    state := .closing, closeReason := some reason, rejoin := false
    barReason := if r.state = .barred then r.barReason else none }

section
variable (s : State) (i : SlotId) (reason : CloseReason)

theorem closeSlot_eq :
    s.closeSlot i reason =
      ((s.enter i (·.close reason)).releaseHome i).modRoster (·.placeRelease (((s.slot i).serial).getD 0)) := rfl

/-- The tree port on entry to CLOSING: the slot's ASSIGN, ECHO and HOLDOFF entries are gone (R31). -/
theorem enter_close_tree :
    (s.enter i (·.close reason)).tree = (s.tree.removeWhere fun e => e.isFor i && e.body.isEnrolment).1 := by
  rw [enter_tree]
  rfl

theorem closeSlot_slot (j : SlotId) :
    (s.closeSlot i reason).slot j =
      if j = i then
        { (s.slot i).close reason with
          hushed := (s.slot i).hushed && !s.watch.isMember i
          releasePending := decide (s.tree.state = .lit ∨ s.tree.state = .dark) }
      else s.slot j := by
  have hheld : ((s.slot i).close reason).state ≠ .free := by simp [SlotRecord.close]
  rw [closeSlot_eq, State.modRoster_slot_at, releaseHome_slot]
  by_cases hj : j = i
  · subst hj
    have htree := enter_close_tree s j reason
    rw [if_pos rfl, if_pos rfl, enter_slot s j _ hheld, if_pos rfl, htree]
    rfl
  · rw [if_neg hj, if_neg hj, enter_slot_other s i _ hheld hj]

theorem closeSlot_slot_other {j : SlotId} (hj : j ≠ i) : (s.closeSlot i reason).slot j = s.slot j := by
  rw [closeSlot_slot, if_neg hj]

theorem closeSlot_slot_self :
    (s.closeSlot i reason).slot i =
      { (s.slot i).close reason with
        hushed := (s.slot i).hushed && !s.watch.isMember i
        releasePending := decide (s.tree.state = .lit ∨ s.tree.state = .dark) } := by
  rw [closeSlot_slot, if_pos rfl]

theorem closeSlot_meter : (s.closeSlot i reason).meter = s.meter := by
  rw [closeSlot_eq]
  simpa using enter_meter s i (·.close reason) (.inl ⟨by simp [SlotRecord.close], by simp [SlotRecord.close]⟩)

theorem enter_close_roster : (s.enter i (·.close reason)).roster = s.roster :=
  enter_roster s i _ (.inl (by simp [SlotRecord.close]))

theorem closeSlot_roster :
    (s.closeSlot i reason).roster = s.roster.placeRelease (((s.slot i).serial).getD 0) := by
  rw [closeSlot_eq]
  simp [enter_close_roster]

theorem closeSlot_down :
    (s.closeSlot i reason).down = { s.down with
      flushes := s.down.flushes ++ [{ slot := i, gen := (s.slot i).gen, closing := true }] } := by
  have hself : (s.modSlot i (·.close reason)).slot i = (s.slot i).close reason := by simp [State.modSlot_slot]
  rw [closeSlot_eq]
  simp only [State.modRoster_down, State.releaseHome_frame]
  rw [enter_down, downOnSlot_down _ _ (by simp [SlotRecord.close]), hself]
  rfl

end

theorem mem_placeRelease (r : Roster) (x : Serial) : x ∈ (r.placeRelease x).releases := by
  unfold Roster.placeRelease
  split
  · simp_all
  · simp

theorem placeRelease_eq (r : Roster) (x : Serial) :
    r.placeRelease x = { r with releases := (r.placeRelease x).releases } := by
  unfold Roster.placeRelease
  split <;> rfl

/-! ### The expiry of a LOST slot (O26) -/

theorem execLostExpiry_lost {s : State} {i : SlotId} {l : LostSince} (hstate : (s.slot i).state = .lost)
    (hsince : (s.slot i).lostSince = some l) :
    exec (.lostExpiry i) s =
      .next (if Config.minuteRounds ≤ since s.now l.round then s.closeSlot i .lost else s) := by
  show execLostExpiry i s = _
  rw [execLostExpiry, hstate, hsince]

/-- Settles O26: the slot is closed, and the RELEASE stands as its offer left it. -/
theorem lostSlotExpires : Obligations.LostSlotExpires := by
  unfold Obligations.LostSlotExpires
  intro s i x since_ hstate hserial hsince
  have hexec := execLostExpiry_lost hstate hsince
  refine ⟨fun hearly => hexec.trans (congrArg _ (if_neg (by simpa [since, State.now, Config.minuteRounds] using hearly))),
    fun hdue => ?_⟩
  rw [if_pos (by simpa [since, State.now, Config.minuteRounds] using hdue)] at hexec
  have hslot := closeSlot_slot_self s i .lost
  have hroster := closeSlot_roster s i .lost
  have htree := enter_close_tree s i .lost
  have hgen : ((s.enter i (·.close .lost)).slot i).gen = (s.slot i).gen := by
    rw [enter_slot _ _ _ (by simp [SlotRecord.close]), if_pos rfl]
    rfl
  refine ⟨_, hexec, by rw [hslot]; rfl, by rw [hslot]; rfl, by rw [hslot]; simp [SlotRecord.close, hstate],
    by rw [hslot]; exact hserial, by rw [hslot]; rfl, by rw [hslot]; rfl, fun hopen => ⟨?_, ?_, fun hlen hnone => ?_⟩,
    fun hclosed => ⟨?_, ?_⟩, ?_, by rw [closeSlot_down], fun j hj => closeSlot_slot_other s i .lost hj,
    closeSlot_meter s i .lost, by simp, by simp, by simp, by simp, by simp⟩
  · rw [hslot]
    simpa using hopen
  · have hkept := releaseHome_kept (s := s.enter i (·.close .lost)) i (by rw [htree]; exact hopen)
    rw [hgen] at hkept
    exact hkept
  · have hnormal : (s.enter i (·.close .lost)).tree.normal = s.tree.normal := by
      rw [htree]
      exact List.filter_eq_self.mpr fun e he => by simp [hnone e he]
    have haccepted := releaseHome_accepted (s := s.enter i (·.close .lost)) (i := i) (by rw [htree]; exact hopen)
      (by rwa [hnormal]) (by rwa [hnormal])
    rw [hgen, hnormal, htree] at haccepted
    exact haccepted
  · rw [hslot]
    rcases hclosed with h | h | h <;> simp [h]
  · exact releaseHome_done (s := s.enter i (·.close .lost)) i (by rw [htree]; exact hclosed)
  · rw [hroster, hserial]
    exact mem_placeRelease s.roster x

/-! ### A SEVER offered, and a slot barred as a CLONE (R14, R29, R30) -/

theorem offerSever_slot (s : State) (i : SlotId) (g : Gen) (x : Serial) (j : SlotId) :
    (s.offerSever i g x).slot j = s.slot j := by
  unfold State.offerSever
  dsimp only
  split <;> exact slot_congr (s := (s.offerOrder .urgent (.sever x) (some (i, g))).1) rfl j |>.trans
    (slot_congr (by simp) j)

/-- The slot record on entry to BARRED by a CLONE decision (R30). -/
def SlotRecord.barAsClone (r : SlotRecord) : SlotRecord :=
  { r with state := .barred, barReason := some .clone, rejoin := false }

theorem cloneSlot_eq (s : State) (i : SlotId) (p : Byte) :
    s.cloneSlot i p =
      ((s.enter i (·.barAsClone)).offerSever i ((s.enter i (·.barAsClone)).slot i).gen (((s.slot i).serial).getD 0)).raise
        .clone (beSerial (((s.slot i).serial).getD 0) ++ be 1 i.val ++ [p]) := rfl

theorem cloneSlot_slot (s : State) (i : SlotId) (p : Byte) (j : SlotId) :
    (s.cloneSlot i p).slot j =
      if j = i then { (s.slot i).barAsClone with hushed := (s.slot i).hushed && !s.watch.isMember i } else s.slot j := by
  rw [cloneSlot_eq, slot_congr (State.raise_frame ..).2.1, offerSever_slot, enter_slot _ _ _ (by simp [SlotRecord.barAsClone])]
  rfl

theorem cloneSlot_kept {s : State} {i : SlotId} (p : Byte) (hactive : (s.slot i).state = .active) :
    (s.cloneSlot i p).meter = s.meter ∧ (s.cloneSlot i p).roster = s.roster := by
  have hfresh : (s.slot i).fresh = false := by simp [SlotRecord.fresh, hactive]
  rw [cloneSlot_eq]
  exact ⟨by simpa using enter_meter s i _ (.inr hfresh), by simpa using enter_roster s i _ (.inr hfresh)⟩

/-! ### A roster decision taken (O27, R30) -/

section
variable {s : State} {x : Serial} {i : SlotId} (hholder : s.holder x = some i)
include hholder

theorem applyDecision_moved (hstate : (s.slot i).state = .lost ∨ (s.slot i).state = .resuming) :
    s.applyDecision { serial := x, kind := .moved } = (s.closeSlot i .moved).raise .moved (beSerial x ++ be 1 i.val) := by
  unfold State.applyDecision
  simp only [hholder]
  rcases hstate with h | h <;> rw [h]

theorem applyDecision_clone {p : Byte} (hstate : (s.slot i).state = .active) :
    s.applyDecision { serial := x, kind := .clone p } = s.cloneSlot i p := by
  unfold State.applyDecision
  simp only [hholder]
  rw [hstate]

theorem applyDecision_unbar (hstate : (s.slot i).state = .barred) :
    s.applyDecision { serial := x, kind := .unbar } = s.closeSlot i .unbarred := by
  unfold State.applyDecision
  simp only [hholder]
  rw [hstate]

theorem applyDecision_discarded {kind : DecisionKind}
    (h : kind = .moved ∧ (s.slot i).state ≠ .lost ∧ (s.slot i).state ≠ .resuming
      ∨ kind = .unbar ∧ (s.slot i).state ≠ .barred ∨ (∃ p, kind = .clone p) ∧ (s.slot i).state ≠ .active) :
    s.applyDecision { serial := x, kind := kind } = s := by
  unfold State.applyDecision
  simp only [hholder]
  split
  all_goals simp_all

end

end Sys2Proof.Machine
end

section
/-! PROOFS. The contest rule, the roster's decisions and DEROLL (O27, O28; R30, R34, R38, R175, R176). -/

namespace Sys2Proof.Machine

-- One thread elaborates this section: the text as a whole is near the memory limit of the check.
set_option Elab.async false

/-! ### The contest rule (O27, R175) -/

/-- A CLAIM recorded writes of a slot record the contested flag only. -/
theorem recordClaim_slot (s : State) (x : Serial) (p : Byte) (t : DTime) (j : SlotId) :
    (s.recordClaim x p t).1.slot j =
      { s.slot j with contested := ((s.recordClaim x p t).1.slot j).contested } := by
  have hupdate : ∀ (u : State) (y : Serial), (∃ b, u.slot j = { s.slot j with contested := b }) →
      ∃ b, (u.updateContested y).slot j = { s.slot j with contested := b } := by
    rintro u y ⟨b, hu⟩
    rw [updateContested_slot, hu]
    split
    · exact ⟨_, rfl⟩
    · exact ⟨b, rfl⟩
  have hevict : ∃ b, s.evictClaim.slot j = { s.slot j with contested := b } := by
    unfold State.evictClaim
    split
    · split
      · exact ⟨_, rfl⟩
      · exact hupdate _ _ ⟨_, rfl⟩
    · exact ⟨_, rfl⟩
  have hrecord : ∃ b, (s.recordClaim x p t).1.slot j = { s.slot j with contested := b } := by
    by_cases hknown : ∃ c ∈ s.roster.claims, c.serial = x ∧ c.holder = p
    · rw [recordClaim_known hknown]
      exact ⟨_, rfl⟩
    · rw [recordClaim_new hknown]
      exact hupdate _ _ hevict
  obtain ⟨b, hb⟩ := hrecord
  rw [hb]

theorem heard_iff (s : State) (i : SlotId) :
    s.heard i = true ↔ (s.slot i).state = .active ∧ ∃ m, (s.slot i).lastHeard = some m ∧ m ∈ s.tree.received := by
  unfold State.heard
  cases (s.slot i).lastHeard <;> simp

theorem localLoses_iff (l t : DTime) (own p : Byte) :
    localLoses l t own p = true ↔ t.toNat < l.toNat ∨ (t.toNat = l.toNat ∧ p.toNat < own.toNat) := by
  simp [localLoses, BitVec.toNat_eq]

section
variable {s : State} {i : SlotId} {x : Serial} {p : Byte} {t : DTime} {standing inserted : Bool}

theorem contest_moved (h : (s.slot i).state = .lost ∨ (s.slot i).state = .resuming) :
    s.contest i x p t standing inserted = s.decide { serial := x, kind := .moved } := by
  unfold State.contest
  rcases h with h | h <;> rw [h]

theorem contest_clone (hheard : s.heard i = true)
    (hloses : (standing && localLoses (((s.slot i).claimTime).getD 0) t s.station p) = true) :
    s.contest i x p t standing inserted = s.decide { serial := x, kind := .clone p } := by
  unfold State.contest
  rw [((heard_iff s i).mp hheard).1]
  simp only [hheard, if_true]
  rw [if_pos hloses]

theorem contest_answered (hheard : s.heard i = true)
    (hwins : (standing && localLoses (((s.slot i).claimTime).getD 0) t s.station p) = false) :
    s.contest i x p t standing inserted = if inserted then s.markClaim i else s := by
  unfold State.contest
  rw [((heard_iff s i).mp hheard).1]
  simp only [hheard, if_true]
  rw [if_neg (Bool.eq_false_iff.mp hwins)]

theorem contest_unheard (hheard : s.heard i = false)
    (hstate : (s.slot i).state ≠ .lost ∧ (s.slot i).state ≠ .resuming) :
    s.contest i x p t standing inserted = s := by
  unfold State.contest
  split
  · exact absurd ‹_› hstate.1
  · exact absurd ‹_› hstate.2
  · rw [if_neg (by simp [hheard])]
  all_goals rfl

end

/-- What the contest rule writes, by the four cases of R175. -/
theorem contest_roster (s : State) (i : SlotId) (x : Serial) (p : Byte) (t : DTime) (standing inserted : Bool) :
    let loses := t.toNat < ((s.slot i).claimTime.getD 0).toNat
      ∨ (t.toNat = ((s.slot i).claimTime.getD 0).toNat ∧ p.toNat < s.station.toNat)
    let heard := (s.slot i).state = .active ∧ ∃ m, (s.slot i).lastHeard = some m ∧ m ∈ s.tree.received
    let u := s.contest i x p t standing inserted
    ((s.slot i).state = .lost ∨ (s.slot i).state = .resuming →
        u.roster.decisions = s.roster.decisions ++ [{ serial := x, kind := .moved }])
      ∧ (heard → standing = true → loses →
        u.roster.decisions = s.roster.decisions ++ [{ serial := x, kind := .clone p }])
      ∧ ((s.slot i).state ≠ .lost → (s.slot i).state ≠ .resuming → ¬ (heard ∧ standing = true ∧ loses) →
        u.roster.decisions = s.roster.decisions)
      ∧ (heard → ¬ (standing = true ∧ loses) → inserted = true →
        u.claimDue i = some (s.slot i).gen ∧ ∀ j, j ≠ i → u.claimDue j = s.claimDue j)
      ∧ (¬ heard ∨ (standing = true ∧ loses) ∨ inserted = false → u.roster.claimDue = s.roster.claimDue) := by
  intro loses heard u
  have hloses : (standing && localLoses (((s.slot i).claimTime).getD 0) t s.station p) = true ↔
      standing = true ∧ loses := by
    rw [Bool.and_eq_true, localLoses_iff]
  have hdecide : ∀ d : Decision, (s.decide d).roster.decisions = s.roster.decisions ++ [d]
      ∧ (s.decide d).roster.claimDue = s.roster.claimDue := fun d => ⟨rfl, rfl⟩
  have hmark : (s.markClaim i).claimDue i = some (s.slot i).gen ∧ ∀ j, j ≠ i → (s.markClaim i).claimDue j = s.claimDue j :=
    ⟨(setClaimDue_claimDue ..).trans (if_pos rfl), fun j hj => (setClaimDue_claimDue ..).trans (if_neg hj)⟩
  have hheld : s.heard i = true ↔ heard := heard_iff s i
  by_cases hmoved : (s.slot i).state = .lost ∨ (s.slot i).state = .resuming
  · have hu : u = s.decide { serial := x, kind := .moved } := contest_moved hmoved
    have hunheard : ¬ heard := fun h => by rcases hmoved with hm | hm <;> rw [h.1] at hm <;> cases hm
    rw [hu]
    exact ⟨fun _ => rfl, fun h => absurd h hunheard, fun h h' => absurd hmoved (not_or.mpr ⟨h, h'⟩),
      fun h => absurd h hunheard, fun _ => rfl⟩
  by_cases hheard : heard
  · by_cases hlose : standing = true ∧ loses
    · have hu : u = s.decide { serial := x, kind := .clone p } := contest_clone (hheld.mpr hheard) (hloses.mpr hlose)
      rw [hu]
      exact ⟨fun h => absurd h hmoved, fun _ _ _ => rfl, fun _ _ h => absurd ⟨hheard, hlose⟩ h,
        fun _ h => absurd hlose h, fun _ => rfl⟩
    · have hu : u = if inserted then s.markClaim i else s :=
        contest_answered (hheld.mpr hheard) (Bool.eq_false_iff.mpr fun h => hlose (hloses.mp h))
      rw [hu]
      refine ⟨fun h => absurd h hmoved, fun _ h h' => absurd ⟨h, h'⟩ hlose, fun _ _ _ => by split <;> rfl,
        fun _ _ h => by rw [if_pos h]; exact hmark, fun h => ?_⟩
      rw [if_neg (by simpa using (h.resolve_left (not_not.mpr hheard)).resolve_left hlose)]
  · have hu : u = s := contest_unheard (Bool.eq_false_iff.mpr fun h => hheard (hheld.mp h)) (not_or.mp hmoved)
    rw [hu]
    exact ⟨fun h => absurd h hmoved, fun h => absurd h hheard, fun _ _ _ => rfl, fun h => absurd h hheard, fun _ => rfl⟩

/-- The contest rule on a CLAIM of a serial that a slot holds (R175). -/
theorem claimContested (s : State) (bytes : List Byte) (p : Byte) (x : Serial) (time : DTime) (standing : Bool) (i : SlotId)
    (hother : ∀ age, s.link.phase = .sending age → bytes ≠ s.link.wire)
    (hframe : receivedFrame s.station bytes = some (.claim p x time standing)) (hholder : s.holder x = some i) :
    let inserted := ∀ c ∈ s.roster.claims, ¬ (c.serial = x ∧ c.holder = p)
    let loses := time.toNat < ((s.slot i).claimTime.getD 0).toNat
      ∨ (time.toNat = ((s.slot i).claimTime.getD 0).toNat ∧ p.toNat < s.station.toNat)
    let heard := (s.slot i).state = .active ∧ ∃ m, (s.slot i).lastHeard = some m ∧ m ∈ s.tree.received
    ∃ t, exec (.frameReceive bytes) s = .next t
      ∧ t = { s with
          home := t.home
          roster := { s.roster with
            claims := t.roster.claims, claimDue := t.roster.claimDue, decisions := t.roster.decisions } }
      ∧ ((s.slot i).state = .lost ∨ (s.slot i).state = .resuming →
        t.roster.decisions = s.roster.decisions ++ [{ serial := x, kind := .moved }])
      ∧ (heard → standing = true → loses →
        t.roster.decisions = s.roster.decisions ++ [{ serial := x, kind := .clone p }])
      ∧ ((s.slot i).state ≠ .lost → (s.slot i).state ≠ .resuming → ¬ (heard ∧ standing = true ∧ loses) →
        t.roster.decisions = s.roster.decisions)
      ∧ (heard → ¬ (standing = true ∧ loses) → inserted →
        t.claimDue i = some (s.slot i).gen ∧ ∀ j, j ≠ i → t.claimDue j = s.claimDue j)
      ∧ (¬ heard ∨ (standing = true ∧ loses) ∨ ¬ inserted → t.roster.claimDue = s.roster.claimDue) := by
  intro inserted loses heard
  have hrecord := recordClaim_state s p x time
  have hslot := recordClaim_slot s x p time i
  have hholder' : (s.recordClaim x p time).1.holder x = some i := (holder_recordClaim s p x x time).trans hholder
  have hinserted : (s.recordClaim x p time).2 = true ↔ inserted := by
    by_cases hknown : ∃ c ∈ s.roster.claims, c.serial = x ∧ c.holder = p
    · rw [recordClaim_known hknown]
      obtain ⟨c, hc, hmine⟩ := hknown
      exact ⟨fun h => (nomatch h), fun h => absurd hmine (h c hc)⟩
    · rw [recordClaim_new hknown]
      exact ⟨fun _ c hc hmine => hknown ⟨c, hc, hmine⟩, fun _ => rfl⟩
  generalize hu : (s.recordClaim x p time).1 = u at hrecord hslot hholder'
  generalize hb : (s.recordClaim x p time).2 = b at hinserted
  have htaken : s.takeClaim p x time standing = u.contest i x p time standing b := by
    unfold State.takeClaim
    simp only [hu, hb, hholder']
  have hrules := contest_roster u i x p time standing b
  have hkept := contest_state u i x p time standing b
  generalize htt : u.contest i x p time standing b = t at htaken hrules hkept
  have hroster : u.roster.decisions = s.roster.decisions ∧ u.roster.claimDue = s.roster.claimDue
      ∧ u.tree = s.tree ∧ u.link = s.link := by
    rw [hrecord]
    exact ⟨rfl, rfl, rfl, rfl⟩
  obtain ⟨hdecisions, hclaimDue, htree, hlink⟩ := hroster
  have hdue : ∀ j, u.claimDue j = s.claimDue j := fun j => by simp [State.claimDue, hclaimDue]
  have hfields : (u.slot i).state = (s.slot i).state ∧ (u.slot i).claimTime = (s.slot i).claimTime
      ∧ (u.slot i).lastHeard = (s.slot i).lastHeard ∧ (u.slot i).gen = (s.slot i).gen := by
    rw [hslot]
    exact ⟨rfl, rfl, rfl, rfl⟩
  obtain ⟨hstate, hclaimTime, hlast, hgen⟩ := hfields
  have hstation : u.station = s.station := by simp [State.station, hlink]
  rw [hstate, hclaimTime, hlast, hgen, hstation, hdecisions, hclaimDue, htree] at hrules
  obtain ⟨hmoved, hclone, hnone, hmark, hunmarked⟩ := hrules
  refine ⟨t, (execFrameReceive_claim hother hframe).trans (congrArg _ htaken), ?_, hmoved, hclone, hnone,
    fun h h' h'' => ?_, fun h => hunmarked (h.imp_right (Or.imp_right fun h => ?_))⟩
  · rw [hrecord] at hkept
    rw [hkept]
  · obtain ⟨hself, hrest⟩ := hmark h h' (hinserted.mpr h'')
    exact ⟨hself, fun j hj => (hrest j hj).trans (hdue j)⟩
  · exact Bool.eq_false_iff.mpr fun hb => h (hinserted.mp hb)

/-- A roster decision taken by the manager (R30, R176). -/
theorem decisionTaken (s : State) (x : Serial) (kind : DecisionKind) (rest : List Decision) (i : SlotId)
    (hfirst : s.roster.decisions = { serial := x, kind := kind } :: rest) (hholder : s.holder x = some i) :
    ∃ t, exec .rosterDecision s = .next t
      ∧ t.roster.decisions = rest ∧ t.meter = s.meter ∧ t.journal = s.journal ∧ t.clock = s.clock
      ∧ t.config = s.config ∧ t.pending = s.pending
      ∧ (∀ j, j ≠ i → t.slot j = s.slot j)
      ∧ (kind = .moved → (s.slot i).state = .lost ∨ (s.slot i).state = .resuming →
        (t.slot i).state = .closing ∧ (t.slot i).closeReason = some .moved
          ∧ s.Raised t .moved (be 8 x.toNat ++ be 1 i.val))
      ∧ (∀ p, kind = .clone p → (s.slot i).state = .active →
        (t.slot i).state = .barred ∧ (t.slot i).barReason = some .clone ∧ t.roster.bars = s.roster.bars
          ∧ s.Raised t .clone (be 8 x.toNat ++ be 1 i.val ++ [p]))
      ∧ (kind = .unbar → (s.slot i).state = .barred →
        (t.slot i).state = .closing ∧ (t.slot i).closeReason = some .unbarred
          ∧ (t.slot i).barReason = (s.slot i).barReason ∧ t.link = s.link)
      ∧ (kind = .moved ∧ (s.slot i).state ≠ .lost ∧ (s.slot i).state ≠ .resuming
          ∨ kind = .unbar ∧ (s.slot i).state ≠ .barred ∨ (∃ p, kind = .clone p) ∧ (s.slot i).state ≠ .active →
        t = { s with roster := { s.roster with decisions := rest } }) := by
  obtain ⟨hfree, hserial⟩ := serial_of_holder hholder
  have hexec : exec .rosterDecision s =
      .next ((s.modRoster fun r => { r with decisions := rest }).applyDecision { serial := x, kind := kind }) := by
    show execRosterDecision s = _
    rw [execRosterDecision, hfirst]
  generalize hu : (s.modRoster fun r => { r with decisions := rest }) = u at hexec
  have hblocks : u.home = s.home ∧ u.meter = s.meter ∧ u.journal = s.journal ∧ u.link = s.link ∧ u.clock = s.clock
      ∧ u.config = s.config ∧ u.pending = s.pending ∧ u.roster = { s.roster with decisions := rest } := by
    subst hu
    exact ⟨rfl, rfl, rfl, rfl, rfl, rfl, rfl, rfl⟩
  obtain ⟨hhome, hmeter, hjournal, hlink, hclock, hconfig, hpending, hroster⟩ := hblocks
  have hslot : ∀ j, u.slot j = s.slot j := slot_congr hhome
  have hholder' : u.holder x = some i := (holder_eq_of_home hhome x).trans hholder
  have hraised : ∀ {v : State} (k : AlertKind) (d : List Byte), v.link = u.link → v.clock = u.clock → v.config = u.config →
      s.Raised (v.raise k d) k d := fun k d hl hc hf =>
    (raised_raise _ k d).of_congr (hl.trans hlink) (by rw [hc, hclock]) (by rw [hc, hclock]) (by rw [hc, hclock])
      (hf.trans hconfig)
  have hdecisions : ∀ y, (u.roster.placeRelease y).decisions = rest := fun y => by rw [placeRelease_eq, hroster]
  refine ⟨_, hexec, ?_⟩
  by_cases hdiscard : kind = .moved ∧ (s.slot i).state ≠ .lost ∧ (s.slot i).state ≠ .resuming
      ∨ kind = .unbar ∧ (s.slot i).state ≠ .barred ∨ (∃ p, kind = .clone p) ∧ (s.slot i).state ≠ .active
  · rw [applyDecision_discarded hholder' (by rwa [hslot])]
    refine ⟨by rw [hroster], hmeter, hjournal, hclock, hconfig, hpending, fun j _ => hslot j, fun hk hs => ?_,
      fun p hk hs => ?_, fun hk hs => ?_, fun _ => hu.symm⟩ <;> simp_all
  cases kind with
  | moved =>
    have hstate : (s.slot i).state = .lost ∨ (s.slot i).state = .resuming := by
      by_contra hno
      exact hdiscard (.inl ⟨rfl, not_or.mp hno⟩)
    rw [applyDecision_moved hholder' (by rwa [hslot])]
    refine ⟨by simp [closeSlot_roster, hdecisions], by simp [closeSlot_meter, hmeter], by simp [hjournal], by simp [hclock],
      by simp [hconfig], by simp [hpending], fun j hj => ?_, fun _ _ => ⟨?_, ?_, hraised _ _ (by simp) (by simp) (by simp)⟩,
      fun _ h => (nomatch h), fun h => (nomatch h), fun h => absurd h hdiscard⟩
    · rw [slot_congr (State.raise_frame ..).2.1, closeSlot_slot_other _ _ _ hj, hslot]
    · rw [slot_congr (State.raise_frame ..).2.1, closeSlot_slot_self]
      rfl
    · rw [slot_congr (State.raise_frame ..).2.1, closeSlot_slot_self]
      rfl
  | clone p =>
    have hstate : (s.slot i).state = .active := by
      by_contra hno
      exact hdiscard (.inr (.inr ⟨⟨p, rfl⟩, hno⟩))
    obtain ⟨hkeptMeter, hkeptRoster⟩ := cloneSlot_kept (s := u) (i := i) p (by rwa [hslot])
    rw [applyDecision_clone hholder' (by rwa [hslot])]
    refine ⟨by rw [hkeptRoster, hroster], hkeptMeter.trans hmeter, by simp [hjournal], by simp [hclock], by simp [hconfig],
      by simp [hpending], fun j hj => ?_, fun h => (nomatch h), fun q hq _ => ?_, fun h => (nomatch h),
      fun h => absurd h hdiscard⟩
    · rw [cloneSlot_slot, if_neg hj, hslot]
    · injection hq with hpq
      subst hpq
      refine ⟨by rw [cloneSlot_slot, if_pos rfl]; rfl, by rw [cloneSlot_slot, if_pos rfl]; rfl, by rw [hkeptRoster, hroster],
        ?_⟩
      rw [cloneSlot_eq, hslot, hserial]
      exact hraised _ _ (by simp) (by simp) (by simp)
  | unbar =>
    have hstate : (s.slot i).state = .barred := by
      by_contra hno
      exact hdiscard (.inr (.inl ⟨rfl, hno⟩))
    rw [applyDecision_unbar hholder' (by rwa [hslot])]
    refine ⟨by simp [closeSlot_roster, hdecisions], by simp [closeSlot_meter, hmeter], by simp [hjournal], by simp [hclock],
      by simp [hconfig], by simp [hpending], fun j hj => by rw [closeSlot_slot_other _ _ _ hj, hslot], fun h => (nomatch h),
      fun _ h => (nomatch h), fun _ _ => ?_, fun h => absurd h hdiscard⟩
    rw [closeSlot_slot_self, hslot]
    exact ⟨rfl, rfl, by simp [SlotRecord.close, hstate], by simp [hlink]⟩

/-- Settles O27: the contest rule, and the decision it leads to. -/
theorem contestsWeighedAndDecided : Obligations.ContestsWeighedAndDecided :=
  ⟨claimContested, decisionTaken⟩

/-! ### A slot freed (R34) -/

/-- Freeing a slot may enter its serial in quarantine; then the record is cleared and the change announced. -/
theorem freeSlot_eq (s : State) (i : SlotId) :
    ∃ u : State, s.freeSlot i = u.enter i SlotRecord.freed ∧ u = { s with roster := u.roster } := by
  unfold State.freeSlot
  dsimp only
  split
  · exact ⟨_, rfl, rfl⟩
  · exact ⟨_, rfl, rfl⟩

theorem freed_state (r : SlotRecord) : r.freed.state = .free := rfl

theorem enter_freed_slot_self (s : State) (i : SlotId) : (s.enter i SlotRecord.freed).slot i = (s.slot i).freed := by
  have hself : (s.modSlot i SlotRecord.freed).slot i = (s.slot i).freed := by simp [State.modSlot_slot]
  unfold State.enter State.announce
  rw [hself, freed_state]
  dsimp only
  rw [if_pos rfl]
  generalize hw : State.rosterOnSlot _ i _ _ = w
  have hslot : w.slot i = (s.slot i).freed := by
    rw [← hw, slot_congr (State.rosterOnSlot_frame ..).2.1, slot_congr (State.meterOnSlot_frame ..).2.1, watchOnSlot_slot,
      if_pos rfl, slot_congr (beforeWatch_home ..), hself]
    rfl
  rw [topUp_slot_of_not_short (by rw [hslot]; rfl), hslot]

theorem freeSlot_slot_self (s : State) (i : SlotId) : (s.freeSlot i).slot i = (s.slot i).freed := by
  obtain ⟨u, hfree, hu⟩ := freeSlot_eq s i
  rw [hfree, enter_freed_slot_self, slot_congr (s := s) (by rw [hu])]

theorem freeSlot_tree (s : State) (i : SlotId) :
    (s.freeSlot i).tree = (s.tree.removeWhere fun e => e.isFor i && e.body.isEnrolment).1 := by
  obtain ⟨u, hfree, hu⟩ := freeSlot_eq s i
  have htree : u.tree = s.tree := by rw [hu]
  rw [hfree, enter_tree, ← htree]
  rfl

theorem freeSlot_meter (s : State) (i : SlotId) : (s.freeSlot i).meter = s.meter := by
  obtain ⟨u, hfree, hu⟩ := freeSlot_eq s i
  rw [hfree, enter_meter _ _ _ (.inl ⟨by simp [freed_state], by simp [freed_state]⟩), hu]

theorem freeSlot_enrol (s : State) (i : SlotId) :
    (s.freeSlot i).enrol = { s.enrol with echoes := (s.freeSlot i).enrol.echoes } := by
  obtain ⟨u, hfree, hu⟩ := freeSlot_eq s i
  have henrol : u.enrol = s.enrol := by rw [hu]
  rw [hfree, ← henrol]
  exact enter_enrol ..

theorem abandonAssignment_slot_self (s : State) (i : SlotId) :
    (s.abandonAssignment i).slot i =
      { (s.slot i).freed with releasePending := decide (s.tree.state = .lit ∨ s.tree.state = .dark) } := by
  unfold State.abandonAssignment
  rw [releaseHome_slot, if_pos rfl, freeSlot_slot_self, freeSlot_tree]
  rfl

theorem abandonAssignment_meter (s : State) (i : SlotId) : (s.abandonAssignment i).meter = s.meter := by
  unfold State.abandonAssignment
  simp [freeSlot_meter]

theorem abandonAssignment_enrol (s : State) (i : SlotId) :
    (s.abandonAssignment i).enrol = { s.enrol with echoes := (s.abandonAssignment i).enrol.echoes } := by
  unfold State.abandonAssignment
  simpa using freeSlot_enrol s i

/-! ### DEROLL (O28, R38) -/

theorem closeSlot_enrol (s : State) (i : SlotId) (reason : CloseReason) :
    (s.closeSlot i reason).enrol = { s.enrol with echoes := (s.closeSlot i reason).enrol.echoes } := by
  rw [closeSlot_eq]
  simpa using enter_enrol s i (·.close reason)

theorem derollSlot_abandoned {s : State} {i : SlotId} (hstate : (s.slot i).state = .assigning)
    (hfresh : (s.slot i).rejoin = false) : s.derollSlot i = s.abandonAssignment i := by
  unfold State.derollSlot
  rw [hstate]
  exact if_neg (by simp [hfresh])

theorem derollSlot_closed {s : State} {i : SlotId}
    (h : (s.slot i).state = .assigning ∧ (s.slot i).rejoin = true ∨ (s.slot i).state = .active
      ∨ (s.slot i).state = .lost ∨ (s.slot i).state = .resuming) : s.derollSlot i = s.closeSlot i .deroll := by
  unfold State.derollSlot
  rcases h with ⟨h, hrejoin⟩ | h | h | h <;> rw [h]
  exact if_pos hrejoin

theorem derollSlot_barred {s : State} {i : SlotId} (h : (s.slot i).state = .barred) :
    s.derollSlot i = s.closeSlot i .barred := by
  unfold State.derollSlot
  rw [h]

theorem derollSlot_closing {s : State} {i : SlotId} (h : (s.slot i).state = .closing) : s.derollSlot i = s := by
  unfold State.derollSlot
  rw [h]

/-- DEROLL writes nothing of metering, journal, link, clock, configuration and provision list. -/
theorem derollSlot_kept (s : State) (i : SlotId) :
    (s.derollSlot i).meter = s.meter ∧ (s.derollSlot i).enrol.provision = s.enrol.provision := by
  unfold State.derollSlot
  split
  · split
    · exact ⟨closeSlot_meter .., by rw [closeSlot_enrol]⟩
    · exact ⟨abandonAssignment_meter .., by rw [abandonAssignment_enrol]⟩
  · exact ⟨closeSlot_meter .., by rw [closeSlot_enrol]⟩
  · exact ⟨closeSlot_meter .., by rw [closeSlot_enrol]⟩
  · exact ⟨closeSlot_meter .., by rw [closeSlot_enrol]⟩
  · exact ⟨closeSlot_meter .., by rw [closeSlot_enrol]⟩
  · exact ⟨rfl, rfl⟩
  · exact ⟨rfl, rfl⟩

theorem execDeroll_unheld {s : State} {c : RxCommand} (hd : s.Dispatched 3 c) (h : s.holder c.serial = none) :
    exec .deroll s = .next ((s.modLink (·.without c)).answerCode c .notFound) := by
  show execDeroll s = _
  rw [execDeroll, takeCommand_of_dispatched hd]
  have hnone : (s.modLink (·.without c)).holder c.serial = none := h
  simp only [hnone]

theorem execDeroll_held {s : State} {c : RxCommand} {i : SlotId} (hd : s.Dispatched 3 c) (h : s.holder c.serial = some i) :
    exec .deroll s = .next (((s.modLink (·.without c)).derollSlot i).answerCode c .done) := by
  show execDeroll s = _
  rw [execDeroll, takeCommand_of_dispatched hd]
  have hsome : (s.modLink (·.without c)).holder c.serial = some i := h
  simp only [hsome]

/-- Settles O28, by the state of the slot that holds the serial. -/
theorem derollActs : Obligations.DerollActs := by
  unfold Obligations.DerollActs
  intro s c hd x
  cases hholder : s.holder x with
  | none =>
    refine ⟨_, execDeroll_unheld hd hholder, by simp, by simp, by simp, by simp, by simp, by simp,
      fun _ => ⟨State.ext_blocks, answerCode_answered (by rfl) c .notFound⟩, fun i h => (nomatch h)⟩
  | some i =>
    have hserial := (serial_of_holder hholder).2
    obtain ⟨hmeter, hprovision⟩ := derollSlot_kept (s.modLink (·.without c)) i
    have hexec := execDeroll_held hd hholder
    generalize hu : s.modLink (·.without c) = u at hexec hmeter hprovision
    have hslot : ∀ j, u.slot j = s.slot j := slot_congr (by rw [← hu]; rfl)
    have hlink : u.link = s.link.without c := by rw [← hu]; rfl
    have htree : u.tree = s.tree := by rw [← hu]; rfl
    have hframe : u.clock = s.clock ∧ u.journal = s.journal ∧ u.config = s.config ∧ u.pending = s.pending
        ∧ u.meter = s.meter ∧ u.enrol = s.enrol := by
      rw [← hu]
      exact ⟨rfl, rfl, rfl, rfl, rfl, rfl⟩
    obtain ⟨hclock, hjournal, hconfig, hpending, hmeter', henrol⟩ := hframe
    have hreply : ∀ v : State, (v.answerCode c .done).home = v.home := fun v => by simp
    refine ⟨_, hexec, by simp [hmeter, hmeter'], by simp [hjournal], by simp [hclock], by simp [hconfig], by simp [hpending],
      by simp [hprovision, henrol], fun h => (nomatch h), fun k hk => ?_⟩
    injection hk with hk
    subst hk
    refine ⟨answerCode_answered (by simpa using hlink) c .done, fun hstate hfresh => ?_, fun hstate => ?_,
      fun hstate => ?_, fun hstate => ?_⟩
    · rw [slot_congr (hreply _), derollSlot_abandoned (by rwa [hslot]) (by rwa [hslot]), abandonAssignment_slot_self, hslot,
        htree]
      exact ⟨rfl, rfl, rfl, fun h => by simpa using h⟩
    · rw [derollSlot_closed (by rwa [hslot])]
      refine ⟨?_, ?_, ?_, fun j hj => ?_⟩
      · rw [slot_congr (hreply _), closeSlot_slot_self]; rfl
      · rw [slot_congr (hreply _), closeSlot_slot_self]; rfl
      · rw [slot_congr (hreply _), closeSlot_slot_self, hslot]; exact hserial
      · rw [slot_congr (hreply _), closeSlot_slot_other _ _ _ hj, hslot]
    · rw [derollSlot_barred (by rwa [hslot])]
      refine ⟨?_, ?_, ?_, ?_, fun j hj => ?_⟩
      · rw [slot_congr (hreply _), closeSlot_slot_self]; rfl
      · rw [slot_congr (hreply _), closeSlot_slot_self]; rfl
      · rw [slot_congr (hreply _), closeSlot_slot_self, hslot]; exact hserial
      · rw [slot_congr (hreply _), closeSlot_slot_self, hslot]; simp [SlotRecord.close, hstate]
      · rw [slot_congr (hreply _), closeSlot_slot_other _ _ _ hj, hslot]
    · rw [derollSlot_closing (by rwa [hslot]), ← hu]
      exact State.ext_blocks

end Sys2Proof.Machine
end

section
/-! PROOFS. A slot lost, and the two statements about planned bursts (O12, O13; R10, R11, R26, R27, R61, R71, R81, R96). -/

namespace Sys2Proof.Machine

-- One thread elaborates this section: the text as a whole is near the memory limit of the check.
set_option Elab.async false

/-! ### A slot lost (R27) -/

/-- The slot record on entry to LOST (R27). -/
def SlotRecord.lose (r : SlotRecord) (at_ : LostSince) : SlotRecord :=
  { r with state := .lost, silent := 4, lostSince := some at_ }

/-- The moment from which a slot that enters LOST counts (R27). -/
def State.lostFrom (s : State) (i : SlotId) : LostSince :=
  ((s.slot i).lostSince).getD { round := s.clock.round, time := s.clock.time }

section
variable (s : State) (i : SlotId)

theorem loseSlot_eq :
    s.loseSlot i =
      if 240000 ≤ (s.clock.round - (s.lostFrom i).round).toNat then
        (s.enter i (·.lose (s.lostFrom i))).closeSlot i .lost
      else s.enter i (·.lose (s.lostFrom i)) := by
  have hnow : (s.enter i (·.lose (s.lostFrom i))).now = s.clock.round := by simp [State.now]
  show (if Config.minuteRounds ≤ since (s.enter i (·.lose (s.lostFrom i))).now (s.lostFrom i).round then _ else _) = _
  rw [hnow]
  rfl

theorem loseSlot_of_recent (h : (s.clock.round - (s.lostFrom i).round).toNat < 240000) :
    s.loseSlot i = s.enter i (·.lose (s.lostFrom i)) := (loseSlot_eq s i).trans (if_neg (Nat.not_le.mpr h))

theorem loseSlot_of_old (h : 240000 ≤ (s.clock.round - (s.lostFrom i).round).toNat) :
    s.loseSlot i = (s.enter i (·.lose (s.lostFrom i))).closeSlot i .lost := (loseSlot_eq s i).trans (if_pos h)

theorem enter_lose_slot (l : LostSince) (j : SlotId) :
    (s.enter i (·.lose l)).slot j = if j = i then (s.slot i).lose l else s.slot j := by
  by_cases hj : j = i
  · subst hj
    rw [if_pos rfl, enter_slot_self _ _ _ (by simp [SlotRecord.lose]) rfl]
  · rw [if_neg hj, enter_slot_other _ _ _ (by simp [SlotRecord.lose]) hj]

theorem loseSlot_slot_other {j : SlotId} (hj : j ≠ i) : (s.loseSlot i).slot j = s.slot j := by
  rcases Nat.lt_or_ge (s.clock.round - (s.lostFrom i).round).toNat 240000 with h | h
  · rw [loseSlot_of_recent s i h, enter_lose_slot, if_neg hj]
  · rw [loseSlot_of_old s i h, closeSlot_slot_other _ _ _ hj, enter_lose_slot, if_neg hj]

theorem loseSlot_slot_recent (h : (s.clock.round - (s.lostFrom i).round).toNat < 240000) :
    (s.loseSlot i).slot i = (s.slot i).lose (s.lostFrom i) := by
  rw [loseSlot_of_recent s i h, enter_lose_slot, if_pos rfl]

/-- A slot lost for 240,000 rounds already is CLOSING at once, its lost-since kept. -/
theorem loseSlot_slot_old (h : 240000 ≤ (s.clock.round - (s.lostFrom i).round).toNat) :
    ((s.loseSlot i).slot i).state = .closing ∧ ((s.loseSlot i).slot i).closeReason = some .lost
      ∧ ((s.loseSlot i).slot i).lostSince = some (s.lostFrom i) ∧ ((s.loseSlot i).slot i).serial = (s.slot i).serial
      ∧ ((s.loseSlot i).slot i).gen = (s.slot i).gen := by
  rw [loseSlot_of_old s i h, closeSlot_slot_self, enter_lose_slot, if_pos rfl]
  exact ⟨rfl, rfl, rfl, rfl, rfl⟩

theorem lostFrom_of_none {s : State} {i : SlotId} (h : (s.slot i).lostSince = none) :
    s.lostFrom i = { round := s.clock.round, time := s.clock.time } := by
  unfold State.lostFrom
  rw [h]
  rfl

theorem lostFrom_of_some {s : State} {i : SlotId} {l : LostSince} (h : (s.slot i).lostSince = some l) :
    s.lostFrom i = l := by
  unfold State.lostFrom
  rw [h]
  rfl

theorem recent_of_none {s : State} {i : SlotId} (h : (s.slot i).lostSince = none) :
    (s.clock.round - (s.lostFrom i).round).toNat < 240000 := by
  rw [lostFrom_of_none h]
  simp

/-- The announcement of LOST and CLOSING writes of the downstream engine the flushes only. -/
theorem loseSlot_down : (s.loseSlot i).down = { s.down with flushes := (s.loseSlot i).down.flushes } := by
  have hlose : ∀ l, (s.enter i (·.lose l)).down = { s.down with flushes := (s.enter i (·.lose l)).down.flushes } := by
    intro l
    rw [enter_down, downOnSlot_down _ _ (by simp [SlotRecord.lose])]
    rfl
  rcases Nat.lt_or_ge (s.clock.round - (s.lostFrom i).round).toNat 240000 with h | h
  · rw [loseSlot_of_recent s i h, hlose]
  · rw [loseSlot_of_old s i h, closeSlot_down, hlose]

theorem loseSlot_meter : (s.loseSlot i).meter = s.meter := by
  have hlose : ∀ l, (s.enter i (·.lose l)).meter = s.meter := fun l =>
    enter_meter _ _ _ (.inl ⟨by simp [SlotRecord.lose], by simp [SlotRecord.lose]⟩)
  rcases Nat.lt_or_ge (s.clock.round - (s.lostFrom i).round).toNat 240000 with h | h
  · rw [loseSlot_of_recent s i h, hlose]
  · rw [loseSlot_of_old s i h, closeSlot_meter, hlose]

theorem schedOnSlot_demand (new : SlotState) (hnew : new ≠ .assigning ∧ new ≠ .free) :
    (s.schedOnSlot i new).sched.demand = s.sched.demand := by
  obtain ⟨hassigning, hfree⟩ := hnew
  unfold State.schedOnSlot
  cases new <;> simp at hassigning hfree ⊢

theorem enter_demand (f : SlotRecord → SlotRecord)
    (hnew : (f (s.slot i)).state ≠ .assigning ∧ (f (s.slot i)).state ≠ .free) :
    (s.enter i f).sched.demand = s.sched.demand := by
  have hself : (s.modSlot i f).slot i = f (s.slot i) := by simp [State.modSlot_slot]
  unfold State.enter State.announce
  rw [hself]
  dsimp only
  rw [if_neg hnew.2]
  simp [schedOnSlot_demand _ _ _ hnew]

theorem closeSlot_demand (reason : CloseReason) : (s.closeSlot i reason).sched.demand = s.sched.demand := by
  rw [closeSlot_eq]
  simpa using enter_demand s i (·.close reason) ⟨by simp [SlotRecord.close], by simp [SlotRecord.close]⟩

theorem loseSlot_demand : (s.loseSlot i).sched.demand = s.sched.demand := by
  have hlose : ∀ l, (s.enter i (·.lose l)).sched.demand = s.sched.demand := fun l =>
    enter_demand _ _ _ ⟨by simp [SlotRecord.lose], by simp [SlotRecord.lose]⟩
  rcases Nat.lt_or_ge (s.clock.round - (s.lostFrom i).round).toNat 240000 with h | h
  · rw [loseSlot_of_recent s i h, hlose]
  · rw [loseSlot_of_old s i h, closeSlot_demand, hlose]

end

/-! ### A burst that was not heard (O12, R10, R26, R61) -/

theorem classOf_unheard {e : PlanEntry} {rx : BurstRx} (h : ∀ h, burstHeader rx.header = some h → h.slot ≠ e.slot.val) :
    classOf e rx = if rx.light then .garbled else .silent := by
  unfold classOf
  cases hheader : burstHeader rx.header with
  | none => rfl
  | some k => exact if_neg (h k hheader)

theorem classOf_heard {e : PlanEntry} {rx : BurstRx} {h : BurstHeader} (hheader : burstHeader rx.header = some h)
    (hslot : h.slot = e.slot.val) : classOf e rx = .heard := by
  unfold classOf
  rw [hheader]
  exact if_pos hslot

/-- The state in which a burst of the plan in reception is classified: its place in the record counted, its sample of the
activity latch taken (R10, log entry 51). -/
def State.atBurst (s : State) (light : Bool) : State :=
  (s.modReception fun k => { k with classified := k.classified + 1 }).sampleLatch light

theorem atBurst_eq {s : State} {light : Bool} : s.atBurst light = { s with tree := (s.atBurst light).tree } :=
  State.ext_blocks (home := by simp [State.atBurst]) (enrol := by simp [State.atBurst])
    (sched := by simp [State.atBurst]) (down := by simp [State.atBurst]) (watch := by simp [State.atBurst])
    (meter := by simp [State.atBurst]) (journal := by simp [State.atBurst]) (link := by simp [State.atBurst])
    (roster := by simp [State.atBurst]) (clock := by simp [State.atBurst]) (config := by simp [State.atBurst])
    (pending := by simp [State.atBurst])

theorem execBurstClassify_of {s : State} {r : Issued} {e : PlanEntry} (rx : BurstRx) (hr : s.reception = some r)
    (he : r.plan.entries[r.classified]? = some e) :
    exec (.burstClassify rx) s =
      .next ((if classOf e rx = .heard then (s.atBurst rx.light).heardBurst e r.plan.round rx else s.atBurst rx.light).applyClass
        e.slot e.gen (classOf e rx) r.plan.round) := by
  show execBurstClassify rx s = _
  rw [execBurstClassify, hr]
  dsimp only
  rw [he]
  rfl

section
variable {s : State} {i : SlotId} {g : Gen} {c : BurstClass} {n : Round}

theorem applyClass_discarded (h : (s.slot i).gen ≠ g ∨ (s.slot i).state = .free) : s.applyClass i g c n = s := by
  unfold State.applyClass
  rcases h with h | h
  · exact if_neg h
  · split
    · rw [h]
    · rfl

theorem applyClass_active (hgen : (s.slot i).gen = g) (hstate : (s.slot i).state = .active) :
    s.applyClass i g c n = s.activeBurst i c n := by
  unfold State.applyClass
  rw [if_pos hgen, hstate]

theorem applyClass_unheard (hc : c ≠ .heard) (hstate : (s.slot i).state ≠ .active) : s.applyClass i g c n = s := by
  unfold State.applyClass
  split
  · split <;> simp_all
  · rfl

theorem activeBurst_garbled : s.activeBurst i .garbled n = s.countGarbled i .garbled := rfl

theorem activeBurst_hushed (h : (s.slot i).hushed = true) :
    s.activeBurst i .silent n = s.countGarbled i .silent := by
  unfold State.activeBurst
  dsimp only
  exact if_pos ((congrArg SlotRecord.hushed (slot_congr (State.countGarbled_frame ..).2.1 i)).trans h)

theorem activeBurst_counted (h : (s.slot i).hushed = false) (hsilent : (s.slot i).silent < 3) :
    s.activeBurst i .silent n =
      (s.countGarbled i .silent).modSlot i fun r => { r with silent := r.silent + 1 } := by
  have hslot : (s.countGarbled i .silent).slot i = s.slot i := slot_congr (State.countGarbled_frame ..).2.1 i
  unfold State.activeBurst
  dsimp only
  rw [hslot, if_neg (by simp [h]), if_neg (by omega)]

theorem activeBurst_lost (h : (s.slot i).hushed = false) (hsilent : 3 ≤ (s.slot i).silent) :
    s.activeBurst i .silent n = (s.countGarbled i .silent).loseSlot i := by
  have hslot : (s.countGarbled i .silent).slot i = s.slot i := slot_congr (State.countGarbled_frame ..).2.1 i
  unfold State.activeBurst
  dsimp only
  rw [hslot, if_neg (by simp [h]), if_pos (by omega)]

end

/-- A burst of the record's round that was not heard, at an ACTIVE slot: what stands whatever its latch says. -/
theorem activeBurst_kept (s : State) (i : SlotId) {c : BurstClass} (hc : c ≠ .heard) (n : Round) :
    (s.activeBurst i c n).down = { s.down with flushes := (s.activeBurst i c n).down.flushes }
      ∧ (s.activeBurst i c n).sched.demand = s.sched.demand ∧ (s.activeBurst i c n).meter = s.meter
      ∧ ∀ j, j ≠ i → (s.activeBurst i c n).slot j = s.slot j := by
  have hslot : ∀ k j, (s.countGarbled i k).slot j = s.slot j := fun k => slot_congr (State.countGarbled_frame ..).2.1
  have hcounted : ∀ k, (s.countGarbled i k).down = { s.down with flushes := (s.countGarbled i k).down.flushes } :=
    fun k => by simp
  cases c with
  | heard => exact absurd rfl hc
  | garbled =>
    rw [activeBurst_garbled]
    exact ⟨hcounted _, by simp, by simp, fun j _ => hslot _ j⟩
  | silent =>
    cases hhushed : (s.slot i).hushed with
    | true =>
      rw [activeBurst_hushed hhushed]
      exact ⟨hcounted _, by simp, by simp, fun j _ => hslot _ j⟩
    | false =>
      rcases Nat.lt_or_ge (s.slot i).silent 3 with hsilent | hsilent
      · rw [activeBurst_counted hhushed hsilent]
        refine ⟨by simp, by simp, by simp, fun j hj => ?_⟩
        rw [State.modSlot_slot, if_neg hj, hslot]
      · rw [activeBurst_lost hhushed hsilent]
        refine ⟨?_, by simp [loseSlot_demand], by simp [loseSlot_meter], fun j hj => ?_⟩
        · rw [loseSlot_down]
          simp
        · rw [loseSlot_slot_other _ _ hj, hslot]

/-- Settles O12: by the generation and state of the slot, the latch and the counts. -/
theorem burstNotHeard : Obligations.BurstNotHeard := by
  unfold Obligations.BurstNotHeard
  intro s rx r e hr he hunheard
  have hclass := classOf_unheard hunheard
  have hexec := execBurstClassify_of rx hr he
  have hu := atBurst_eq (s := s) (light := rx.light)
  have hc : classOf e rx ≠ .heard := by rw [hclass]; split <;> simp
  rw [if_neg hc] at hexec
  generalize s.atBurst rx.light = u at hexec hu
  have hblocks : u.home = s.home ∧ u.enrol = s.enrol ∧ u.sched = s.sched ∧ u.down = s.down ∧ u.meter = s.meter
      ∧ u.journal = s.journal ∧ u.link = s.link ∧ u.clock = s.clock ∧ u.config = s.config ∧ u.pending = s.pending := by
    rw [hu]
    exact ⟨rfl, rfl, rfl, rfl, rfl, rfl, rfl, rfl, rfl, rfl⟩
  obtain ⟨hhome, henrol, hsched, hdown, hmeter, hjournal, hlink, hclock, hconfig, hpending⟩ := hblocks
  have hslot := slot_congr hhome
  have hecho : ∀ j, u.echo j = s.echo j := fun j => by simp [State.echo, henrol]
  refine ⟨_, hexec, ?_⟩
  by_cases hplanned : (s.slot e.slot).gen = e.gen ∧ (s.slot e.slot).state = .active
  · obtain ⟨hgen, hstate⟩ := hplanned
    rw [applyClass_active (by rwa [hslot]) (by rwa [hslot])]
    obtain ⟨hflushes, hdemand, hmetered, hothers⟩ := activeBurst_kept u e.slot hc r.plan.round
    refine ⟨by rw [hflushes, hdown], by rw [hflushes, hdown], by rw [hflushes, hdown], by rw [hdemand, hsched],
      hmetered.trans hmeter, by simp [hjournal], by simp [hlink], by simp [hclock], by simp [hconfig], by simp [hpending],
      fun j hj => (hothers j hj).trans (hslot j), fun hlight => ?_, fun h => ?_, fun _ _ hlight => ?_,
      fun _ _ hlight => ?_⟩
    · rw [hclass, if_pos hlight, activeBurst_garbled]
      simp [hhome]
    · exact absurd h (by simp [hgen, hstate])
    · rw [hclass.trans (if_neg (by simp [hlight]))]
      have hcounted : ∀ k j, (u.countGarbled e.slot k).slot j = s.slot j := fun k j =>
        (slot_congr (State.countGarbled_frame ..).2.1 j).trans (hslot j)
      cases hhushed : (s.slot e.slot).hushed with
      | true =>
        rw [if_pos rfl, activeBurst_hushed (by rwa [hslot]), hcounted]
      | false =>
        rw [if_neg (by simp)]
        split
        next hsilent =>
          rw [activeBurst_counted (by rwa [hslot]) (by rwa [hslot]), State.modSlot_slot, if_pos rfl, hcounted]
        next hsilent =>
          intro hnone
          have hnone' : ((u.countGarbled e.slot .silent).slot e.slot).lostSince = none := by rwa [hcounted]
          rw [activeBurst_lost (by rwa [hslot]) (by rw [hslot]; omega), loseSlot_slot_recent _ _ (recent_of_none hnone'),
            lostFrom_of_none hnone', hcounted]
          simp [SlotRecord.lose, hclock]
    · rw [hclass, if_pos hlight, activeBurst_garbled]
      simp only [State.countGarbled, hecho]
      rcases Nat.lt_or_ge (s.echo e.slot).garbledRun 7 with hrun | hrun
      · rw [if_pos hrun, if_neg (by omega)]
        exact ⟨by rw [State.modEcho_echo, if_pos rfl], by simp [State.modEcho, henrol]⟩
      · rw [if_neg (by omega), if_pos (by omega)]
        refine ⟨?_, by simp [State.modEcho, henrol]⟩
        show ((u.modEcho e.slot fun r => { r with garbledRun := 0 }).echo e.slot).garbledRun = 0
        rw [State.modEcho_echo, if_pos rfl]
  · have hdone : u.applyClass e.slot e.gen (classOf e rx) r.plan.round = u := by
      by_cases hgen : (s.slot e.slot).gen = e.gen
      · exact applyClass_unheard hc (by rw [hslot]; exact fun h => hplanned ⟨hgen, h⟩)
      · exact applyClass_discarded (.inl (by rwa [hslot]))
    rw [hdone]
    exact ⟨by rw [hdown], by rw [hdown], by rw [hdown], by rw [hsched], hmeter, hjournal, hlink, hclock, hconfig, hpending,
      fun j _ => hslot j, fun _ => hhome, fun _ => ⟨hhome, henrol⟩, fun hg hs => absurd ⟨hg, hs⟩ hplanned,
      fun hg hs => absurd ⟨hg, hs⟩ hplanned⟩

end Sys2Proof.Machine
end

section
/-! PROOFS. A burst that was heard (O13; R10, R11, R19, R26, R71, R81, R96). -/

namespace Sys2Proof.Machine

-- One thread elaborates this section: the text as a whole is near the memory limit of the check.
set_option Elab.async false

/-! ### The hand-offs of a heard burst (R11, R19, R71, R96) -/

/-- A HOLDOFF completed by its sequence writes its lane and its echo record only (R19, R60). -/
theorem holdoffSequence_eq (s : State) (i : SlotId) (g : Gen) (n : Round) (seq : BitVec 8) :
    s.holdoffSequence i g n seq =
      { s with tree := (s.holdoffSequence i g n seq).tree, enrol := (s.holdoffSequence i g n seq).enrol } := by
  unfold State.holdoffSequence
  split
  · rfl
  next e hfind =>
  have hmatch := List.find?_some hfind
  simp only [Bool.and_eq_true, beq_iff_eq] at hmatch
  obtain ⟨⟨⟨⟨hbody, -⟩, htarget⟩, -⟩, -⟩ := hmatch
  cases hb : e.body with
  | holdoff v =>
    have hreport : ∀ u : State, u.report e .completed = u.holdoffOutcome i v .completed := by
      intro u
      unfold State.report
      rw [hb, htarget]
    rw [hreport]
    exact State.ext_blocks
  | _ => rw [hb] at hbody; cases hbody

theorem forward_down (s : State) (i : SlotId) (packets : List (List Byte)) :
    (s.forward i packets).down = { s.down with egress := (s.forward i packets).down.egress } := by
  unfold State.forward
  split <;> rfl

theorem forward_egress {s : State} {i : SlotId} {x : Serial} {pe : ProvisionEntry} (hserial : (s.slot i).serial = some x)
    (hentry : s.entryOf x = some pe) (packets : List (List Byte)) :
    (s.forward i packets).down.egress = s.down.egress ++ packets.map fun p => { tag := pe.tag, content := p } := by
  have hbind : ((s.slot i).serial).bind s.entryOf = some pe := by rw [hserial]; exact hentry
  unfold State.forward
  rw [hbind]
  rfl

section
variable {s : State} {e : PlanEntry} {packets : List (List Byte)}

theorem takesUpstream_iff :
    s.takesUpstream e = true ↔
      (s.slot e.slot).gen = e.gen ∧ ((s.slot e.slot).state = .active ∨ (s.slot e.slot).state = .lost) := by
  simp [State.takesUpstream]

theorem upstream_discarded (h : s.takesUpstream e = false) : s.upstream e packets = s := by
  unfold State.upstream
  exact if_neg (by simp [h])

theorem upstream_taken (h : s.takesUpstream e = true) :
    s.upstream e packets =
      if 0 < payloadBytes packets then
        (s.forward e.slot packets).offerUpdate e.slot e.gen .up (payloadBytes packets)
          (min (payloadBytes packets) (16 * e.assured))
      else s.forward e.slot packets := by
  unfold State.upstream
  exact if_pos h

theorem upstream_down : (s.upstream e packets).down = { s.down with egress := (s.upstream e packets).down.egress } := by
  cases h : s.takesUpstream e
  · rw [upstream_discarded h]
  · rw [upstream_taken h]
    split
    · simpa using forward_down s e.slot packets
    · exact forward_down s e.slot packets

theorem upstream_egress (h : s.takesUpstream e = true) :
    (s.upstream e packets).down.egress = (s.forward e.slot packets).down.egress := by
  rw [upstream_taken h]
  split <;> simp

theorem upstream_takes (h : s.takesUpstream e = true) (hbytes : 0 < payloadBytes packets) :
    s.meter.TakesUpdate (s.upstream e packets).meter e.slot e.gen .up (payloadBytes packets)
      (min (payloadBytes packets) (16 * e.assured)) := by
  rw [upstream_taken h, if_pos hbytes]
  have htakes := offerUpdate_takes (s.forward e.slot packets) e.slot e.gen .up (payloadBytes packets)
    (min (payloadBytes packets) (16 * e.assured))
  have hmeter : (s.forward e.slot packets).meter = s.meter := by simp
  rwa [hmeter] at htakes

theorem upstream_meter_of_empty (hbytes : payloadBytes packets = 0) : (s.upstream e packets).meter = s.meter := by
  cases h : s.takesUpstream e
  · rw [upstream_discarded h]
  · rw [upstream_taken h, if_neg (by omega)]
    simp

end

theorem takeFill_demand {s : State} {i : SlotId} {g : Gen} {fill : Nat} {n : Round} (hgen : (s.slot i).gen = g)
    (hlater : ∀ m, (s.demand i).report = some m → 0 < (n - m).toInt) :
    (s.takeFill i g fill n).demand i = { s.demand i with fill := fill, report := some n } := by
  have htakes : ((((s.demand i).report).map fun r => later n r).getD true) = true := by
    cases hreport : (s.demand i).report with
    | none => rfl
    | some m => simpa [later] using hlater m hreport
  unfold State.takeFill
  rw [if_pos ⟨hgen, htakes⟩, State.modDemand_demand, if_pos rfl]

/-! ### HEARD by the slot's state (R26) -/

section
variable {s : State} {i : SlotId} {g : Gen} {n : Round} (hgen : (s.slot i).gen = g)
include hgen

theorem applyClass_heard_active (hstate : (s.slot i).state = .active) :
    s.applyClass i g .heard n =
      (s.countGarbled i .heard).modSlot i fun r => { r with lastHeard := some n, silent := 0 } :=
  applyClass_active hgen hstate

theorem applyClass_heard_lost (hstate : (s.slot i).state = .lost) :
    s.applyClass i g .heard n = s.enter i fun r => { r.activate with lastHeard := some n } := by
  unfold State.applyClass
  rw [if_pos hgen, hstate]

theorem applyClass_heard_barred (hstate : (s.slot i).state = .barred) :
    s.applyClass i g .heard n = (s.modSlot i fun r => { r with lastHeard := some n }).severAgain i := by
  unfold State.applyClass
  rw [if_pos hgen, hstate]

theorem applyClass_heard_noted
    (hstate : (s.slot i).state = .assigning ∨ (s.slot i).state = .resuming ∨ (s.slot i).state = .closing) :
    s.applyClass i g .heard n = s.modSlot i fun r => { r with lastHeard := some n } := by
  unfold State.applyClass
  rw [if_pos hgen]
  rcases hstate with h | h | h <;> rw [h]

end

theorem severAgain_slot (s : State) (i j : SlotId) : (s.severAgain i).slot j = s.slot j := by
  unfold State.severAgain
  split
  · rfl
  · exact offerSever_slot ..

/-- A HEARD burst writes, of the slot's blocks, the tree port, the home table, the echo record and the echo requests. -/
theorem applyClass_heard_kept (s : State) (i : SlotId) (g : Gen) (n : Round) :
    (s.applyClass i g .heard n).down = s.down ∧ (s.applyClass i g .heard n).meter = s.meter
      ∧ (s.applyClass i g .heard n).watch = s.watch ∧ (s.applyClass i g .heard n).roster = s.roster
      ∧ (s.applyClass i g .heard n).sched.demand = s.sched.demand
      ∧ ∀ j, j ≠ i → (s.applyClass i g .heard n).slot j = s.slot j := by
  by_cases hgen : (s.slot i).gen = g
  swap
  · rw [applyClass_discarded (.inl hgen)]
    exact ⟨rfl, rfl, rfl, rfl, rfl, fun _ _ => rfl⟩
  cases hstate : (s.slot i).state with
  | free =>
    rw [applyClass_discarded (.inr hstate)]
    exact ⟨rfl, rfl, rfl, rfl, rfl, fun _ _ => rfl⟩
  | active =>
    rw [applyClass_heard_active hgen hstate]
    refine ⟨by simp, by simp, by simp, by simp, by simp, fun j hj => ?_⟩
    rw [State.modSlot_slot, if_neg hj]
    exact slot_congr (State.countGarbled_frame ..).2.1 j
  | lost =>
    have hfresh : (s.slot i).fresh = false := by simp [SlotRecord.fresh, hstate]
    rw [applyClass_heard_lost hgen hstate]
    refine ⟨?_, enter_meter _ _ _ (.inr hfresh), enter_watch _ _ _ (.inl rfl), enter_roster _ _ _ (.inr hfresh),
      enter_demand _ _ _ ⟨by simp [SlotRecord.activate], by simp [SlotRecord.activate]⟩, fun j hj =>
        enter_slot_other _ _ _ (by simp [SlotRecord.activate]) hj⟩
    rw [enter_down, downOnSlot_down _ _ (by simp [SlotRecord.activate])]
    simp [SlotRecord.activate, SlotState.flush]
  | barred =>
    rw [applyClass_heard_barred hgen hstate]
    refine ⟨by simp, by simp, by simp, by simp, by simp, fun j hj => ?_⟩
    rw [severAgain_slot, State.modSlot_slot, if_neg hj]
  | assigning =>
    rw [applyClass_heard_noted hgen (.inl hstate)]
    exact ⟨rfl, rfl, rfl, rfl, rfl, fun j hj => by rw [State.modSlot_slot, if_neg hj]⟩
  | resuming =>
    rw [applyClass_heard_noted hgen (.inr (.inl hstate))]
    exact ⟨rfl, rfl, rfl, rfl, rfl, fun j hj => by rw [State.modSlot_slot, if_neg hj]⟩
  | closing =>
    rw [applyClass_heard_noted hgen (.inr (.inr hstate))]
    exact ⟨rfl, rfl, rfl, rfl, rfl, fun j hj => by rw [State.modSlot_slot, if_neg hj]⟩

/-- The record of the slot a HEARD burst is applied to. -/
theorem applyClass_heard_slot {s : State} {i : SlotId} {g : Gen} (hgen : (s.slot i).gen = g) (n : Round) :
    ((s.slot i).state = .active ∨ (s.slot i).state = .lost →
      (s.applyClass i g .heard n).slot i = { s.slot i with
        state := .active, lastHeard := some n, silent := 0
        rejoin := if (s.slot i).state = .lost then false else (s.slot i).rejoin
        lostSince := if (s.slot i).state = .lost then none else (s.slot i).lostSince })
      ∧ ((s.slot i).state = .assigning ∨ (s.slot i).state = .resuming ∨ (s.slot i).state = .barred
          ∨ (s.slot i).state = .closing →
        (s.applyClass i g .heard n).slot i = { s.slot i with lastHeard := some n }) := by
  have hcount : (s.countGarbled i .heard).slot i = s.slot i := slot_congr (State.countGarbled_frame ..).2.1 i
  refine ⟨fun hstate => ?_, fun hstate => ?_⟩
  · rcases hstate with hstate | hstate
    · rw [applyClass_heard_active hgen hstate, State.modSlot_slot, if_pos rfl, hcount]
      rw [if_neg (by simp [hstate]), if_neg (by simp [hstate]), ← hstate]
    · rw [applyClass_heard_lost hgen hstate, enter_slot_self _ _ _ (by simp [SlotRecord.activate]) rfl]
      simp [hstate, SlotRecord.activate]
  · by_cases hbarred : (s.slot i).state = .barred
    · rw [applyClass_heard_barred hgen hbarred, severAgain_slot, State.modSlot_slot, if_pos rfl]
    · rw [applyClass_heard_noted hgen (by simpa [hbarred] using hstate), State.modSlot_slot, if_pos rfl]

/-- Settles O13: the hand-offs, then the class applied by the slot's state. -/
theorem burstHeard : Obligations.BurstHeard := by
  unfold Obligations.BurstHeard
  intro s rx r e h hr he hheader hhslot hgen packets b
  have hclass := classOf_heard hheader hhslot
  have hexec := execBurstClassify_of rx hr he
  have hu := atBurst_eq (s := s) (light := rx.light)
  rw [hclass, if_pos rfl] at hexec
  generalize s.atBurst rx.light = u at hexec hu
  have hblocks : u.home = s.home ∧ u.enrol = s.enrol ∧ u.sched = s.sched ∧ u.down = s.down ∧ u.meter = s.meter
      ∧ u.watch = s.watch ∧ u.roster = s.roster ∧ u.journal = s.journal ∧ u.link = s.link ∧ u.clock = s.clock
      ∧ u.config = s.config ∧ u.pending = s.pending := by
    rw [hu]
    exact ⟨rfl, rfl, rfl, rfl, rfl, rfl, rfl, rfl, rfl, rfl, rfl, rfl⟩
  obtain ⟨hhome, henrol, hsched, hdown, hmeter, hwatch, hroster, hjournal, hlink, hclock, hconfig, hpending⟩ := hblocks
  have hslot := slot_congr hhome
  have hburst : u.heardBurst e r.plan.round rx =
      ((u.upstream e packets).takeFill e.slot e.gen h.fill r.plan.round).holdoffSequence e.slot e.gen r.plan.round
        h.lastOrder := by
    unfold State.heardBurst
    rw [hheader]
  have hseq := holdoffSequence_eq ((u.upstream e packets).takeFill e.slot e.gen h.fill r.plan.round) e.slot e.gen
    r.plan.round h.lastOrder
  rw [← hburst] at hseq
  have htakesUp : u.takesUpstream e = true ↔ (s.slot e.slot).state = .active ∨ (s.slot e.slot).state = .lost := by
    rw [takesUpstream_iff, hslot]
    exact and_iff_right hgen
  generalize u.heardBurst e r.plan.round rx = v at hexec hseq
  have hblocks : v.home = s.home ∧ v.down = (u.upstream e packets).down ∧ v.meter = (u.upstream e packets).meter
      ∧ v.watch = s.watch ∧ v.roster = s.roster ∧ v.journal = s.journal ∧ v.link = s.link ∧ v.clock = s.clock
      ∧ v.config = s.config ∧ v.pending = s.pending
      ∧ v.sched = ((u.upstream e packets).takeFill e.slot e.gen h.fill r.plan.round).sched := by
    rw [hseq]
    simp [hhome, hwatch, hroster, hjournal, hlink, hclock, hconfig, hpending]
  obtain ⟨vhome, vdown, vmeter, vwatch, vroster, vjournal, vlink, vclock, vconfig, vpending, vsched⟩ := hblocks
  have vslot := slot_congr vhome
  have hkept := applyClass_heard_kept v e.slot e.gen r.plan.round
  obtain ⟨happlied, hnoted⟩ := applyClass_heard_slot (s := v) (i := e.slot) (g := e.gen) (by rwa [vslot]) r.plan.round
  rw [vslot] at happlied hnoted
  obtain ⟨tdown, tmeter, twatch, troster, tdemand, tothers⟩ := hkept
  have hdemand : ((v.applyClass e.slot e.gen .heard r.plan.round).demand e.slot) =
      ((u.upstream e packets).takeFill e.slot e.gen h.fill r.plan.round).demand e.slot := by
    simp [State.demand, tdemand, vsched]
  refine ⟨_, hexec, fun j hj => (tothers j hj).trans (vslot j), ?_, fun hstate => ⟨happlied hstate, fun x pe hserial hentry =>
    ?_, fun hbytes => ?_, fun hbytes => ?_⟩, fun hstate => ⟨hnoted hstate, ?_⟩, fun hfree => ?_, fun hlater => ?_⟩
  · refine State.ext_blocks (down := ?_) (watch := twatch.trans vwatch) (roster := troster.trans vroster)
      (journal := by simp [vjournal]) (link := by simp [vlink]) (clock := by simp [vclock]) (config := by simp [vconfig])
      (pending := by simp [vpending])
    rw [tdown, vdown, upstream_down, hdown]
  · have hentry' : u.entryOf x = some pe := by simpa [State.entryOf, henrol] using hentry
    rw [tdown, vdown, upstream_egress (htakesUp.mpr hstate), forward_egress (by rwa [hslot]) hentry', hdown]
  · rw [tmeter, vmeter, ← hmeter]
    exact upstream_takes (htakesUp.mpr hstate) hbytes
  · rw [tmeter, vmeter, upstream_meter_of_empty hbytes, hmeter]
  · have huntaken : u.takesUpstream e = false := by
      rw [Bool.eq_false_iff, Ne, htakesUp]
      rcases hstate with h | h | h | h <;> simp [h]
    rw [tdown, tmeter, vdown, vmeter, upstream_discarded huntaken, hdown, hmeter]
    exact ⟨rfl, rfl⟩
  · have huntaken : u.takesUpstream e = false := by
      rw [Bool.eq_false_iff, Ne, htakesUp]
      simp [hfree]
    rw [tdown, tmeter, vdown, vmeter, upstream_discarded huntaken, hdown, hmeter,
      applyClass_discarded (.inr (by rwa [vslot]))]
    exact ⟨vhome, rfl, rfl⟩
  · have hup : (u.upstream e packets).demand e.slot = s.demand e.slot := by simp [State.demand, hsched]
    have hgen' : ((u.upstream e packets).slot e.slot).gen = e.gen := by
      rw [slot_congr (State.upstream_frame ..).2.1, hslot]
      exact hgen
    rw [hdemand, takeFill_demand hgen' (by rwa [hup]), hup]

end Sys2Proof.Machine
end

section
/-! PROOFS. Roll-call answers (O15, O16): the echo exchange begun, the strangers list, the SEVER of a barred home, a new
assignment and a rejoin (R14, R24, R29, R44, R51 to R54, R56). -/

namespace Sys2Proof.Machine

-- One thread elaborates this section: the text as a whole is near the memory limit of the check.
set_option Elab.async false

/-! ### An echo exchange begun (R56) -/

/-- An echo record without the marks of what is still to be offered or asked (R56). -/
def EchoRecord.settled (r : EchoRecord) : EchoRecord := { r with orderDue := false, spanDue := false }

/-- What an offer, a span request and an exchange write of the enrolment engine: one echo record. -/
theorem modEcho_enrol (s : State) (i : SlotId) (f : EchoRecord → EchoRecord) :
    (s.modEcho i f).enrol = { s.enrol with echoes := (s.modEcho i f).enrol.echoes } := rfl

section
variable (s : State) (i j : SlotId)

theorem askSpan_enrol : (s.askSpan i).enrol = { s.enrol with echoes := (s.askSpan i).enrol.echoes } := by
  unfold State.askSpan
  dsimp only
  split
  · rfl
  · split <;> rfl

theorem askSpan_echo_other (hj : j ≠ i) : (s.askSpan i).echo j = s.echo j := by
  unfold State.askSpan
  dsimp only
  split
  · rfl
  split
  · simp [State.modEcho_echo, hj]
  · rfl

theorem askSpan_settled : ((s.askSpan i).echo j).settled = (s.echo j).settled := by
  unfold State.askSpan
  dsimp only
  split
  · rfl
  split
  · simp only [State.modSched_echo_at, State.modEcho_echo]
    split <;> rfl
  · rfl

theorem offerOrder_tree (lane : Lane) (body : OrderBody) (target : Option (SlotId × Gen)) :
    (s.offerOrder lane body target).1.tree =
      { s.tree with
        urgent := (s.offerOrder lane body target).1.tree.urgent, normal := (s.offerOrder lane body target).1.tree.normal
        orderSeq := (s.offerOrder lane body target).1.tree.orderSeq } := TreePort.offer_kept ..

theorem offerOrder_echo (lane : Lane) (body : OrderBody) (target : Option (SlotId × Gen)) :
    (s.offerOrder lane body target).1.echo j = s.echo j := rfl

theorem offerExchange_enrol :
    (s.offerExchange i).enrol = { s.enrol with echoes := (s.offerExchange i).enrol.echoes } := by
  unfold State.offerExchange
  dsimp only
  split
  · rfl
  next p _ =>
  split
  · split
    · rw [askSpan_enrol, modEcho_enrol]
      simp
    all_goals simp
  · rfl

theorem offerExchange_echo_other (hj : j ≠ i) : (s.offerExchange i).echo j = s.echo j := by
  unfold State.offerExchange
  dsimp only
  split
  · rfl
  next p _ =>
  split
  · split
    · rw [askSpan_echo_other _ _ _ hj, State.modEcho_echo, if_neg hj, offerOrder_echo]
    all_goals exact offerOrder_echo ..
  · rfl

theorem offerExchange_settled : ((s.offerExchange i).echo j).settled = (s.echo j).settled := by
  unfold State.offerExchange
  dsimp only
  split
  · rfl
  next p _ =>
  split
  · split
    · rw [askSpan_settled, State.modEcho_echo, offerOrder_echo]
      split <;> rfl
    all_goals rw [offerOrder_echo]
  · rfl

theorem offerExchange_tree :
    (s.offerExchange i).tree =
      { s.tree with
        urgent := (s.offerExchange i).tree.urgent, normal := (s.offerExchange i).tree.normal
        orderSeq := (s.offerExchange i).tree.orderSeq } := by
  unfold State.offerExchange
  dsimp only
  split
  · rfl
  next p _ =>
  split
  · split
    · simpa using offerOrder_tree s .urgent _ _
    all_goals exact offerOrder_tree s .urgent _ _
  · rfl

theorem startExchange_enrol (p : EchoPurpose) :
    (s.startExchange i p).enrol = { s.enrol with echoes := (s.startExchange i p).enrol.echoes } :=
  offerExchange_enrol ..

theorem startExchange_echo_other (p : EchoPurpose) (hj : j ≠ i) : (s.startExchange i p).echo j = s.echo j := by
  unfold State.startExchange
  dsimp only
  rw [offerExchange_echo_other _ _ _ hj, State.modEcho_echo, if_neg hj]

/-- The echo record of an exchange begun: purpose, phase, no miss, and for ASSIGN the hold-off that it carries (R56). -/
theorem startExchange_echo (p : EchoPurpose) :
    ((s.startExchange i p).echo i).settled =
      { (s.echo i).settled with
        purpose := some p, phase := some .waiting, misses := 0, earliest := none
        homeHoldoff := if p = .assign then (s.slot i).holdoff else (s.echo i).homeHoldoff } := by
  unfold State.startExchange
  dsimp only
  rw [offerExchange_settled, State.modEcho_echo, if_pos rfl]
  rfl

theorem startExchange_assign_holdoff : ((s.startExchange i .assign).echo i).homeHoldoff = (s.slot i).holdoff := by
  have h := congrArg EchoRecord.homeHoldoff (startExchange_echo s i .assign)
  rwa [if_pos rfl] at h

theorem startExchange_tree (p : EchoPurpose) :
    (s.startExchange i p).tree =
      { s.tree with
        urgent := (s.startExchange i p).tree.urgent, normal := (s.startExchange i p).tree.normal
        orderSeq := (s.startExchange i p).tree.orderSeq } := offerExchange_tree ..

end

/-! ### A serial turned away (R44) -/

theorem oldestStranger_eq (es : List Stranger) :
    oldestStranger es = es.foldl (pickBest fun e b => decide (e.lastSeen.toNat < b.lastSeen.toNat)) none := by
  unfold oldestStranger
  congr 1
  funext best c
  cases best with
  | none => rfl
  | some b => exact if_congr (by simp) rfl rfl

theorem oldestStranger_of {pre post : List Stranger} {o : Stranger}
    (hpre : ∀ e ∈ pre, o.lastSeen.toNat < e.lastSeen.toNat) (hpost : ∀ e ∈ post, o.lastSeen.toNat ≤ e.lastSeen.toNat) :
    oldestStranger (pre ++ o :: post) = some o := by
  rw [oldestStranger_eq]
  exact foldl_pickBest_eq (fun q hq => decide_eq_true (hpre q hq))
    fun q hq => decide_eq_false (Nat.not_lt.mpr (hpost q hq))

theorem appendStranger_of_room {es : List Stranger} (e : Stranger) (h : es.length < 16) :
    appendStranger es e = es ++ [e] := by
  unfold appendStranger
  split
  · rw [if_neg (by omega)]
  · rfl

theorem appendStranger_of_full {pre post : List Stranger} {o : Stranger} (e : Stranger)
    (hfull : 16 ≤ (pre ++ o :: post).length) (hpre : ∀ e ∈ pre, o.lastSeen.toNat < e.lastSeen.toNat)
    (hpost : ∀ e ∈ post, o.lastSeen.toNat ≤ e.lastSeen.toNat) :
    appendStranger (pre ++ o :: post) e = pre ++ post ++ [e] := by
  have hnotin : o ∉ pre := fun ho => absurd (hpre o ho) (Nat.lt_irrefl _)
  unfold appendStranger
  rw [oldestStranger_of hpre hpost]
  dsimp only
  rw [if_pos hfull, erase_middle hnotin]

theorem alert_eq (why : StrangerReason) :
    why.alert = if why = .quarantined then .quarantinedSeen else .stranger := by cases why <;> rfl

/-- A stranger is seen again, or appended with its alert (R44). -/
theorem turnedAway_stranger (s : State) (x : Serial) (why : StrangerReason) : s.TurnedAway (s.stranger x why) x why := by
  by_cases hknown : ∃ e ∈ s.enrol.strangers, e.serial = x
  · have hstranger : s.stranger x why = s.modEnrol fun e => { e with
        strangers := e.strangers.map fun k => if k.serial = x then k.again why s.clock.time else k } := by
      unfold State.stranger
      exact if_pos (by simpa using hknown)
    rw [hstranger]
    obtain ⟨e, he, hx⟩ := hknown
    exact {
      kept := ⟨rfl, rfl, rfl⟩
      again := fun _ => ⟨rfl, rfl⟩
      appended := fun hnone => absurd hx (hnone e he) }
  · have hstranger : s.stranger x why = (s.modEnrol fun e => { e with
        strangers := appendStranger e.strangers
          { serial := x, reason := why, firstSeen := s.clock.time, lastSeen := s.clock.time, seen := 1 } }).raise why.alert
            (beSerial x ++ be 1 why.code) := by
      unfold State.stranger
      exact if_neg (by simpa using hknown)
    rw [hstranger]
    refine { kept := by simp, again := fun h => absurd h hknown, appended := fun _ => ⟨?_, fun hroom => ?_, ?_⟩ }
    · rw [← alert_eq]
      exact (raised_raise ..).of_congr rfl rfl rfl rfl rfl
    · simpa using appendStranger_of_room _ hroom
    · intro pre post o hfull hlist hpre hpost
      rw [hlist] at hfull
      simpa [hlist] using appendStranger_of_full _ hfull hpre hpost

/-- What a serial turned away shows depends on the state's slots, lists, link, clock and configuration. -/
theorem State.TurnedAway.of_congr {s u t : State} {x : Serial} {why : StrangerReason} (h : u.TurnedAway t x why)
    (hhome : u.home = s.home) (hechoes : u.enrol.echoes = s.enrol.echoes) (hlist : u.enrol.strangers = s.enrol.strangers)
    (hprovision : u.enrol.provision = s.enrol.provision) (hlink : u.link = s.link) (hclock : u.clock = s.clock)
    (hconfig : u.config = s.config) : s.TurnedAway t x why := by
  obtain ⟨kept, again, appended⟩ := h
  rw [hhome, hechoes, hprovision] at kept
  rw [hlist, hlink, hclock] at again
  rw [hlist, hclock] at appended
  exact ⟨kept, again, fun hnone => (appended hnone).imp_left fun h =>
    h.of_congr hlink (by rw [hclock]) (by rw [hclock]) (by rw [hclock]) hconfig⟩

theorem stranger_roll (s : State) (x : Serial) (why : StrangerReason) :
    (s.stranger x why).enrol.roll = s.enrol.roll := by
  unfold State.stranger
  dsimp only
  split <;> simp

/-! ### The SEVER of a barred home (R29, R52) -/

section
variable {s : State} {i : SlotId}

theorem severAgain_standing (h : ∃ e ∈ s.tree.urgent, e.isFor i = true ∧ e.body.isSever = true) : s.severAgain i = s := by
  unfold State.severAgain
  exact if_pos (by simpa using h)

theorem severAgain_offered (h : ∀ e ∈ s.tree.urgent, ¬ (e.isFor i = true ∧ e.body.isSever = true)) :
    s.severAgain i = s.offerSever i (s.slot i).gen (((s.slot i).serial).getD 0) := by
  unfold State.severAgain
  exact if_neg (by simpa using h)

theorem offerSever_accepted {g : Gen} {x : Serial} (hopen : s.tree.state = .lit ∨ s.tree.state = .dark)
    (hroom : s.tree.urgent.length < 8) :
    s.offerSever i g x =
      (s.modTree (·.accept .urgent (.sever x) (some (i, g)))).modOwed i fun o => { o with sever := none } := by
  unfold State.offerSever
  rw [offerOrder_accepted (hopen.imp_right fun h => ⟨h, rfl⟩)
    (by rw [Bool.eq_false_iff, Ne, refuses_urgent_iff]; omega)]

theorem offerSever_refused {g : Gen} {x : Serial} (hopen : s.tree.state = .lit ∨ s.tree.state = .dark)
    (hfull : 8 ≤ s.tree.urgent.length) :
    s.offerSever i g x = s.modOwed i fun o => { o with sever := some (g, x) } := by
  unfold State.offerSever
  rw [offerOrder_refused (hopen.imp_right fun h => ⟨h, rfl⟩) ((refuses_urgent_iff ..).mpr hfull)]

theorem offerSever_tree (s : State) (i : SlotId) (g : Gen) (x : Serial) :
    (s.offerSever i g x).tree =
      { s.tree with
        urgent := (s.offerSever i g x).tree.urgent, normal := (s.offerSever i g x).tree.normal
        orderSeq := (s.offerSever i g x).tree.orderSeq } := by
  unfold State.offerSever
  dsimp only
  split <;> exact offerOrder_tree ..

theorem severAgain_tree (s : State) (i : SlotId) :
    (s.severAgain i).tree =
      { s.tree with
        urgent := (s.severAgain i).tree.urgent, normal := (s.severAgain i).tree.normal
        orderSeq := (s.severAgain i).tree.orderSeq } := by
  unfold State.severAgain
  split
  · rfl
  · exact offerSever_tree ..

theorem severAgain_slots (s : State) (i : SlotId) : (s.severAgain i).home.slots = s.home.slots := by
  unfold State.severAgain State.offerSever
  dsimp only
  (repeat' split) <;> rfl

end

end Sys2Proof.Machine
end

section
/-! PROOFS. The ruling of a roll-call answer (O15, O16; R24, R44, R51 to R54). -/

namespace Sys2Proof.Machine

-- One thread elaborates this section: the text as a whole is near the memory limit of the check.
set_option Elab.async false

/-! ### An answer in the roll-call span handed over (R9, R51) -/

/-- The state in which a valid roll-call answer is ruled: the latch clear, its sample gathered (R9). -/
def State.atAnswer (s : State) (light : Bool) : State := { s with
  tree := { s.tree with latch := false }
  enrol := { s.enrol with roll := { s.enrol.roll with light := s.enrol.roll.light || light, answered := true } } }

theorem execAnswerDecode_roll {s : State} {rx : AnswerRx} {r : Issued} {a : Identity} {n : Round}
    (hr : s.reception = some r) (ha : validAnswer rx = some a) (hn : s.enrol.roll.openRound = some n)
    (hspan : spanAt r.plan rx.offset.val = some .roll) :
    exec (.answerDecode rx) s =
      .next ((s.atAnswer rx.light).candidate a.serial
        (rollRtd (arrivalTicks n r.plan.round rx.offset.val) a.delay rx.phase.val)) := by
  show execAnswerDecode rx s = _
  rw [execAnswerDecode, hr, ha]
  dsimp only
  rw [hspan, hn]
  rfl

theorem rtdAccepted_iff (x : Int) : rtdAccepted x = true ↔ 16 ≤ x ∧ x ≤ 27200 := decide_eq_true_iff

/-- An accepted RTD as the table holds it, and its hold-off (R13, R22). -/
theorem ofNat_toNat_of_accepted {x : Int} (hlow : 16 ≤ x) (hhigh : x ≤ 27200) :
    BitVec.ofNat 16 x.toNat = BitVec.ofInt 16 x ∧ holdoffOf (BitVec.ofNat 16 x.toNat) = BitVec.ofInt 16 (65536 - x) := by
  obtain ⟨k, rfl⟩ := Int.eq_ofNat_of_zero_le (by omega : 0 ≤ x)
  have hk : k < 65536 := by omega
  have hsub : (65536 : Int) - (k : Nat) = ((65536 - k : Nat) : Int) := by omega
  refine ⟨by simp, ?_⟩
  rw [holdoffOf, hsub, BitVec.ofInt_natCast, Int.toNat_natCast, BitVec.toNat_ofNat, Nat.mod_eq_of_lt hk]

/-! ### The first available slot (R53) -/

theorem firstAvailable_eq_none {s : State} (h : ∀ i, (s.slot i).available = false) : s.firstAvailable = none :=
  List.find?_eq_none.mpr fun i _ => by simp [h i]

theorem firstAvailable_eq_some {s : State} {i : SlotId} (havail : (s.slot i).available = true)
    (hfirst : ∀ j, j < i → (s.slot j).available = false) : s.firstAvailable = some i := by
  have hsorted : allSlots.Pairwise (· < ·) := List.sortedLT_finRange 128 |>.pairwise
  cases hfind : s.firstAvailable with
  | none => exact absurd havail (List.find?_eq_none.mp hfind i (mem_allSlots i))
  | some k =>
    obtain ⟨hk, before, after, hlist, hbefore⟩ := List.find?_eq_some_iff_append.mp hfind
    have hi := mem_allSlots i
    rw [hlist] at hi hsorted
    rcases List.mem_append.mp hi with hi | hi
    · exact absurd havail (by simpa using hbefore i hi)
    rcases List.mem_cons.mp hi with hi | hi
    · rw [hi]
    · have hlt := (List.pairwise_cons.mp (List.pairwise_append.mp hsorted).2.1).1 i hi
      rw [hfirst k hlt] at hk
      cases hk

/-! ### A new assignment (R24, R53, R54) -/

/-- The record of a new assignment before its assured rate is written (R24). -/
def Assignment.record (a : Assignment) (r : SlotRecord) : SlotRecord :=
  { SlotRecord.reset with
    gen := r.gen + 1, state := .assigning, serial := some a.serial, profile := some a.profile
    ceiling := a.ceiling, tariff := some a.tariff
    rtd := some a.rtd, holdoff := some (holdoffOf a.rtd), releasePending := r.releasePending }

section
variable {s : State} {i : SlotId} {a : Assignment}

theorem assignSlot_taken (havail : (s.slot i).available = true) (hnone : s.holder a.serial = none) :
    s.assignSlot i a = ((s.enter i a.record).writeAssured i a.assured a.short, true) := by
  unfold State.assignSlot
  exact if_pos (by simp [havail, hnone])

theorem assigned_slot (j : SlotId) :
    ((s.enter i a.record).writeAssured i a.assured a.short).slot j =
      if j = i then { a.record (s.slot i) with assured := a.assured, short := a.short } else s.slot j := by
  rw [writeAssured_slot]
  by_cases hj : j = i
  · subst hj
    rw [if_pos rfl, if_pos rfl, enter_slot_self _ _ _ (by simp [Assignment.record]) rfl]
  · rw [if_neg hj, if_neg hj, enter_slot_other _ _ _ (by simp [Assignment.record]) hj]

theorem assigned_tree : ((s.enter i a.record).writeAssured i a.assured a.short).tree = s.tree := by
  have hself : (s.modSlot i a.record).slot i = a.record (s.slot i) := by simp [State.modSlot_slot]
  have hstate : (a.record (s.slot i)).state = .assigning := rfl
  have hfresh : (a.record (s.slot i)).rejoin ≠ true := by simp [Assignment.record, SlotRecord.reset]
  simp only [State.writeAssured_frame]
  rw [enter_tree, hstate]
  unfold State.treeOnSlot
  dsimp only
  rw [hself, if_neg hfresh]
  rfl

theorem assigned_roster : ((s.enter i a.record).writeAssured i a.assured a.short).roster = s.roster := by
  simp only [State.writeAssured_frame]
  exact enter_roster s i a.record (.inl (by simp [Assignment.record]))

theorem assigned_enrol :
    ((s.enter i a.record).writeAssured i a.assured a.short).enrol =
      { s.enrol with echoes := ((s.enter i a.record).writeAssured i a.assured a.short).enrol.echoes } := by
  rw [(State.writeAssured_frame ..).2.1]
  exact enter_enrol ..

end

/-- The admission of a serial at its provisioned profile (R54). -/
def State.admission (s : State) (x : Serial) (p : Fin 8) (rtd : Half) : Assignment where
  serial := x
  profile := p
  assured := min (s.profileOf p).assured s.room
  ceiling := (s.profileOf p).ceiling
  tariff := (s.profileOf p).tariff
  short := Decidable.decide (min (s.profileOf p).assured s.room < (s.profileOf p).assured)
  rtd := rtd

/-- The state once a new home has its slot and its contested flag, and its stranger entry is gone (R53). -/
def State.admitted (s : State) (i : SlotId) (a : Assignment) : State :=
  let u := (s.enter i a.record).writeAssured i a.assured a.short
  (if s.foreignClaim a.serial then u.modSlot i fun k => { k with contested := true } else u).modEnrol fun e =>
    { e with strangers := e.strangers.filter (·.serial != a.serial) }

theorem newAssignment_eq {s : State} {i : SlotId} {x : Serial} (p : Fin 8) (rtd : Half)
    (havail : (s.slot i).available = true) (hnone : s.holder x = none) :
    s.newAssignment i x p rtd = (s.admitted i (s.admission x p rtd)).startExchange i .assign := by
  have htaken := assignSlot_taken (a := s.admission x p rtd) havail hnone
  have hclaim : ((s.enter i (s.admission x p rtd).record).writeAssured i (s.admission x p rtd).assured
      (s.admission x p rtd).short).foreignClaim x = s.foreignClaim x := by
    unfold State.foreignClaim
    rw [assigned_roster]
  show (fun r : State × Bool =>
      if r.2 then
        ((if r.1.foreignClaim x then r.1.modSlot i fun k => { k with contested := true } else r.1).modEnrol fun e =>
          { e with strangers := e.strangers.filter (·.serial != x) }).startExchange i .assign
      else r.1) (s.assignSlot i (s.admission x p rtd)) = _
  rw [htaken]
  dsimp only
  rw [if_pos rfl, hclaim]
  rfl

section
variable (s : State) (i : SlotId) (a : Assignment)

theorem admitted_slot (j : SlotId) :
    (s.admitted i a).slot j =
      if j = i then
        { a.record (s.slot i) with assured := a.assured, short := a.short, contested := s.foreignClaim a.serial }
      else s.slot j := by
  unfold State.admitted
  dsimp only
  rw [State.modEnrol_slot_at]
  cases s.foreignClaim a.serial
  · rw [if_neg (by simp), assigned_slot]
    rfl
  · rw [if_pos rfl, State.modSlot_slot, assigned_slot]
    split <;> rfl

theorem admitted_tree : (s.admitted i a).tree = s.tree := by
  unfold State.admitted
  dsimp only
  rw [State.modEnrol_tree]
  split <;> exact assigned_tree

theorem admitted_roster : (s.admitted i a).roster = s.roster := by
  unfold State.admitted
  dsimp only
  rw [State.modEnrol_roster]
  split <;> exact assigned_roster

theorem admitted_enrol :
    (s.admitted i a).enrol = { s.enrol with
      echoes := (s.admitted i a).enrol.echoes
      strangers := s.enrol.strangers.filter (·.serial != a.serial) } := by
  have hflag : ∀ u : State,
      (if s.foreignClaim a.serial then u.modSlot i fun k => { k with contested := true } else u).enrol = u.enrol := by
    intro u
    split <;> rfl
  unfold State.admitted
  dsimp only
  rw [State.modEnrol_enrol, hflag, assigned_enrol]

theorem admitted_kept : (s.admitted i a).journal = s.journal ∧ (s.admitted i a).clock = s.clock
    ∧ (s.admitted i a).config = s.config ∧ (s.admitted i a).pending = s.pending := by
  unfold State.admitted
  dsimp only
  split <;> simp

end

/-! ### The candidate checks in their order (R52) -/

section
variable {s : State} {x : Serial} {rtd : Int}

theorem candidate_quarantined (hnone : s.holder x = none) (hq : s.quarantined x = true) :
    s.candidate x rtd = s.stranger x .quarantined := by
  simp [State.candidate, hnone, hq]

theorem candidate_provisioned {pe : ProvisionEntry} (hnone : s.holder x = none) (hq : s.quarantined x = false)
    (hentry : s.entryOf x = some pe) : s.candidate x rtd = s.checkFarFullNew x pe.profile rtd := by
  simp [State.candidate, hnone, hq, hentry]

theorem checkFarFullNew_far (p : Fin 8) (h : rtd < 16 ∨ 27200 < rtd) :
    s.checkFarFullNew x p rtd = s.stranger x .tooFar := by
  unfold State.checkFarFullNew
  exact if_neg (by rw [rtdAccepted_iff]; omega)

theorem checkFarFullNew_full (p : Fin 8) (hlow : 16 ≤ rtd) (hhigh : rtd ≤ 27200)
    (hfull : ∀ i, (s.slot i).available = false) : s.checkFarFullNew x p rtd = s.stranger x .tableFull := by
  unfold State.checkFarFullNew
  rw [if_pos ((rtdAccepted_iff rtd).mpr ⟨hlow, hhigh⟩), firstAvailable_eq_none hfull]

theorem checkFarFullNew_new (p : Fin 8) {i : SlotId} (hlow : 16 ≤ rtd) (hhigh : rtd ≤ 27200)
    (havail : (s.slot i).available = true) (hfirst : ∀ j, j < i → (s.slot j).available = false) :
    s.checkFarFullNew x p rtd = s.newAssignment i x p (BitVec.ofNat 16 rtd.toNat) := by
  unfold State.checkFarFullNew
  rw [if_pos ((rtdAccepted_iff rtd).mpr ⟨hlow, hhigh⟩), firstAvailable_eq_some havail hfirst]

end

/-- What a candidate that no slot holds leaves of the blocks, whatever its checks say. -/
theorem candidate_new_kept {s : State} {x : Serial} (rtd : Int) (hnone : s.holder x = none) :
    (s.candidate x rtd).tree.latch = s.tree.latch ∧ (s.candidate x rtd).enrol.roll = s.enrol.roll
      ∧ (s.candidate x rtd).enrol.provision = s.enrol.provision ∧ (s.candidate x rtd).roster = s.roster := by
  have hstranger : ∀ why, (s.stranger x why).tree.latch = s.tree.latch ∧ (s.stranger x why).enrol.roll = s.enrol.roll
      ∧ (s.stranger x why).enrol.provision = s.enrol.provision ∧ (s.stranger x why).roster = s.roster := fun why =>
    ⟨by simp, stranger_roll s x why, (turnedAway_stranger s x why).kept.2.2, by simp⟩
  cases hq : s.quarantined x with
  | true => rw [candidate_quarantined hnone hq]; exact hstranger _
  | false =>
  cases hentry : s.entryOf x with
  | none => rw [candidate_of_unprovisioned rtd hnone hq hentry]; exact hstranger _
  | some pe =>
  rw [candidate_provisioned hnone hq hentry]
  by_cases hfar : rtd < 16 ∨ 27200 < rtd
  · rw [checkFarFullNew_far pe.profile hfar]; exact hstranger _
  cases hfirst : s.firstAvailable with
  | none =>
    unfold State.checkFarFullNew
    rw [if_pos ((rtdAccepted_iff rtd).mpr (by omega)), hfirst]
    exact hstranger _
  | some i =>
    have havail : (s.slot i).available = true := List.find?_some (p := fun i => (s.slot i).available) hfirst
    unfold State.checkFarFullNew
    rw [if_pos ((rtdAccepted_iff rtd).mpr (by omega)), hfirst]
    dsimp only
    rw [newAssignment_eq pe.profile _ havail hnone, startExchange_tree, startExchange_enrol, admitted_tree, admitted_enrol]
    exact ⟨rfl, rfl, rfl, by simp [admitted_roster]⟩

/-- Settles O15, by the checks of R52 in their order. -/
theorem rollAnswerOfNewHome : Obligations.RollAnswerOfNewHome := by
  unfold Obligations.RollAnswerOfNewHome
  intro s rx r a n hr ha hn hspan hholder ticks rtd
  have hexec := execAnswerDecode_roll hr ha hn hspan
  have hnone : (s.atAnswer rx.light).holder a.serial = none := hholder
  have hkept := candidate_new_kept rtd hnone
  have hexec' : exec (.answerDecode rx) s = .next ((s.atAnswer rx.light).candidate a.serial rtd) := hexec
  have hturned : ∀ why, s.TurnedAway ((s.atAnswer rx.light).stranger a.serial why) a.serial why := fun why =>
    (turnedAway_stranger (s.atAnswer rx.light) a.serial why).of_congr rfl rfl rfl rfl rfl rfl rfl
  generalize hu : s.atAnswer rx.light = u at hexec' hnone hkept hturned
  have hblocks : u.tree.latch = false ∧ u.enrol.provision = s.enrol.provision ∧ u.roster = s.roster
      ∧ u.journal = s.journal ∧ u.clock = s.clock ∧ u.config = s.config ∧ u.pending = s.pending ∧ u.home = s.home
      ∧ u.enrol.roll = { s.enrol.roll with answered := true, light := s.enrol.roll.light || rx.light } := by
    rw [← hu]
    exact ⟨rfl, rfl, rfl, rfl, rfl, rfl, rfl, rfl, rfl⟩
  obtain ⟨hlatch, hprovision, hroster, hjournal, hclock, hconfig, hpending, hhome, hroll⟩ := hblocks
  have hslot := slot_congr hhome
  obtain ⟨klatch, kroll, kprovision, kroster⟩ := hkept
  have hq : u.quarantined a.serial = s.quarantined a.serial := by simp [State.quarantined, hroster]
  have hentry : u.entryOf a.serial = s.entryOf a.serial := by simp [State.entryOf, hprovision]
  refine ⟨_, hexec', klatch.trans hlatch, kroll.trans hroll, kprovision.trans hprovision, by simp [hjournal],
    kroster.trans hroster, by simp [hclock], by simp [hconfig], by simp [hpending], fun h => ?_, fun h h' => ?_,
    fun pe h h' => ⟨fun hfar => ?_, fun hlow hhigh hfull => ?_, fun i hlow hhigh havail hfirst => ?_⟩⟩
  · rw [candidate_quarantined hnone (hq.trans h)]
    exact hturned _
  · rw [candidate_of_unprovisioned rtd hnone (hq.trans h) (hentry.trans h')]
    exact hturned _
  · rw [candidate_provisioned hnone (hq.trans h) (hentry.trans h'), checkFarFullNew_far pe.profile hfar]
    exact hturned _
  · rw [candidate_provisioned hnone (hq.trans h) (hentry.trans h'),
      checkFarFullNew_full pe.profile hlow hhigh (fun i => by rw [hslot]; exact hfull i)]
    exact hturned _
  · have havail' : (u.slot i).available = true := by rwa [hslot]
    obtain ⟨hrtd, hholdoff⟩ := ofNat_toNat_of_accepted hlow hhigh
    rw [candidate_provisioned hnone (hq.trans h) (hentry.trans h'),
      checkFarFullNew_new pe.profile hlow hhigh havail' (fun j hj => by rw [hslot]; exact hfirst j hj),
      newAssignment_eq pe.profile _ havail' hnone]
    generalize hadm : u.admission a.serial pe.profile (BitVec.ofNat 16 rtd.toNat) = adm
    have hexchange := startExchange_echo (u.admitted i adm) i .assign
    have hstart : ∀ j, ((u.admitted i adm).startExchange i .assign).slot j = (u.admitted i adm).slot j :=
      slot_congr (by simp)
    have hserial : adm.serial = a.serial := by rw [← hadm]; rfl
    refine ⟨?_, fun j hj => ?_, (congrArg EchoRecord.purpose hexchange :), (congrArg EchoRecord.phase hexchange :),
      (congrArg EchoRecord.misses hexchange :), ?_, fun k hk => ?_⟩
    · have hpend : (s.slot i).releasePending = false := by
        simp only [SlotRecord.available, Bool.and_eq_true] at havail
        simpa using havail.2
      have hclaim : u.foreignClaim adm.serial = s.foreignClaim a.serial := by simp [State.foreignClaim, hroster, hserial]
      have hroom : u.room = s.room := by simp [State.room, State.usedAssured, hslot, hconfig]
      have hprofile : u.profileOf pe.profile = s.profileOf pe.profile := by simp [State.profileOf, hconfig]
      rw [hstart, admitted_slot, if_pos rfl, hclaim, hslot, ← hadm]
      simp only [Assignment.record, State.admission, hrtd ▸ hholdoff, hrtd, hpend, hroom, hprofile]
      rfl
    · rw [hstart, admitted_slot, if_neg hj, hslot]
    · rw [startExchange_assign_holdoff, admitted_slot, if_pos rfl, ← hholdoff, ← hadm]
      rfl
    · rw [startExchange_enrol, admitted_enrol, hserial] at hk
      simpa using (List.mem_filter.mp hk).2

end Sys2Proof.Machine
end

section
/-! PROOFS. A roll-call answer of a home that holds a slot (O16; R14, R24, R29, R52). -/

namespace Sys2Proof.Machine

-- One thread elaborates this section: the text as a whole is near the memory limit of the check.
set_option Elab.async false

theorem lit_of_reception {s : State} {r : Issued} (hr : s.reception = some r) : s.tree.state = .lit := by
  have hissued := issued_of_reception hr
  unfold State.reception at hr
  rw [hissued] at hr
  dsimp only at hr
  by_contra hlit
  rw [if_neg (by simp [hlit])] at hr
  cases hr

/-- An announcement writes of the tree port its lanes only. -/
theorem enter_tree_lanes (s : State) (i : SlotId) (f : SlotRecord → SlotRecord) :
    (s.enter i f).tree =
      { s.tree with urgent := (s.enter i f).tree.urgent, normal := (s.enter i f).tree.normal } := by
  have hstage : ∀ new, ((s.modSlot i f).treeOnSlot i new).tree =
      { s.tree with
        urgent := ((s.modSlot i f).treeOnSlot i new).tree.urgent
        normal := ((s.modSlot i f).treeOnSlot i new).tree.normal } := by
    intro new
    unfold State.treeOnSlot
    cases new <;> dsimp only <;> (repeat' split) <;> rfl
  rw [enter_tree]
  exact hstage _

/-! ### A rejoin (R24, R52) -/

/-- The record of a slot that rejoins (R24). -/
def SlotRecord.rejoined (r : SlotRecord) (rtd : Half) : SlotRecord :=
  { r with state := .assigning, rejoin := true, rtd := some rtd, holdoff := some (holdoffOf rtd) }

section
variable {s : State} {i : SlotId} {x : Serial} {rtd : Int}

theorem rejoinSlot_taken (half : Half)
    (hstate : (s.slot i).state = .active ∨ (s.slot i).state = .lost ∨ (s.slot i).state = .resuming)
    (hserial : (s.slot i).serial = some x) : s.rejoinSlot i x half = (s.enter i (·.rejoined half), true) := by
  unfold State.rejoinSlot
  rcases hstate with h | h | h <;> rw [h] <;> exact if_pos hserial

theorem candidate_barred (hholder : s.holder x = some i) (hstate : (s.slot i).state = .barred) :
    s.candidate x rtd = s.severAgain i := by
  unfold State.candidate
  simp only [hholder]
  rw [hstate]

theorem candidate_ignored (hholder : s.holder x = some i)
    (h : (s.slot i).state = .assigning ∨ (s.slot i).state = .closing
      ∨ ((s.slot i).state ≠ .barred ∧ (s.slot i).hushed = true)) : s.candidate x rtd = s := by
  unfold State.candidate
  simp only [hholder]
  rcases h with h | h | ⟨hbarred, hhushed⟩
  · rw [h]
  · rw [h]
  · split
    · exact absurd ‹_› hbarred
    · exact if_pos hhushed
    · exact if_pos hhushed
    · exact if_pos hhushed
    all_goals rfl

theorem candidate_checked (hholder : s.holder x = some i)
    (hstate : (s.slot i).state = .active ∨ (s.slot i).state = .lost ∨ (s.slot i).state = .resuming)
    (hhushed : (s.slot i).hushed = false) : s.candidate x rtd = s.checkRejoin i x rtd := by
  unfold State.candidate
  simp only [hholder]
  rcases hstate with h | h | h <;> rw [h] <;> exact if_neg (by simp [hhushed])

theorem checkRejoin_far (h : rtd < 16 ∨ 27200 < rtd) : s.checkRejoin i x rtd = s.stranger x .tooFar := by
  unfold State.checkRejoin
  exact if_neg (by rw [rtdAccepted_iff]; omega)

theorem checkRejoin_taken (hlow : 16 ≤ rtd) (hhigh : rtd ≤ 27200)
    (hstate : (s.slot i).state = .active ∨ (s.slot i).state = .lost ∨ (s.slot i).state = .resuming)
    (hserial : (s.slot i).serial = some x) :
    s.checkRejoin i x rtd = (s.enter i (·.rejoined (BitVec.ofNat 16 rtd.toNat))).startExchange i .assign := by
  unfold State.checkRejoin
  rw [if_pos ((rtdAccepted_iff rtd).mpr ⟨hlow, hhigh⟩), rejoinSlot_taken _ hstate hserial]
  exact if_pos rfl

end

/-- What a candidate that a slot holds leaves of the blocks, whatever the slot's state says. -/
theorem candidate_held_kept {s : State} {x : Serial} {i : SlotId} (rtd : Int) (hholder : s.holder x = some i) :
    (s.candidate x rtd).tree.latch = s.tree.latch ∧ (s.candidate x rtd).enrol.roll = s.enrol.roll
      ∧ (s.candidate x rtd).enrol.provision = s.enrol.provision ∧ (s.candidate x rtd).roster = s.roster := by
  obtain ⟨hfree, hserial⟩ := serial_of_holder hholder
  by_cases hignored : (s.slot i).state = .assigning ∨ (s.slot i).state = .closing
      ∨ ((s.slot i).state ≠ .barred ∧ (s.slot i).hushed = true)
  · rw [candidate_ignored hholder hignored]
    exact ⟨rfl, rfl, rfl, rfl⟩
  by_cases hbarred : (s.slot i).state = .barred
  · rw [candidate_barred hholder hbarred]
    exact ⟨by rw [severAgain_tree], by simp, by simp, by simp⟩
  have hhushed : (s.slot i).hushed = false := by
    by_contra h
    exact hignored (.inr (.inr ⟨hbarred, by simpa using h⟩))
  have hstate : (s.slot i).state = .active ∨ (s.slot i).state = .lost ∨ (s.slot i).state = .resuming := by
    cases h : (s.slot i).state <;> simp_all
  rw [candidate_checked hholder hstate hhushed]
  by_cases hfar : rtd < 16 ∨ 27200 < rtd
  · rw [checkRejoin_far hfar]
    exact ⟨by simp, stranger_roll .., (turnedAway_stranger ..).kept.2.2, by simp⟩
  · rw [checkRejoin_taken (by omega) (by omega) hstate hserial, startExchange_tree, startExchange_enrol, enter_tree_lanes,
      enter_enrol]
    exact ⟨rfl, rfl, rfl, by simpa using enter_roster s i _ (.inl (by simp [SlotRecord.rejoined]))⟩

/-- Settles O16, by the state of the slot that holds the serial. -/
theorem rollAnswerOfHeldHome : Obligations.RollAnswerOfHeldHome := by
  unfold Obligations.RollAnswerOfHeldHome
  intro s rx r a n i hr ha hn hspan hholder ticks rtd takesRejoin
  have hexec : exec (.answerDecode rx) s = .next ((s.atAnswer rx.light).candidate a.serial rtd) :=
    execAnswerDecode_roll hr ha hn hspan
  have hholder' : (s.atAnswer rx.light).holder a.serial = some i := hholder
  have hkept := candidate_held_kept rtd hholder'
  have hturned : s.TurnedAway ((s.atAnswer rx.light).stranger a.serial .tooFar) a.serial .tooFar :=
    (turnedAway_stranger (s.atAnswer rx.light) a.serial .tooFar).of_congr rfl rfl rfl rfl rfl rfl rfl
  have hserial := (serial_of_holder hholder).2
  have hlit := lit_of_reception hr
  generalize hu : s.atAnswer rx.light = u at hexec hholder' hkept hturned
  have hblocks : u.tree = { s.tree with latch := false } ∧ u.enrol.provision = s.enrol.provision ∧ u.roster = s.roster
      ∧ u.journal = s.journal ∧ u.clock = s.clock ∧ u.config = s.config ∧ u.pending = s.pending ∧ u.home = s.home
      ∧ u.meter = s.meter ∧ u.enrol.strangers = s.enrol.strangers ∧ u.enrol.echoes = s.enrol.echoes
      ∧ u.enrol.roll = { s.enrol.roll with answered := true, light := s.enrol.roll.light || rx.light } := by
    rw [← hu]
    exact ⟨rfl, rfl, rfl, rfl, rfl, rfl, rfl, rfl, rfl, rfl, rfl, rfl⟩
  obtain ⟨htree, hprovision, hroster, hjournal, hclock, hconfig, hpending, hhome, hmeter, hstrangers, hechoes, hroll⟩ :=
    hblocks
  have hslot := slot_congr hhome
  obtain ⟨klatch, kroll, kprovision, kroster⟩ := hkept
  refine ⟨_, hexec, by rw [klatch, htree], kroll.trans hroll, kprovision.trans hprovision, by simp [hjournal],
    kroster.trans hroster, by simp [hclock], by simp [hconfig], by simp [hpending], fun hstate => ?_, fun hstate => ?_,
    fun hstate hhushed hlow hhigh => ?_, fun hstate hhushed hfar => ?_⟩
  · have hlit' : u.tree.state = .lit ∨ u.tree.state = .dark := .inl (by rw [htree]; exact hlit)
    have hurgent : u.tree.urgent = s.tree.urgent := by rw [htree]
    rw [candidate_barred hholder' (by rwa [hslot])]
    refine ⟨by rw [severAgain_slots, hhome], by simp [hstrangers], by simp [hechoes], fun h => ?_, fun h => ⟨fun hroom => ?_,
      fun hfull => ?_⟩⟩
    · rw [severAgain_standing (by rwa [hurgent])]
      exact ⟨hhome, hurgent⟩
    · rw [severAgain_offered (by rwa [hurgent]), offerSever_accepted hlit' (by rwa [hurgent])]
      simp [accept_urgent, TreePort.newEntry, htree, hslot, hserial]
    · rw [severAgain_offered (by rwa [hurgent]), offerSever_refused hlit' (by rwa [hurgent])]
      exact ⟨hurgent, by simp [State.modOwed_owed, hslot, hserial]⟩
  · rw [candidate_ignored hholder' (by rwa [hslot])]
    exact ⟨hhome, hstrangers, hechoes⟩
  · obtain ⟨hrtd, hholdoff⟩ := ofNat_toNat_of_accepted hlow hhigh
    rw [candidate_checked hholder' (by rwa [hslot]) (by rwa [hslot]),
      checkRejoin_taken hlow hhigh (by rwa [hslot]) (by rwa [hslot])]
    generalize BitVec.ofNat 16 rtd.toNat = half at hrtd hholdoff
    have hexchange := startExchange_echo (u.enter i (·.rejoined half)) i .assign
    have hstart : ∀ j, ((u.enter i (·.rejoined half)).startExchange i .assign).slot j = (u.enter i (·.rejoined half)).slot j :=
      slot_congr (by simp)
    refine ⟨?_, fun j hj => ?_, ?_, (congrArg EchoRecord.purpose hexchange :), (congrArg EchoRecord.phase hexchange :)⟩
    · rw [hstart, enter_slot_self _ _ _ (by simp [SlotRecord.rejoined]) rfl, hslot, ← hrtd, ← hholdoff]
      rfl
    · rw [hstart, enter_slot_other _ _ _ (by simp [SlotRecord.rejoined]) hj, hslot]
    · have hmeter' : ((u.enter i (·.rejoined half)).startExchange i .assign).meter = s.meter := by
        simpa using (enter_meter u i (·.rejoined half)
          (.inl ⟨by simp [SlotRecord.rejoined], by simp [SlotRecord.rejoined]⟩)).trans hmeter
      exact congrArg (fun m : Meter => m.ctx.get i) hmeter'
  · rw [candidate_checked hholder' (by rwa [hslot]) (by rwa [hslot]), checkRejoin_far hfar]
    exact hturned

end Sys2Proof.Machine
end

section
/-! PROOFS. The end of a narrow echo span (O18; R9, R18, R25, R27, R57 to R59). -/

namespace Sys2Proof.Machine

-- One thread elaborates this section: the text as a whole is near the memory limit of the check.
set_option Elab.async false

/-! ### The tree port apart from its lanes -/

/-- The tree port without its lanes and its sequence counter: what offers, removals and verdicts do not write (R14). -/
def TreePort.port (t : TreePort) : TreePort := { t with urgent := [], normal := [], orderSeq := 0 }

section
variable (s : State) (i : SlotId)

@[simp] theorem verdict_port (t : TreePort) (e : OrderEntry) (answered : Bool) : (t.verdict e answered).port = t.port := by
  unfold TreePort.verdict
  split <;> rfl

@[simp] theorem offerOrder_port (lane : Lane) (body : OrderBody) (target : Option (SlotId × Gen)) :
    (s.offerOrder lane body target).1.tree.port = s.tree.port := by
  rw [offerOrder_tree]
  rfl

@[simp] theorem enter_port (f : SlotRecord → SlotRecord) : (s.enter i f).tree.port = s.tree.port := by
  rw [enter_tree_lanes]
  rfl

@[simp] theorem offerRelease_port (g : Gen) : (s.offerRelease i g).tree.port = s.tree.port := by
  unfold State.offerRelease
  dsimp only
  split <;> exact offerOrder_port ..

@[simp] theorem releaseHome_port : (s.releaseHome i).tree.port = s.tree.port := offerRelease_port ..

@[simp] theorem offerSever_port (g : Gen) (x : Serial) : (s.offerSever i g x).tree.port = s.tree.port := by
  rw [offerSever_tree]
  rfl

@[simp] theorem closeSlot_port (reason : CloseReason) : (s.closeSlot i reason).tree.port = s.tree.port := by
  rw [closeSlot_eq, State.modRoster_tree, releaseHome_port, enter_port]

@[simp] theorem loseSlot_port : (s.loseSlot i).tree.port = s.tree.port := by
  rw [loseSlot_eq]
  split
  · rw [closeSlot_port, enter_port]
  · rw [enter_port]

@[simp] theorem freeSlot_port : (s.freeSlot i).tree.port = s.tree.port := by
  rw [freeSlot_tree]
  rfl

@[simp] theorem abandonAssignment_port : (s.abandonAssignment i).tree.port = s.tree.port := by
  unfold State.abandonAssignment
  rw [releaseHome_port, freeSlot_port]

@[simp] theorem echoGood_port (g : Gen) (rtd : Half) (n : Round) : (s.echoGood i g rtd n).tree.port = s.tree.port := by
  unfold State.echoGood
  dsimp only
  split
  · split <;> simp
  · rfl

@[simp] theorem echoFailed_port (g : Gen) : (s.echoFailed i g).tree.port = s.tree.port := by
  unfold State.echoFailed
  split
  · split
    · split <;> simp
    all_goals simp
  · rfl

@[simp] theorem echoAnswered_port (rtd : Int) (n : Round) : (s.echoAnswered i rtd n).tree.port = s.tree.port := by
  unfold State.echoAnswered
  simp

@[simp] theorem echoMissed_port (p : EchoPurpose) (n : Round) : (s.echoMissed i p n).tree.port = s.tree.port := by
  unfold State.echoMissed
  dsimp only
  split <;> simp

/-- The record in reception stands when the port apart from its lanes and the round counter do. -/
theorem reception_congr {s t : State} (hport : t.tree.port = s.tree.port) (hclock : t.clock = s.clock) :
    t.reception = s.reception := by
  have hissued : t.tree.issued = s.tree.issued := (congrArg TreePort.issued hport :)
  have hstate : t.tree.state = s.tree.state := (congrArg TreePort.state hport :)
  unfold State.reception State.now
  rw [hissued, hstate, hclock]

end

/-! ### What answers an echo (R57) -/

/-- Whether an answer is one that may answer an echo span of a slot: the round, the span, the serial, and a start at span
offset 0 to 12 (R57). -/
def EchoAnswer.fits (a : EchoAnswer) (s : State) (i : SlotId) (span : EchoSpan) (n : Round) : Bool :=
  a.round == n && a.start == span.start && some a.serial == (s.slot i).serial
    && Decidable.decide (4096 + span.start ≤ a.ticks ∧ a.ticks ≤ 4096 + span.start + 12)

section
variable {s : State} {i : SlotId} {span : EchoSpan} {n : Round}

theorem fits_iff (a : EchoAnswer) :
    a.fits s i span n = true ↔
      a.round = n ∧ a.start = span.start ∧ (s.slot i).serial = some a.serial
        ∧ 4096 + span.start ≤ a.ticks ∧ a.ticks ≤ 4096 + span.start + 12 := by
  simp only [EchoAnswer.fits, Bool.and_eq_true, beq_iff_eq, decide_eq_true_iff, and_assoc, eq_comm (a := some a.serial)]

theorem echoAnswerOf_eq :
    s.echoAnswerOf i span n =
      (s.enrol.answers.find? (·.fits s i span n)).bind fun a =>
        if rtdAccepted (refinedRtd a (((s.echo i).homeHoldoff).getD 0) span.start) then
          some (refinedRtd a (((s.echo i).homeHoldoff).getD 0) span.start)
        else none := rfl

theorem echoAnswerOf_none (h : ∀ a ∈ s.enrol.answers, a.fits s i span n = false) : s.echoAnswerOf i span n = none := by
  rw [echoAnswerOf_eq, List.find?_eq_none.mpr fun a ha => by simp [h a ha]]
  rfl

theorem echoAnswerOf_first {home : Half} (hhome : (s.echo i).homeHoldoff = some home) {pre post : List EchoAnswer}
    {a : EchoAnswer} (hlist : s.enrol.answers = pre ++ a :: post) (hpre : ∀ b ∈ pre, b.fits s i span n = false)
    (ha : a.fits s i span n = true) :
    s.echoAnswerOf i span n =
      if 16 ≤ refinedRtd a home span.start ∧ refinedRtd a home span.start ≤ 27200 then
        some (refinedRtd a home span.start)
      else none := by
  have hfind : s.enrol.answers.find? (·.fits s i span n) = some a := by
    have hnone : pre.find? (·.fits s i span n) = none := List.find?_eq_none.mpr fun b hb => by simp [hpre b hb]
    rw [hlist, List.find?_append, hnone, Option.none_or]
    exact List.find?_cons_of_pos ha
  rw [echoAnswerOf_eq, hfind, hhome]
  exact if_congr (rtdAccepted_iff _) rfl rfl

/-- An echo is answered only within the accepted range (R13, R57). -/
theorem accepted_of_echoAnswerOf {rtd : Int} (h : s.echoAnswerOf i span n = some rtd) : 16 ≤ rtd ∧ rtd ≤ 27200 := by
  rw [echoAnswerOf_eq] at h
  obtain ⟨a, -, h⟩ := Option.bind_eq_some_iff.mp h
  split at h
  next haccepted =>
    injection h with h
    rw [← h]
    exact (rtdAccepted_iff _).mp haccepted
  · cases h

end

/-! ### A verdict given (R18, R25, R58, R59) -/

/-- What the announcement of ACTIVE gives a slot that was newly assigned: its claim-due mark and its context (R122, R167). -/
theorem enter_active_fresh {s : State} {i : SlotId} {f : SlotRecord → SlotRecord} (hnew : (f (s.slot i)).state = .active)
    (hfresh : (s.slot i).fresh = true) :
    (s.enter i f).claimDue i = some (f (s.slot i)).gen
      ∧ ((s.ctx i).state = .none → ((s.enter i f).ctx i).state = .opened) := by
  have hself : (s.modSlot i f).slot i = f (s.slot i) := by simp [State.modSlot_slot]
  unfold State.enter State.announce
  rw [hself, hnew]
  dsimp only
  rw [hfresh, if_neg (by simp)]
  generalize hw : (((((s.modSlot i f).treeOnSlot i .active).enrolOnSlot i (s.slot i).state .active).schedOnSlot i
    .active).downOnSlot i .active).watchOnSlot i .active = w
  have hhome : w.home = (s.modSlot i f).home := by rw [← hw]; simp [State.watchOnSlot]
  have hmeter : w.meter = s.meter := by rw [← hw]; simp
  have hctx : w.ctx i = s.ctx i := by simp [State.ctx, hmeter]
  have hgen : ((w.meterOnSlot i true .active).slot i).gen = (f (s.slot i)).gen := by
    rw [slot_congr (State.meterOnSlot_frame ..).2.1, slot_congr hhome, hself]
  refine ⟨?_, fun hnone => ?_⟩
  · show ((w.meterOnSlot i true .active).setClaimDue i (some ((w.meterOnSlot i true .active).slot i).gen)).claimDue i = _
    rw [setClaimDue_claimDue, if_pos rfl, hgen]
  · show ((w.ensureOpen i).ctx i).state = .opened
    unfold State.ensureOpen
    rw [if_pos (by rw [hctx]; exact hnone)]
    unfold State.openContext
    dsimp only
    rw [modCtx_ctx_self]

/-- The slot record on an answered echo (R25). -/
def SlotRecord.answered (r : SlotRecord) (rtd : Half) (n : Round) (now : DTime) : SlotRecord :=
  { (r.echoed rtd n).activate with claimTime := if r.fresh then some now else r.claimTime }

theorem echoGood_slot {s : State} {i : SlotId} (rtd : Half) (n : Round)
    (hstate : (s.slot i).state = .assigning ∨ (s.slot i).state = .resuming ∨ (s.slot i).state = .active) (j : SlotId) :
    (s.echoGood i (s.slot i).gen rtd n).slot j =
      if j = i then (s.slot i).answered rtd n s.clock.time else s.slot j := by
  unfold State.echoGood
  rw [if_pos rfl]
  dsimp only
  rcases hstate with h | h | h
  · rw [h]
    dsimp only
    by_cases hj : j = i
    · subst hj
      rw [if_pos rfl, enter_slot_self _ _ _ (by simp [SlotRecord.activate]) rfl]
      cases hrejoin : (s.slot j).rejoin <;> simp [SlotRecord.answered, SlotRecord.fresh, h, hrejoin, SlotRecord.echoed,
        SlotRecord.activate]
    · rw [if_neg hj, enter_slot_other _ _ _ (by simp [SlotRecord.activate]) hj]
  · rw [h]
    dsimp only
    by_cases hj : j = i
    · subst hj
      rw [if_pos rfl, enter_slot_self _ _ _ (by simp [SlotRecord.activate]) rfl]
      simp [SlotRecord.answered, SlotRecord.fresh, h, SlotRecord.echoed, SlotRecord.activate]
    · rw [if_neg hj, enter_slot_other _ _ _ (by simp [SlotRecord.activate]) hj]
  · rw [h]
    dsimp only
    rw [State.modSlot_slot]
    by_cases hj : j = i
    · subst hj
      simp [SlotRecord.answered, SlotRecord.fresh, h, SlotRecord.echoed, SlotRecord.activate]
    · rw [if_neg hj, if_neg hj]

theorem echoGood_fresh {s : State} {i : SlotId} (rtd : Half) (n : Round) (hfresh : (s.slot i).fresh = true) :
    (s.echoGood i (s.slot i).gen rtd n).claimDue i = some (s.slot i).gen
      ∧ ((s.ctx i).state = .none → ((s.echoGood i (s.slot i).gen rtd n).ctx i).state = .opened) := by
  have hstate : (s.slot i).state = .assigning := by
    simp only [SlotRecord.fresh, Bool.and_eq_true] at hfresh
    simpa using hfresh.1
  unfold State.echoGood
  rw [if_pos rfl]
  dsimp only
  rw [hstate]
  exact enter_active_fresh rfl hfresh

theorem echoAnswered_eq (s : State) (i : SlotId) (rtd : Int) (n : Round) :
    s.echoAnswered i rtd n =
      ((s.modEcho i (·.needsHoldoff (holdoffOf (BitVec.ofNat 16 rtd.toNat)))).echoGood i (s.slot i).gen
        (BitVec.ofNat 16 rtd.toNat) n).modEcho i (·.ended) := rfl

theorem echoMissed_below {s : State} {i : SlotId} {p : EchoPurpose} (n : Round) (h : (s.echo i).misses + 1 < p.limit) :
    s.echoMissed i p n =
      (s.modEcho i fun r => { r with
        misses := (s.echo i).misses + 1, phase := some .waiting, spanDue := true, earliest := some (n + 8) }).askSpan i := by
  unfold State.echoMissed
  exact if_neg (by omega)

theorem echoMissed_at {s : State} {i : SlotId} {p : EchoPurpose} (n : Round) (h : p.limit ≤ (s.echo i).misses + 1) :
    s.echoMissed i p n = (s.modEcho i (·.ended)).echoFailed i (s.slot i).gen := by
  unfold State.echoMissed
  exact if_pos h

theorem echoFailed_fresh {s : State} {i : SlotId} (h : (s.slot i).fresh = true) :
    s.echoFailed i (s.slot i).gen = s.abandonAssignment i := by
  simp only [SlotRecord.fresh, Bool.and_eq_true, beq_iff_eq, Bool.not_eq_true'] at h
  unfold State.echoFailed
  rw [if_pos rfl, h.1]
  exact if_neg (by simp [h.2])

theorem echoFailed_lost {s : State} {i : SlotId}
    (h : (s.slot i).state = .resuming ∨ (s.slot i).state = .active
      ∨ (s.slot i).state = .assigning ∧ (s.slot i).rejoin = true) :
    s.echoFailed i (s.slot i).gen = s.loseSlot i := by
  unfold State.echoFailed
  rw [if_pos rfl]
  rcases h with h | h | ⟨h, hrejoin⟩
  · rw [h]
  · rw [h]
  · rw [h]
    exact if_pos hrejoin

theorem closeSlot_echo (s : State) (i j : SlotId) (reason : CloseReason) :
    (s.closeSlot i reason).echo j = (s.enter i (·.close reason)).echo j := by
  rw [closeSlot_eq, State.modRoster_echo_at]
  simp [State.echo]

/-- An exchange of a slot that is lost has ended without a verdict (R62). -/
theorem loseSlot_echo_self (s : State) (i : SlotId) :
    ((s.loseSlot i).echo i).purpose = none ∧ ((s.loseSlot i).echo i).phase = none := by
  rcases Nat.lt_or_ge (s.clock.round - (s.lostFrom i).round).toNat 240000 with h | h
  · rw [loseSlot_of_recent s i h, enter_echo, if_pos rfl]
    exact ⟨rfl, rfl⟩
  · rw [loseSlot_of_old s i h, closeSlot_echo, enter_echo, if_pos rfl]
    exact ⟨rfl, rfl⟩

end Sys2Proof.Machine
end

section
/-! PROOFS. A narrow echo span reported and ruled (O18; R9, R18, R25, R27, R57 to R59). -/

namespace Sys2Proof.Machine

-- One thread elaborates this section: the text as a whole is near the memory limit of the check.
set_option Elab.async false

/-- The record in reception once one of its echo spans is reported (R9). -/
def Issued.echoEnded (r : Issued) (start : Nat) (light : Bool) : Issued :=
  { r.noteLight start light with echoesEnded := r.echoesEnded ++ [start] }

/-- The state in which an echo span is ruled: the report made, the latch as the sample at its end found it (R9). -/
def State.atEchoEnd (s : State) (start : Nat) (light : Bool) : State :=
  (s.modReception (·.echoEnded start light)).sampleLatch light

/-- The answers of a span of a round are done with (R57). -/
def State.dropAnswers (s : State) (n : Round) (start : Nat) : State :=
  s.modEnrol fun e => { e with answers := e.answers.filter fun a => a.round != n || a.start != start }

section
variable {s : State} {r : Issued}

theorem atEchoEnd_eq (hr : s.reception = some r) (start : Nat) (light : Bool) :
    s.atEchoEnd start light = { s with
      tree := { s.tree with latch := light, issued := r.echoEnded start light :: s.tree.issued.tail } } := by
  unfold State.atEchoEnd
  rw [modReception_eq hr]
  rfl

theorem atEchoEnd_reception (hr : s.reception = some r) (start : Nat) (light : Bool) :
    (s.atEchoEnd start light).reception = some (r.echoEnded start light) := by
  have hplan : (r.echoEnded start light).plan = r.plan := by
    unfold Issued.echoEnded
    rw [noteLight_eq]
  have hissued := issued_of_reception hr
  have hr' := hr
  unfold State.reception at hr'
  rw [hissued] at hr'
  dsimp only at hr'
  split at hr'
  next hready =>
    rw [atEchoEnd_eq hr]
    unfold State.reception
    dsimp only
    rw [hplan]
    exact if_pos hready
  · cases hr'

theorem execEchoSpanEnd_of {span : EchoSpan} {start : Fin 2048} (light : Bool) (hr : s.reception = some r)
    (hspan : r.plan.spans.echoes.find? (·.start == start.val) = some span)
    (hopen : r.echoesEnded.contains span.start = false) :
    exec (.echoSpanEnd { start := start, light := light }) s =
      .next (((s.atEchoEnd span.start light).ruleEcho span r.plan.round).dropAnswers r.plan.round span.start) := by
  show execEchoSpanEnd { start := start, light := light } s = _
  rw [execEchoSpanEnd, hr]
  dsimp only
  rw [hspan]
  dsimp only
  rw [if_neg (by rw [hopen]; simp)]
  rfl

theorem ruleEcho_sent {span : EchoSpan} {n : Round} {p : EchoPurpose} {e : OrderEntry}
    (hpurpose : (s.echo span.slot).purpose = some p) (hphase : (s.echo span.slot).phase = some .sent)
    (hawait : s.tree.awaiting span.slot span.gen n = some e) (hgen : (s.slot span.slot).gen = span.gen) :
    (∀ rtd, s.echoAnswerOf span.slot span n = some rtd →
      s.ruleEcho span n = (s.modTree (·.verdict e true)).echoAnswered span.slot rtd n)
      ∧ (s.echoAnswerOf span.slot span n = none →
        s.ruleEcho span n = (s.modTree (·.verdict e false)).echoMissed span.slot p n) := by
  have hsent : (s.echo span.slot).phase = some .sent ∧ (s.slot span.slot).gen = span.gen := ⟨hphase, hgen⟩
  refine ⟨fun rtd h => ?_, fun h => ?_⟩
  · unfold State.ruleEcho
    dsimp only
    rw [hpurpose, hawait]
    dsimp only
    rw [if_pos hsent, h]
  · unfold State.ruleEcho
    dsimp only
    rw [hpurpose, hawait]
    dsimp only
    rw [if_pos hsent, h]

end

/-- What an answered echo leaves: the slot ACTIVE with the refined RTD, the exchange over (R25, R58). -/
theorem echoAnswered_spec {s : State} {i : SlotId} {rtd : Int} (n : Round) (hlow : 16 ≤ rtd) (hhigh : rtd ≤ 27200)
    (hstate : (s.slot i).state = .assigning ∨ (s.slot i).state = .resuming ∨ (s.slot i).state = .active) :
    (s.echoAnswered i rtd n).slot i = { s.slot i with
        state := .active, rejoin := false, silent := 0, lostSince := none, lastHeard := some n
        rtd := some (BitVec.ofInt 16 rtd), holdoff := some (BitVec.ofInt 16 (65536 - rtd))
        claimTime := if (s.slot i).fresh then some s.clock.time else (s.slot i).claimTime }
      ∧ (∀ j, j ≠ i → (s.echoAnswered i rtd n).slot j = s.slot j)
      ∧ ((s.echoAnswered i rtd n).echo i).purpose = none ∧ ((s.echoAnswered i rtd n).echo i).phase = none
      ∧ ((s.echoAnswered i rtd n).echo i).misses = 0
      ∧ ((s.slot i).fresh = true → (s.echoAnswered i rtd n).claimDue i = some (s.slot i).gen
        ∧ ((s.ctx i).state = .none → ((s.echoAnswered i rtd n).ctx i).state = .opened)) := by
  obtain ⟨hrtd, hholdoff⟩ := ofNat_toNat_of_accepted hlow hhigh
  rw [echoAnswered_eq, State.modEcho_slot_at, State.modEcho_echo, if_pos rfl]
  have hgood : ∀ half j, ((s.modEcho i (·.needsHoldoff (holdoffOf half))).echoGood i (s.slot i).gen half n).slot j =
      if j = i then (s.slot i).answered half n s.clock.time else s.slot j := fun half =>
    echoGood_slot (s := s.modEcho i (·.needsHoldoff (holdoffOf half))) half n hstate
  refine ⟨?_, fun j hj => ?_, rfl, rfl, rfl, fun hfresh => ?_⟩
  · rw [hgood, if_pos rfl]
    unfold SlotRecord.answered SlotRecord.echoed SlotRecord.activate
    rw [hholdoff, hrtd]
  · rw [State.modEcho_slot_at, hgood, if_neg hj]
  · exact echoGood_fresh (s := s.modEcho i _) _ n hfresh

/-- What a missed echo leaves below the limit: the slot as it was, the exchange waiting for another span (R59). -/
theorem echoMissed_below_spec {s : State} {i : SlotId} {p : EchoPurpose} (n : Round) (hpurpose : (s.echo i).purpose = some p)
    (h : (s.echo i).misses + 1 < p.limit) :
    (s.echoMissed i p n).home = s.home ∧ ((s.echoMissed i p n).echo i).purpose = some p
      ∧ ((s.echoMissed i p n).echo i).misses = (s.echo i).misses + 1
      ∧ ((s.echoMissed i p n).echo i).phase = some .waiting
      ∧ ((s.echoMissed i p n).echo i).earliest = some (n + 8) := by
  have hechoed : ((s.echoMissed i p n).echo i).settled = { (s.echo i).settled with
      misses := (s.echo i).misses + 1, phase := some .waiting, earliest := some (n + 8) } := by
    rw [echoMissed_below n h, askSpan_settled, State.modEcho_echo, if_pos rfl]
    rfl
  refine ⟨by simp [echoMissed_below n h], ?_, (congrArg EchoRecord.misses hechoed :), (congrArg EchoRecord.phase hechoed :),
    (congrArg EchoRecord.earliest hechoed :)⟩
  exact (congrArg EchoRecord.purpose hechoed :).trans hpurpose

/-- What a missed echo leaves at the limit: a new assignment FREE, any other slot LOST or, lost long ago, CLOSING (R25, R27,
R59). -/
theorem echoMissed_at_spec {s : State} {i : SlotId} {p : EchoPurpose} (n : Round) (h : p.limit ≤ (s.echo i).misses + 1)
    (hlit : s.tree.state = .lit) :
    ((s.slot i).fresh = true →
      ((s.echoMissed i p n).slot i).state = .free ∧ ((s.echoMissed i p n).slot i).gen = (s.slot i).gen
        ∧ ((s.echoMissed i p n).slot i).serial = none ∧ ((s.echoMissed i p n).slot i).releasePending = true)
    ∧ ((s.slot i).state = .resuming ∨ (s.slot i).state = .active
        ∨ (s.slot i).state = .assigning ∧ (s.slot i).rejoin = true →
      ((s.echoMissed i p n).echo i).purpose = none ∧ ((s.echoMissed i p n).echo i).phase = none
        ∧ (∀ j, j ≠ i → (s.echoMissed i p n).slot j = s.slot j)
        ∧ ((s.slot i).lostSince = none →
          (s.echoMissed i p n).slot i = { s.slot i with
            state := .lost, silent := 4, lostSince := some { round := s.clock.round, time := s.clock.time } })
        ∧ (∀ since_, (s.slot i).lostSince = some since_ →
          ((s.clock.round - since_.round).toNat < 240000 →
            (s.echoMissed i p n).slot i = { s.slot i with state := .lost, silent := 4 })
          ∧ (240000 ≤ (s.clock.round - since_.round).toNat →
            ((s.echoMissed i p n).slot i).state = .closing ∧ ((s.echoMissed i p n).slot i).closeReason = some .lost
              ∧ ((s.echoMissed i p n).slot i).lostSince = some since_))) := by
  rw [echoMissed_at n h]
  generalize hu : s.modEcho i (·.ended) = u
  have hblocks : u.home = s.home ∧ u.clock = s.clock ∧ u.tree = s.tree := by
    rw [← hu]
    exact ⟨rfl, rfl, rfl⟩
  obtain ⟨hhome, hclock, htree⟩ := hblocks
  have hslot := slot_congr hhome
  rw [← hslot i]
  refine ⟨fun hfresh => ?_, fun hstate => ?_⟩
  · rw [echoFailed_fresh hfresh, abandonAssignment_slot_self, htree]
    exact ⟨rfl, rfl, rfl, by simp [hlit]⟩
  · rw [echoFailed_lost hstate]
    obtain ⟨hpurpose, hphase⟩ := loseSlot_echo_self u i
    refine ⟨hpurpose, hphase, fun j hj => (loseSlot_slot_other u i hj).trans (hslot j), fun hnone => ?_,
      fun since_ hsince => ⟨fun hrecent => ?_, fun hold => ?_⟩⟩
    · rw [loseSlot_slot_recent _ _ (recent_of_none hnone), lostFrom_of_none hnone, hclock]
      rfl
    · rw [loseSlot_slot_recent _ _ (by rwa [lostFrom_of_some hsince, hclock]), lostFrom_of_some hsince]
      unfold SlotRecord.lose
      rw [← hsince]
    · obtain ⟨hclosing, hreason, hkept, -⟩ := loseSlot_slot_old u i (by rwa [lostFrom_of_some hsince, hclock])
      exact ⟨hclosing, hreason, by rw [hkept, lostFrom_of_some hsince]⟩

@[simp] theorem ruleEcho_port (s : State) (span : EchoSpan) (n : Round) : (s.ruleEcho span n).tree.port = s.tree.port := by
  unfold State.ruleEcho
  dsimp only
  split
  · split
    · split <;> simp
    · rfl
  · rfl

/-- Settles O18: what answers an echo, then the report and the ruling of its span. -/
theorem echoSpanRuled : Obligations.EchoSpanRuled := by
  unfold Obligations.EchoSpanRuled
  refine ⟨fun s i span n home hhome => ?_, fun s start light r span p e hr hspan hopen hpurpose hphase hawait hgen => ?_⟩
  · intro fits
    have hfits : ∀ a : EchoAnswer, a.fits s i span n = true ↔ fits a := fits_iff
    have hunfit : ∀ a : EchoAnswer, ¬ fits a → a.fits s i span n = false := fun a h =>
      Bool.eq_false_iff.mpr fun h' => h ((hfits a).mp h')
    exact ⟨fun h => echoAnswerOf_none fun a ha => hunfit a (h a ha), fun pre post a hlist hpre ha =>
      echoAnswerOf_first hhome hlist (fun b hb => hunfit b (hpre b hb)) ((hfits a).mpr ha)⟩
  intro i
  have hstart : span.start = start.val := by simpa using List.find?_some hspan
  have hlit := lit_of_reception hr
  have hexec := execEchoSpanEnd_of light hr hspan hopen
  have hreception := atEchoEnd_reception hr span.start light
  have hu := atEchoEnd_eq hr span.start light
  rw [hstart] at hexec hreception hu
  generalize s.atEchoEnd start.val light = u at hexec hreception hu
  have hblocks : u.home = s.home ∧ u.enrol = s.enrol ∧ u.clock = s.clock ∧ u.journal = s.journal ∧ u.link = s.link
      ∧ u.config = s.config ∧ u.pending = s.pending ∧ u.meter = s.meter ∧ u.tree.urgent = s.tree.urgent
      ∧ u.tree.state = s.tree.state ∧ u.tree.latch = light := by
    rw [hu]
    exact ⟨rfl, rfl, rfl, rfl, rfl, rfl, rfl, rfl, rfl, rfl, rfl⟩
  obtain ⟨hhome, henrol, hclock, hjournal, hlink, hconfig, hpending, hmeter, hurgent, hstate, hlatch⟩ := hblocks
  have hslot := slot_congr hhome
  have hecho : ∀ j, u.echo j = s.echo j := fun j => by simp [State.echo, henrol]
  have hctx : ∀ j, u.ctx j = s.ctx j := fun j => by simp [State.ctx, hmeter]
  have hanswer : u.echoAnswerOf i span r.plan.round = s.echoAnswerOf i span r.plan.round := by
    unfold State.echoAnswerOf
    rw [henrol, hecho, hslot]
  have hawait' : u.tree.awaiting span.slot span.gen r.plan.round = some e := by
    unfold TreePort.awaiting
    rw [hurgent]
    exact hawait
  obtain ⟨hanswered, hmissed⟩ := ruleEcho_sent (n := r.plan.round) (by rwa [hecho]) (by rwa [hecho]) hawait' (by rwa [hslot])
  rw [hanswer] at hanswered hmissed
  have hport := ruleEcho_port u span r.plan.round
  refine ⟨_, hexec, ?_, ?_, by simp [State.dropAnswers, hclock], by simp [State.dropAnswers, hjournal],
    by simp [State.dropAnswers, hlink], by simp [State.dropAnswers, hconfig], by simp [State.dropAnswers, hpending],
    fun rtd hrtd hstates => ?_, fun hnone hbelow => ?_, fun hnone hlimit => ?_⟩
  · rw [reception_congr (s := u) (t := (u.ruleEcho span r.plan.round).dropAnswers r.plan.round start.val) hport
      (by simp [State.dropAnswers]), hreception]
    unfold Issued.echoEnded
    rw [noteLight_eq]
  · exact (congrArg TreePort.latch hport :).trans hlatch
  · obtain ⟨hlow, hhigh⟩ := accepted_of_echoAnswerOf hrtd
    have hspec := echoAnswered_spec (s := u.modTree (·.verdict e true)) (i := i) r.plan.round hlow hhigh
      (by rw [State.modTree_slot_at, hslot]; exact hstates)
    rw [← hanswered rtd hrtd] at hspec
    simp only [State.modTree_slot_at, State.modTree_clock, State.modTree_ctx_at, hslot, hclock, hctx] at hspec
    exact hspec
  · have hspec := echoMissed_below_spec (s := u.modTree (·.verdict e false)) (i := i) r.plan.round
      (by rw [State.modTree_echo_at, hecho]; exact hpurpose) (by rw [State.modTree_echo_at, hecho]; exact hbelow)
    rw [← hmissed hnone] at hspec
    simp only [State.modTree_echo_at, State.modTree_home, hecho, hhome] at hspec
    exact hspec
  · have hspec := echoMissed_at_spec (s := u.modTree (·.verdict e false)) (i := i) r.plan.round
      (by rw [State.modTree_echo_at, hecho]; exact hlimit)
      ((congrArg TreePort.state (verdict_port u.tree e false) :).trans (hstate.trans hlit))
    rw [← hmissed hnone] at hspec
    simp only [State.modTree_slot_at, State.modTree_clock, hslot, hclock] at hspec
    exact hspec

end Sys2Proof.Machine
end

section
/-! PROOFS. What falls due in the enrolment engine (O19; R19, R46, R47, R49, R60, R61). -/

namespace Sys2Proof.Machine

-- One thread elaborates this section: the text as a whole is near the memory limit of the check.
set_option Elab.async false

/-! ### A HOLDOFF that brought nothing (R19, R60) -/

section
variable {s : State} {i : SlotId} {e : OrderEntry}

theorem execHoldoffTimeout_again (hlate : s.tree.holdoffLate i = some e) (htries : e.tries < 3) :
    exec (.holdoffTimeout i) s = .next (s.modTree (·.replace e { e with waiting := false })) := by
  show execHoldoffTimeout i s = _
  rw [execHoldoffTimeout, hlate]
  exact if_neg (by omega)

theorem execHoldoffTimeout_failed (hlate : s.tree.holdoffLate i = some e) (htries : 3 ≤ e.tries) :
    exec (.holdoffTimeout i) s = .next ((s.modTree (·.erase e)).report e .failed) := by
  show execHoldoffTimeout i s = _
  rw [execHoldoffTimeout, hlate]
  exact if_pos htries

theorem report_holdoff {v : Half} {g : Gen} (hbody : e.body = .holdoff v) (htarget : e.target = some (i, g))
    (o : OrderOutcome) : s.report e o = s.holdoffOutcome i v o := by
  unfold State.report
  rw [hbody, htarget]

theorem holdoffOutcome_failed {v : Half} (hflight : (s.echo i).holdoffInFlight = some v) :
    s.holdoffOutcome i v .failed =
      (s.modEcho i fun r => { r with holdoffInFlight := none, holdoffWaiting := none }).modEnrol fun e =>
        { e with reechoes := e.reechoes ++ [i] } := by
  unfold State.holdoffOutcome
  exact if_pos hflight

end

/-! ### A re-echo request (R61) -/

section
variable {s : State} {i : SlotId}

theorem execReechoRequest_first {rest : List SlotId} (h : s.enrol.reechoes = i :: rest) :
    exec .reechoRequest s = .next ((s.modEnrol fun e => { e with reechoes := rest }).reecho i) := by
  show execReechoRequest s = _
  rw [execReechoRequest, h]

theorem reecho_discarded (h : (s.slot i).state ≠ .active ∨ (s.echo i).purpose ≠ none) : s.reecho i = s := by
  unfold State.reecho
  split
  next hactive =>
    exact if_pos (Option.isSome_iff_ne_none.mpr (h.resolve_left (not_not.mpr hactive)))
  · rfl

theorem reecho_pending (hactive : (s.slot i).state = .active) (hidle : (s.echo i).purpose = none)
    (hhushed : (s.slot i).hushed = true) : s.reecho i = s.modEcho i fun r => { r with checkPending := true } := by
  unfold State.reecho
  rw [if_pos hactive, if_neg (by simp [hidle]), if_pos hhushed]

theorem reecho_started (hactive : (s.slot i).state = .active) (hidle : (s.echo i).purpose = none)
    (hhushed : (s.slot i).hushed = false) : s.reecho i = s.startExchange i .check := by
  unfold State.reecho
  rw [if_pos hactive, if_neg (by simp [hidle]), if_neg (by simp [hhushed])]

end

/-! ### The counter and the follow-up (R46, R47, R49) -/

theorem execRollCallDue_idle {s : State} (hreached : s.enrol.roll.reached = true) (hidle : s.enrol.roll.phase = .idle) :
    exec .rollCallDue s =
      .next ((s.modRoll fun r => { r with reached := false, due := true }).beginRoll .periodic) := by
  show execRollCallDue s = _
  rw [execRollCallDue, if_pos hreached]
  exact congrArg _ (if_pos hidle)

theorem execRollCallDue_busy {s : State} (hreached : s.enrol.roll.reached = true) (hbusy : s.enrol.roll.phase ≠ .idle) :
    exec .rollCallDue s = .next (s.modRoll fun r => { r with reached := false, due := true }) := by
  show execRollCallDue s = _
  rw [execRollCallDue, if_pos hreached]
  exact congrArg _ (if_neg hbusy)

section
variable {s : State} {n : Round} (hat : s.enrol.roll.followUpAt = some n)
include hat

theorem execFollowUpDue_early (h : (s.clock.round - n).toNat < 4) : exec .followUpDue s = .next s := by
  show execFollowUpDue s = _
  rw [execFollowUpDue, hat]
  exact if_neg (Nat.not_le.mpr h)

theorem execFollowUpDue_begun (h : 4 ≤ (s.clock.round - n).toNat) (hcause : s.enrol.roll.cause = some .followUp)
    (hidle : s.enrol.roll.phase = .idle) (hlit : s.tree.state = .lit) :
    exec .followUpDue s = .next ((s.modRoll fun r => { r with followUpAt := none }).beginRoll .followUp) := by
  show execFollowUpDue s = _
  rw [execFollowUpDue, hat]
  exact (if_pos h).trans (if_pos ⟨hcause, hidle, hlit⟩)

theorem execFollowUpDue_dropped (h : 4 ≤ (s.clock.round - n).toNat) (hcause : s.enrol.roll.cause = some .followUp)
    (hother : s.enrol.roll.phase ≠ .idle ∨ s.tree.state ≠ .lit) :
    exec .followUpDue s =
      .next ((s.modRoll fun r => { r with followUpAt := none }).modRoll fun r => { r with cause := none }) := by
  show execFollowUpDue s = _
  rw [execFollowUpDue, hat]
  exact (if_pos h).trans ((if_neg fun ⟨_, hidle, hlit⟩ => hother.elim (· hidle) (· hlit)).trans (if_pos hcause))

end

/-- Settles O19: the HOLDOFF's timeout, the re-echo request, the counter and the follow-up. -/
theorem enrolmentFallsDue : Obligations.EnrolmentFallsDue := by
  unfold Obligations.EnrolmentFallsDue
  refine ⟨fun s i e v g hlate hbody htarget => ⟨fun htries => ?_, fun htries hflight => ?_⟩, fun s i rest hrest =>
    ⟨fun h => ?_, fun hactive hidle => ?_⟩, fun s hreached => ⟨fun hidle => ?_, fun hbusy => ?_⟩, fun s n hat hcause =>
    ⟨fun h hidle hlit => ?_, fun h hother => ?_, fun h => execFollowUpDue_early hat h⟩⟩
  · exact ⟨_, execHoldoffTimeout_again hlate htries, rfl, rfl⟩
  · rw [execHoldoffTimeout_failed hlate htries, report_holdoff hbody htarget,
      holdoffOutcome_failed (s := s.modTree (·.erase e)) hflight]
    refine ⟨_, rfl, rfl, rfl, ?_, rfl⟩
    show ((s.modTree (·.erase e)).modEcho i fun r =>
      { r with holdoffInFlight := none, holdoffWaiting := none }).echo i = _
    rw [State.modEcho_echo, if_pos rfl]
    rfl
  · rw [execReechoRequest_first hrest, reecho_discarded (s := s.modEnrol fun e => { e with reechoes := rest }) (by exact h)]
    rfl
  · refine ⟨_, execReechoRequest_first hrest, ?_⟩
    generalize hu : (s.modEnrol fun e => { e with reechoes := rest }) = u
    have hblocks : u.home = s.home ∧ u.meter = s.meter ∧ u.tree = s.tree ∧ u.enrol.reechoes = rest
        ∧ ∀ j, u.echo j = s.echo j := by
      rw [← hu]
      exact ⟨rfl, rfl, rfl, rfl, fun _ => rfl⟩
    obtain ⟨hhome, hmeter, htree, hreechoes, hecho⟩ := hblocks
    have hslot := slot_congr hhome
    cases hhushed : (s.slot i).hushed with
    | true =>
      rw [reecho_pending (by rwa [hslot]) (by rwa [hecho]) (by rwa [hslot])]
      refine ⟨by rw [modEcho_enrol, hreechoes], by simp [hhome], by simp [hmeter], fun j hj => ?_, fun _ => ⟨?_, by simp [htree]⟩,
        fun h => (nomatch h)⟩
      · rw [State.modEcho_echo, if_neg hj, hecho]
      · rw [State.modEcho_echo, if_pos rfl, hecho]
    | false =>
      rw [reecho_started (by rwa [hslot]) (by rwa [hecho]) (by rwa [hslot])]
      have hexchange := startExchange_echo u i .check
      refine ⟨by rw [startExchange_enrol, hreechoes], by simp [hhome], by simp [hmeter], fun j hj => ?_, fun h => (nomatch h),
        fun _ => ⟨(congrArg EchoRecord.purpose hexchange :), (congrArg EchoRecord.phase hexchange :),
          (congrArg EchoRecord.misses hexchange :), ?_⟩⟩
      · rw [startExchange_echo_other _ _ _ _ hj, hecho]
      · rw [if_neg (by simp), hecho] at hexchange
        exact (congrArg EchoRecord.homeHoldoff hexchange :)
  · rw [execRollCallDue_idle hreached hidle]
    rfl
  · rw [execRollCallDue_busy hreached hbusy]
    rfl
  · rw [execFollowUpDue_begun hat h hcause hidle hlit]
    unfold State.beginRoll
    rw [← hcause]
    rfl
  · rw [execFollowUpDue_dropped hat h hcause hother]
    rfl

end Sys2Proof.Machine
end

section
/-! PROOFS. Start-up (O3; R163, R183 to R185, R197). -/

namespace Sys2Proof.Machine

-- One thread elaborates this section: the text as a whole is near the memory limit of the check.
set_option Elab.async false

/-! ### The backlog offered: whose frames the queue holds then (R159) -/

section
variable {P : Message → Prop}

/-- What an offer, taken or refused, leaves in the queue. -/
theorem Link.offer_holds {l : Link} {m : Message} (hm : P m) (hq : ∀ e ∈ l.queue, P e.message) :
    ∀ e ∈ (l.offer m).1.queue, P e.message := by
  unfold Link.offer
  split
  · exact hq
  · intro e he
    rcases List.mem_append.mp he with he | he
    · exact hq e he
    · obtain rfl := List.mem_singleton.mp he
      exact hm

theorem Link.offer_flags (l : Link) (m : Message) : (l.offer m).1.flags = l.flags := by
  unfold Link.offer
  split <;> rfl

theorem Link.drainAlerts_holds (ms : List Message) (l : Link) (hms : ∀ m ∈ ms, P m) (hq : ∀ e ∈ l.queue, P e.message) :
    ∀ e ∈ (Link.drainAlerts ms l).queue, P e.message := by
  induction ms generalizing l with
  | nil => exact hq
  | cons m ms ih =>
    unfold Link.drainAlerts
    split
    · next l' ho =>
      refine ih l' (fun k hk => hms k (List.mem_cons_of_mem _ hk)) ?_
      simpa only [ho] using Link.offer_holds (hms m List.mem_cons_self) hq
    · exact hq

theorem Link.drainAlerts_kept (ms : List Message) (l : Link) :
    (Link.drainAlerts ms l).flags = l.flags ∧ (Link.drainAlerts ms l).backReplies = l.backReplies := by
  induction ms generalizing l with
  | nil => exact ⟨rfl, rfl⟩
  | cons m ms ih =>
    unfold Link.drainAlerts
    split
    · next l' ho =>
      have hflags : l'.flags = l.flags := by simpa only [ho] using l.offer_flags m
      have hback : l'.backReplies = l.backReplies := by simpa only [ho] using (l.offer_backlog m).2
      exact ⟨(ih l').1.trans hflags, (ih l').2.trans hback⟩
    · exact ⟨rfl, rfl⟩

theorem Link.drainReplies_holds (ms : List Message) (l : Link) (hms : ∀ m ∈ ms, P m) (hq : ∀ e ∈ l.queue, P e.message) :
    ∀ e ∈ (Link.drainReplies ms l).queue, P e.message := by
  induction ms generalizing l with
  | nil => exact hq
  | cons m ms ih =>
    unfold Link.drainReplies
    split
    · next l' ho =>
      refine ih _ (fun k hk => hms k (List.mem_cons_of_mem _ hk)) ?_
      simpa only [ho] using Link.offer_holds (hms m List.mem_cons_self) hq
    · exact hq

theorem Link.drainReplies_flags (ms : List Message) (l : Link) : (Link.drainReplies ms l).flags = l.flags := by
  induction ms generalizing l with
  | nil => rfl
  | cons m ms ih =>
    unfold Link.drainReplies
    split
    · next l' ho =>
      refine (ih _).trans ?_
      simpa only [ho] using l.offer_flags m
    · rfl

/-- The queue after the backlog was offered holds what it held, and frames of the backlog. -/
theorem Link.drainBacklog_holds (l : Link) (hback : ∀ m ∈ l.backAlerts ++ l.backReplies, P m)
    (hq : ∀ e ∈ l.queue, P e.message) : ∀ e ∈ l.drainBacklog.queue, P e.message := by
  have halerts := Link.drainAlerts_holds l.backAlerts l (fun m hm => hback m (List.mem_append_left _ hm)) hq
  unfold Link.drainBacklog
  dsimp only
  split
  · refine Link.drainReplies_holds _ _ (fun m hm => hback m (List.mem_append_right _ ?_)) halerts
    rwa [(Link.drainAlerts_kept _ l).2] at hm
  · exact halerts

end

theorem Link.drainBacklog_flags (l : Link) : l.drainBacklog.flags = l.flags := by
  unfold Link.drainBacklog
  dsimp only
  split
  · exact (Link.drainReplies_flags _ _).trans (Link.drainAlerts_kept _ _).1
  · exact (Link.drainAlerts_kept _ _).1

/-! ### CONFIG FAULT (R163, R183) -/

theorem Link.dropBeacons_flags (l : Link) : l.dropBeacons.flags = l.flags := Link.drainBacklog_flags _

theorem Link.dropBeacons_noTime (l : Link) (hback : ∀ m ∈ l.backAlerts ++ l.backReplies, m.isTime = false) :
    ∀ e ∈ l.dropBeacons.queue, e.message.isTime = false := by
  refine Link.drainBacklog_holds (P := fun m => m.isTime = false) _ hback fun e he => ?_
  simpa using List.of_mem_filter he

theorem Link.sendAlert_flags (l : Link) (m : Message) (husage : m.isUsage = false) : (l.sendAlert m).flags = l.flags := by
  rcases Nat.lt_or_ge l.queue.length Config.queueFrames with hroom | hfull
  · rw [sendAlert_of_room husage hroom]
  · rw [sendAlert_of_full hfull]
    rfl

theorem Link.sendAlert_mem (l : Link) (m : Message) (husage : m.isUsage = false) :
    m ∈ (l.sendAlert m).queue.map (·.message) ++ (l.sendAlert m).backAlerts := by
  rcases Nat.lt_or_ge l.queue.length Config.queueFrames with hroom | hfull
  · rw [sendAlert_of_room husage hroom]
    simp
  · rw [sendAlert_of_full hfull]
    simp [Link.backlogAlert]

theorem Link.sendAlert_noTime (l : Link) (m : Message) (husage : m.isUsage = false) (htime : m.isTime = false)
    (h : ∀ e ∈ l.queue, e.message.isTime = false) : ∀ e ∈ (l.sendAlert m).queue, e.message.isTime = false := by
  rcases Nat.lt_or_ge l.queue.length Config.queueFrames with hroom | hfull
  · rw [sendAlert_of_room husage hroom]
    intro e he
    rcases List.mem_append.mp he with he | he
    · exact h e he
    · obtain rfl := List.mem_singleton.mp he
      exact htime
  · rw [sendAlert_of_full hfull]
    exact h

/-- The link on entry to CONFIG FAULT: TIME frames dropped, the flag set, and the alert sent whatever the mask says. -/
theorem configFault_link (s : State) :
    s.configFault.link = (s.link.dropBeacons.setFlag 12).sendAlert (.alert .configFault .unset s.clock.time []) := rfl

theorem configFault_state (s : State) :
    s.configFault = { s with
      clock := { s.clock with phase := .configFault, state := .unset, trim := 0, beacon := .none }
      link := s.configFault.link } := rfl

theorem configFault_entered (s : State) : s.link.FaultEntered s.configFault.link s.clock.time := by
  rw [configFault_link]
  refine ⟨?_, Link.sendAlert_mem _ _ rfl, fun hback => Link.sendAlert_noTime _ _ rfl rfl (Link.dropBeacons_noTime _ hback)⟩
  rw [Link.sendAlert_flags _ _ rfl]
  exact congrArg (· ||| 0x1000) (Link.dropBeacons_flags s.link)

/-! ### The reads of the image and the write-back of the start count (R183 to R185, R197) -/

section
variable {s : State}

theorem imageRead_of_good {bs : List Byte} (hlen : bs.length = 209)
    (hcheck : fieldNat bs 205 2 = (check16 (field bs 0 205)).toNat) : imageRead (some bs) = some bs := by
  unfold imageRead
  simp [hlen, hcheck, Config.imageBytes]

theorem imageRead_of_bad {answer : Option (List Byte)}
    (hbad : ∀ bs, answer = some bs → bs.length < 209 ∨ fieldNat bs 205 2 ≠ (check16 (field bs 0 205)).toNat) :
    imageRead answer = none := by
  cases answer with
  | none => rfl
  | some bs =>
    unfold imageRead
    rcases hbad bs rfl with hshort | hcheck
    · simp [Config.imageBytes, hshort]
    · simp [hcheck]

variable (hphase : s.clock.phase = .loading)
include hphase

theorem execConfigReadAttempt_good (himage : s.clock.image = none) {answer : Option (List Byte)} {bs : List Byte}
    (hread : imageRead answer = some bs) :
    exec (.configReadAttempt answer) s = .next (s.modClock fun c => { c with image := some (imageOf bs) }) := by
  show execConfigReadAttempt answer s = _
  rw [execConfigReadAttempt, if_pos ⟨hphase, himage⟩, hread]

theorem execConfigReadAttempt_again (himage : s.clock.image = none) {answer : Option (List Byte)}
    (hread : imageRead answer = none) (hreads : s.clock.reads < 2) :
    exec (.configReadAttempt answer) s = .next (s.modClock fun c => { c with reads := c.reads + 1 }) := by
  show execConfigReadAttempt answer s = _
  rw [execConfigReadAttempt, if_pos ⟨hphase, himage⟩, hread]
  exact congrArg _ (if_neg (Nat.not_le.mpr (Nat.succ_lt_succ hreads)))

theorem execConfigReadAttempt_fault (himage : s.clock.image = none) {answer : Option (List Byte)}
    (hread : imageRead answer = none) (hreads : 2 ≤ s.clock.reads) :
    exec (.configReadAttempt answer) s = .next (s.modClock fun c => { c with reads := c.reads + 1 }).configFault := by
  show execConfigReadAttempt answer s = _
  rw [execConfigReadAttempt, if_pos ⟨hphase, himage⟩, hread]
  exact congrArg _ (if_pos (Nat.succ_le_succ hreads))

variable {im : Image} (himage : s.clock.image = some im)
include himage

theorem execStartCountWriteBack_confirmed :
    exec (.startCountWriteBack (some (im.startCount + 1))) s =
      .next ((s.modClock fun c => { c with startWritten := startCountWrites (im.startCount + 1) }).handOver im.config
        (im.startCount + 1)) := by
  show execStartCountWriteBack _ s = _
  rw [execStartCountWriteBack, hphase, himage]
  exact if_pos rfl

theorem execStartCountWriteBack_again {readBack : Option Half} (hwrong : readBack ≠ some (im.startCount + 1))
    (hwrites : s.clock.writes < 2) :
    exec (.startCountWriteBack readBack) s =
      .next ((s.modClock fun c => { c with startWritten := startCountWrites (im.startCount + 1) }).modClock fun c =>
        { c with writes := c.writes + 1 }) := by
  show execStartCountWriteBack _ s = _
  rw [execStartCountWriteBack, hphase, himage]
  exact (if_neg hwrong).trans (congrArg _ (if_neg (Nat.not_le.mpr (Nat.succ_lt_succ hwrites))))

theorem execStartCountWriteBack_fault {readBack : Option Half} (hwrong : readBack ≠ some (im.startCount + 1))
    (hwrites : 2 ≤ s.clock.writes) :
    exec (.startCountWriteBack readBack) s =
      .next ((s.modClock fun c => { c with startWritten := startCountWrites (im.startCount + 1) }).modClock fun c =>
        { c with writes := c.writes + 1 }).configFault := by
  show execStartCountWriteBack _ s = _
  rw [execStartCountWriteBack, hphase, himage]
  exact (if_neg hwrong).trans (congrArg _ (if_pos (Nat.succ_le_succ hwrites)))

end

theorem reevaluateBand_running {s : State} (h : s.clock.phase = .running) :
    s.reevaluateBand = s.modMeter fun m => { m with band := bandAt s.config s.clock.state s.clock.time } := if_pos h

theorem reevaluateBand_waiting {s : State} (h : s.clock.phase ≠ .running) : s.reevaluateBand = s := if_neg h

/-- The part as the hand-over leaves it: RUNNING, its band and next boundary taken from the configuration (R128, R185). -/
theorem handOver_eq (s : State) (c : Configuration) (mark : Half) :
    s.handOver c mark = { s with
      config := c
      journal := { s.journal with runMark := mark, pacing := 0 }
      clock := { s.clock with edges := 0, edgeLatch := false, phase := .running }
      meter := { s.meter with
        band := bandAt c s.clock.state s.clock.time, nextBoundary := some (boundaryAfter c s.clock.time) }
      tree := { s.tree with state := .starting } } := by
  unfold State.handOver
  dsimp only
  rw [reevaluateBand_running (by rfl)]
  rfl

/-- Settles O3: the read attempts and the write-back of start-up. -/
theorem startUpRuns : Obligations.StartUpRuns := by
  unfold Obligations.StartUpRuns
  refine ⟨fun s hphase himage => ⟨fun bs hlen hcheck => ?_, fun answer hbad => ⟨fun hreads => ?_, fun hreads => ?_⟩⟩,
    fun s im hphase himage => ⟨?_, fun readBack hwrong => ⟨fun hwrites => ?_, fun hwrites => ?_⟩⟩⟩
  · exact ⟨imageOf bs, execConfigReadAttempt_good hphase himage (imageRead_of_good hlen hcheck), rfl,
      imageConfig_inRange bs, rfl, rfl, rfl, rfl, rfl, rfl, rfl, rfl, rfl⟩
  · rw [execConfigReadAttempt_again hphase himage (imageRead_of_bad hbad) hreads]
    rfl
  · exact ⟨_, execConfigReadAttempt_fault hphase himage (imageRead_of_bad hbad) hreads, configFault_state _,
      configFault_entered (s.modClock fun c => { c with reads := c.reads + 1 })⟩
  · rw [execStartCountWriteBack_confirmed hphase himage, handOver_eq]
    rfl
  · rw [execStartCountWriteBack_again hphase himage hwrong hwrites]
    rfl
  · exact ⟨_, execStartCountWriteBack_fault hphase himage hwrong hwrites, configFault_state _,
      configFault_entered ((s.modClock fun c => { c with startWritten := startCountWrites (im.startCount + 1) }).modClock
        fun c => { c with writes := c.writes + 1 })⟩

end Sys2Proof.Machine
end

section
/-! PROOFS. What the entry to DARK does, part by part: the order lanes, the watch and the slots (R4, R28, R90, R118). -/

namespace Sys2Proof.Machine

-- One thread elaborates this section: the text as a whole is near the memory limit of the check.
set_option Elab.async false

/-! ### A turn for each slot -/

/-- A fold keeps what each of its turns keeps. -/
theorem foldl_invariant {α : Type} {I : State → Prop} {f : State → α → State} (h : ∀ u a, I u → I (f u a)) (l : List α)
    {s : State} (hs : I s) : I (l.foldl f s) := by
  induction l generalizing s with
  | nil => exact hs
  | cons a l ih => exact ih (h s a hs)

section
variable {β : Type} {g : State → SlotId → β} {I : State → Prop} {p : SlotId → Bool} {f : State → SlotId → State}
  {s : State} {i : SlotId}

theorem foldl_keeps_other {l : List SlotId} (hI : ∀ u j, I u → I (f u j))
    (hother : ∀ u j, I u → j ≠ i → g (f u j) i = g u i) (hl : i ∉ l) (hs : I s) : g (l.foldl f s) i = g s i := by
  induction l generalizing s with
  | nil => rfl
  | cons j l ih =>
    obtain ⟨hj, hl⟩ := not_or.mp (mt List.mem_cons.mpr hl)
    rw [List.foldl_cons, ih hl (hI s j hs), hother s j hs (Ne.symm hj)]

/-- The turn of a slot that meets `p`, taken in a state that meets an invariant of the turns, gives what stands for it after
all of them. -/
theorem forSlots_turn (hi : p i = true) (hs : I s) (hI : ∀ u j, I u → I (f u j))
    (hother : ∀ u j, I u → j ≠ i → g (f u j) i = g u i) :
    ∃ u, I u ∧ g u i = g s i ∧ g (s.forSlots p f) i = g (f u i) i := by
  obtain ⟨pre, post, hsplit⟩ := List.append_of_mem (List.mem_filter.mpr ⟨mem_allSlots i, hi⟩)
  have hnodup : (pre ++ i :: post).Nodup := hsplit ▸ (List.nodup_finRange 128).filter p
  obtain ⟨_, hright, hdisjoint⟩ := List.nodup_append.mp hnodup
  have hpre : i ∉ pre := fun h => hdisjoint i h i List.mem_cons_self rfl
  have hpost : i ∉ post := (List.nodup_cons.mp hright).1
  refine ⟨pre.foldl f s, foldl_invariant hI pre hs, foldl_keeps_other hI hother hpre hs, ?_⟩
  unfold State.forSlots
  rw [hsplit, List.foldl_append, List.foldl_cons]
  exact foldl_keeps_other hI hother hpost (hI _ i (foldl_invariant hI pre hs))

end

/-! ### The order lanes (R4) -/

theorem isEnrolment_leavesInDark {b : OrderBody} (h : b.leavesInDark = false) : b.isEnrolment = false := by
  cases b <;> simp_all [OrderBody.leavesInDark, OrderBody.isEnrolment]

/-- The watch disregards the report of an order abandoned (R116, log entry 56). -/
theorem watchReport_abandoned (s : State) (i : SlotId) (seq : BitVec 8) : s.watchReport i seq .abandoned = s := by
  unfold State.watchReport
  cases s.watch.orders.find? _ with
  | none => rfl
  | some w => cases w.hush <;> rfl

/-- The report of an order that leaves on entry to DARK changes no slot and tells the watch nothing (R116). -/
theorem report_abandoned_kept {s : State} {e : OrderEntry} (h : e.body.leavesInDark = true) :
    (s.report e .abandoned).home = s.home ∧ (s.report e .abandoned).watch = s.watch := by
  unfold State.report
  split <;> simp_all [OrderBody.leavesInDark, watchReport_abandoned]

theorem abandonWhere_tree (s : State) (p : OrderEntry → Bool) : (s.abandonWhere p).tree = (s.tree.removeWhere p).1 :=
  foldl_keeps (·.tree) _ (fun u e => (State.report_frame u e .abandoned).1) _ _

theorem abandonWhere_dark_kept (s : State) :
    (s.abandonWhere fun e => e.body.leavesInDark).home = s.home
      ∧ (s.abandonWhere fun e => e.body.leavesInDark).watch = s.watch := by
  have hleaves : ∀ e ∈ (s.tree.removeWhere fun e => e.body.leavesInDark).2, e.body.leavesInDark = true := fun e he =>
    (List.mem_append.mp he).elim (fun he => (List.mem_filter.mp he).2) fun he => (List.mem_filter.mp he).2
  exact ⟨foldl_keeps_of_mem (·.home) _ (fun u e he => (report_abandoned_kept (hleaves e he)).1) _,
    foldl_keeps_of_mem (·.watch) _ (fun u e he => (report_abandoned_kept (hleaves e he)).2) _⟩

/-! ### The watch (R118) -/

/-- The tree watch enters a state that is no search (R103, R104). -/
theorem enterWatch_quiet (s : State) {new : WatchState} (hnew : new.searching = false) :
    s.enterWatch new = (s.modWatch fun w =>
      { w with
        state := new, since := s.clock.round, retestHeld := false
        history := if w.state.searching then [] else w.history }).modSched fun d => { d with watchReq := none } := by
  unfold State.enterWatch
  dsimp only
  rw [if_neg (by simp [hnew]), hnew]
  simp only [Bool.not_false, Bool.and_true]
  rfl

/-- A slot's hushed flag turned into wake-due (R117, R118). -/
def SlotRecord.unhush (r : SlotRecord) : SlotRecord := { r with hushed := false, wakeDue := r.wakeDue || r.hushed }

theorem unhushAll_slot (s : State) (j : SlotId) :
    (s.forSlots (fun i => (s.slot i).hushed) State.hushedToWake).slot j = (s.slot j).unhush := by
  have hother : ∀ (u : State) (i : SlotId), i ≠ j → (u.hushedToWake i).slot j = u.slot j := fun u i hij => by
    unfold State.hushedToWake
    rw [State.modSlot_slot, if_neg (Ne.symm hij)]
  cases hhushed : (s.slot j).hushed with
  | false =>
    rw [forSlots_keeps_other State.slot hother hhushed]
    unfold SlotRecord.unhush
    rw [hhushed, Bool.or_false, ← hhushed]
  | true =>
    obtain ⟨u, -, hslot, hturn⟩ := forSlots_turn (g := State.slot) (I := fun _ => True)
      (p := fun i => (s.slot i).hushed) (f := State.hushedToWake) (s := s) hhushed trivial
      (fun _ _ _ => trivial) (fun u i _ => hother u i)
    rw [hturn]
    unfold State.hushedToWake SlotRecord.unhush
    rw [State.modSlot_slot, if_pos rfl, hslot, hhushed, Bool.or_true]

section
variable (s : State)

theorem watchRetreat_slot (j : SlotId) : s.watchRetreat.slot j = (s.slot j).unhush := by
  unfold State.watchRetreat
  rw [slot_congr (State.enterWatch_frame ..).1]
  exact unhushAll_slot s j

theorem watchRetreat_tree : s.watchRetreat.tree = s.tree := by
  unfold State.watchRetreat
  rw [enterWatch_quiet _ rfl]
  simp

theorem watchRetreat_watch :
    s.watchRetreat.watch = { s.watch with
      state := .clear, since := s.clock.round, retestHeld := false, history := [], locate := none, test := none
      orders := [], score := .empty, counts := Vector.replicate 128 { tail := 0, head := 0 } } := by
  unfold State.watchRetreat
  rw [enterWatch_quiet _ rfl]
  simp

theorem watchRetreat_strikes (j : SlotId) : s.watchRetreat.strikes j = { tail := 0, head := 0 } := by
  unfold State.strikes
  rw [watchRetreat_watch]
  exact replicate_get ..

end

/-! ### The slots (R28) -/

/-- What an entry to a slot state does to a hushed flag that is clear: nothing. -/
theorem enter_hushed {s : State} {i j : SlotId} {f : SlotRecord → SlotRecord} (hj : (s.slot j).hushed = false)
    (hf : (f (s.slot i)).hushed = false) : ((s.enter i f).slot j).hushed = false := by
  have htopUp : ∀ u : State, (u.topUp.slot j).hushed = (u.slot j).hushed := fun u =>
    foldl_keeps (fun u : State => (u.slot j).hushed) _ (fun u k => by
      unfold State.topUpSlot
      dsimp only
      split
      · rw [State.modSlot_slot]
        split <;> rfl
      · rfl) _ u
  have hself : (s.modSlot i f).slot i = f (s.slot i) := by simp [State.modSlot_slot]
  have hbefore : ((s.modSlot i f).slot j).hushed = false := by
    rw [State.modSlot_slot]
    split
    · next h => exact h ▸ hf
    · exact hj
  have hwatch : ∀ u : State, u.home = (s.modSlot i f).home → ∀ new,
      ((u.watchOnSlot i new).slot j).hushed = false := by
    intro u hu new
    rw [watchOnSlot_slot, slot_congr hu]
    split
    · exact Bool.and_eq_false_imp.mpr fun h => absurd hbefore (by simp [h])
    · exact hbefore
  unfold State.enter State.announce
  rw [hself]
  dsimp only
  have hrest : ∀ u : State, (((u.meterOnSlot i (s.slot i).fresh (f (s.slot i)).state).rosterOnSlot i (s.slot i).fresh
      (f (s.slot i)).state).slot j) = u.slot j := fun u => slot_congr (by simp) j
  split
  · rw [htopUp, hrest]
    exact hwatch _ (beforeWatch_home ..) _
  · rw [hrest]
    exact hwatch _ (beforeWatch_home ..) _

end Sys2Proof.Machine
end

section
/-! PROOFS. The clock monitor and the entry to DARK (O4, O5; R1, R4, R28, R49, R62, R69, R70, R90, R118, R186, R187). -/

namespace Sys2Proof.Machine

-- One thread elaborates this section: the text as a whole is near the memory limit of the check.
set_option Elab.async false

/-! ### What an entry to a slot state and a RELEASE write of the watch and of the lanes -/

section
variable (s : State) (i : SlotId) (f : SlotRecord → SlotRecord)

theorem watchOnSlot_watch_congr {s t : State} (h : t.watch = s.watch) (i : SlotId) (new : SlotState) :
    (t.watchOnSlot i new).watch = (s.watchOnSlot i new).watch := by
  have hdrop : ∀ {s t : State}, t.watch = s.watch → (t.dropMember i).watch = (s.dropMember i).watch := by
    intro s t h
    unfold State.dropMember
    rw [h]
    split
    · exact congrArg (·.dropMember i) h
    · exact h
  have hstrikes : (t.modStrikes i fun _ => { tail := 0, head := 0 }).watch =
      (s.modStrikes i fun _ => { tail := 0, head := 0 }).watch := by
    unfold State.modStrikes
    exact congrArg (fun w : Watch => { w with counts := putAt w.counts i { tail := 0, head := 0 } }) h
  unfold State.watchOnSlot
  cases new
  case free => exact hdrop hstrikes
  case assigning => exact hstrikes
  case barred => exact hdrop h
  case closing => exact hdrop h
  all_goals exact h

theorem enter_watch_stage : (s.enter i f).watch = (s.watchOnSlot i (f (s.slot i)).state).watch := by
  have hself : (s.modSlot i f).slot i = f (s.slot i) := by simp [State.modSlot_slot]
  unfold State.enter State.announce
  rw [hself]
  dsimp only
  split
  · simp only [State.topUp_frame, State.rosterOnSlot_frame, State.meterOnSlot_frame]
    exact watchOnSlot_watch_congr (by simp) ..
  · simp only [State.rosterOnSlot_frame, State.meterOnSlot_frame]
    exact watchOnSlot_watch_congr (by simp) ..

/-- With no search, an entry to a slot state writes of the watch the slot's strike counts at most, which become 0. -/
theorem enter_watch_idle (hlocate : s.watch.locate = none) :
    (s.enter i f).watch = { s.watch with counts := (s.enter i f).watch.counts }
      ∧ ∀ j, (s.enter i f).strikes j = s.strikes j ∨ (s.enter i f).strikes j = { tail := 0, head := 0 } := by
  have hmember : ∀ u : State, u.watch.locate = none → u.dropMember i = u := fun u h =>
    dropMember_of_not_member (by simp [Watch.isMember, h])
  have hreset : ∀ j, (s.modStrikes i fun _ => { tail := 0, head := 0 }).strikes j = s.strikes j
      ∨ (s.modStrikes i fun _ => { tail := 0, head := 0 }).strikes j = { tail := 0, head := 0 } := by
    intro j
    rw [State.modStrikes_strikes]
    split
    · exact .inr rfl
    · exact .inl rfl
  unfold State.strikes
  rw [enter_watch_stage]
  unfold State.watchOnSlot
  cases (f (s.slot i)).state <;> dsimp only
  case free =>
    rw [hmember _ (by exact hlocate)]
    exact ⟨rfl, hreset⟩
  case assigning => exact ⟨rfl, hreset⟩
  case barred =>
    rw [hmember _ hlocate]
    exact ⟨rfl, fun _ => .inl rfl⟩
  case closing =>
    rw [hmember _ hlocate]
    exact ⟨rfl, fun _ => .inl rfl⟩
  all_goals exact ⟨rfl, fun _ => .inl rfl⟩

/-- Of the lanes an entry to another state than ASSIGNING takes at most the slot's ASSIGN, ECHO and HOLDOFF (R31). -/
theorem enter_lanes (hnew : (f (s.slot i)).state ≠ .assigning) :
    (s.enter i f).tree = s.tree
      ∨ (s.enter i f).tree = (s.tree.removeWhere fun e => e.isFor i && e.body.isEnrolment).1 := by
  rw [enter_tree]
  unfold State.treeOnSlot
  cases h : (f (s.slot i)).state
  case assigning => exact absurd h hnew
  case active => exact .inl rfl
  case resuming => exact .inl rfl
  all_goals exact .inr rfl

theorem releaseHome_tree :
    (s.releaseHome i).tree = s.tree
      ∨ (s.releaseHome i).tree = s.tree.accept .normal .release (some (i, (s.slot i).gen)) := by
  unfold State.releaseHome
  rcases portState_cases s.tree.state with h | h
  · exact .inl (by rw [offerRelease_done (by exact h)]; rfl)
  · cases hfull : s.tree.refuses .normal (some (i, (s.slot i).gen))
    · exact .inr (by rw [offerRelease_accepted (by exact h) (by exact hfull)]; rfl)
    · exact .inl (by rw [offerRelease_refused (by exact h) (by exact hfull)]; rfl)

end

/-! ### What each slot's turn on entry to DARK keeps -/

/-- A state `u` on the way from `s` into DARK, where the port and the watch have retreated: what the turns of the slots, each
an entry to a state other than ASSIGNING, do not write (R4, R90, R118). -/
structure State.DarkFrom (s u : State) : Prop where
  port : u.tree.port = s.tree.port
  down : u.down = { s.down with flushes := u.down.flushes }
  meter : u.meter = s.meter
  clock : u.clock = s.clock
  watch : u.watch = { s.watch with counts := u.watch.counts }
  idle : s.watch.locate = none
  strikes : ∀ j, u.strikes j = { tail := 0, head := 0 }
  hushed : ∀ j, (u.slot j).hushed = false
  stays : ∀ e ∈ u.tree.urgent ++ u.tree.normal, e.body.leavesInDark = false
  urgent : ∀ e ∈ s.tree.urgent, e ∈ u.tree.urgent
  normal : ∀ e ∈ s.tree.normal, e ∈ u.tree.normal

namespace State.DarkFrom

variable {s u : State}

theorem modRoster (h : s.DarkFrom u) (f : Roster → Roster) : s.DarkFrom (u.modRoster f) :=
  ⟨h.port, h.down, h.meter, h.clock, h.watch, h.idle, h.strikes, h.hushed, h.stays, h.urgent, h.normal⟩

theorem quarantineLocal (h : s.DarkFrom u) (x : Serial) (r : BarReason) : s.DarkFrom (u.quarantineLocal x r) := by
  unfold State.quarantineLocal
  exact h.modRoster _

theorem locate_none (h : s.DarkFrom u) : u.watch.locate = none :=
  (congrArg Watch.locate h.watch).trans h.idle

theorem releaseHome (h : s.DarkFrom u) (i : SlotId) : s.DarkFrom (u.releaseHome i) where
  port := (releaseHome_port ..).trans h.port
  down := by simpa using h.down
  meter := by simpa using h.meter
  clock := by simpa using h.clock
  watch := by simpa using h.watch
  idle := h.idle
  strikes := by simpa [State.strikes] using h.strikes
  hushed := fun j => by
    rw [releaseHome_slot]
    split <;> exact h.hushed j
  stays := by
    rcases releaseHome_tree u i with htree | htree <;> rw [htree]
    · exact h.stays
    · intro e he
      rw [accept_normal, ← List.append_assoc] at he
      rcases List.mem_append.mp he with he | he
      · exact h.stays e he
      · rw [List.mem_singleton.mp he]
        rfl
  urgent := fun e he => by
    rcases releaseHome_tree u i with htree | htree <;> rw [htree]
    · exact h.urgent e he
    · exact h.urgent e he
  normal := fun e he => by
    rcases releaseHome_tree u i with htree | htree <;> rw [htree]
    · exact h.normal e he
    · exact List.mem_append_left _ (h.normal e he)

/-- An entry taken out of the lanes by an announcement is one that does not stay in DARK. -/
theorem kept_of_removed (h : s.DarkFrom u) {t : TreePort} {i : SlotId}
    (ht : t = u.tree ∨ t = (u.tree.removeWhere fun e => e.isFor i && e.body.isEnrolment).1) :
    t.urgent = u.tree.urgent ∧ t.normal = u.tree.normal := by
  have hall : ∀ e ∈ u.tree.urgent ++ u.tree.normal, (!(e.isFor i && e.body.isEnrolment)) = true := fun e he => by
    rw [isEnrolment_leavesInDark (h.stays e he), Bool.and_false]
    rfl
  rcases ht with rfl | rfl
  · exact ⟨rfl, rfl⟩
  · exact ⟨List.filter_eq_self.mpr fun e he => hall e (List.mem_append_left _ he),
      List.filter_eq_self.mpr fun e he => hall e (List.mem_append_right _ he)⟩

theorem enter (h : s.DarkFrom u) {i : SlotId} {f : SlotRecord → SlotRecord}
    (hnew : (f (u.slot i)).state ≠ .assigning ∧ (f (u.slot i)).state ≠ .active ∧ (f (u.slot i)).state ≠ .barred)
    (hhushed : (f (u.slot i)).hushed = false) : s.DarkFrom (u.enter i f) := by
  obtain ⟨hassigning, hactive, hbarred⟩ := hnew
  obtain ⟨hwatch, hstrikes⟩ := enter_watch_idle u i f h.locate_none
  obtain ⟨hurgent, hnormal⟩ := h.kept_of_removed (enter_lanes u i f hassigning)
  exact {
    port := (enter_port ..).trans h.port
    down := by
      rw [enter_down, downOnSlot_down _ _ hassigning]
      simp only [State.modSlot_down]
      rw [h.down]
    meter := (enter_meter u i f (.inl ⟨hactive, hbarred⟩)).trans h.meter
    clock := by simpa using h.clock
    watch := by rw [hwatch, h.watch]
    idle := h.idle
    strikes := fun j => (hstrikes j).elim (·.trans (h.strikes j)) id
    hushed := fun j => enter_hushed (h.hushed j) hhushed
    stays := by rw [hurgent, hnormal]; exact h.stays
    urgent := by rw [hurgent]; exact h.urgent
    normal := by rw [hnormal]; exact h.normal }

theorem closeSlot (h : s.DarkFrom u) (i : SlotId) (reason : CloseReason) : s.DarkFrom (u.closeSlot i reason) := by
  rw [closeSlot_eq]
  exact ((h.enter (f := (·.close reason)) ⟨nofun, nofun, nofun⟩ (h.hushed i)).releaseHome i).modRoster _

theorem loseSlot (h : s.DarkFrom u) (i : SlotId) : s.DarkFrom (u.loseSlot i) := by
  have hlose := h.enter (i := i) (f := (·.lose (u.lostFrom i))) ⟨nofun, nofun, nofun⟩ (h.hushed i)
  rw [loseSlot_eq]
  split
  · exact hlose.closeSlot i .lost
  · exact hlose

theorem abandonAssignment (h : s.DarkFrom u) (i : SlotId) : s.DarkFrom (u.abandonAssignment i) := by
  unfold State.abandonAssignment State.freeSlot
  dsimp only
  refine releaseHome (enter ?_ (by simp [freed_state]) rfl) i
  split
  · exact h.quarantineLocal ..
  · exact h

theorem darkSlot (h : s.DarkFrom u) (i : SlotId) : s.DarkFrom (u.darkSlot i) := by
  have hresume := h.enter (i := i) (f := fun r => { r with state := .resuming }) (by simp) (h.hushed i)
  unfold State.darkSlot
  split
  · exact hresume
  · exact hresume
  · split
    · exact h.loseSlot i
    · exact h.abandonAssignment i
  all_goals exact h

end State.DarkFrom

end Sys2Proof.Machine
end

section
/-! PROOFS. The entry to DARK (O5; R4, R28, R49, R62, R69, R70, R90, R118). -/

namespace Sys2Proof.Machine

-- One thread elaborates this section: the text as a whole is near the memory limit of the check.
set_option Elab.async false

/-! ### Fields of a record's core -/

namespace SlotRecord

variable {r k : SlotRecord} (h : r.core = k.core)
include h

theorem state_of_core : r.state = k.state := (congrArg SlotRecord.state h :)
theorem serial_of_core : r.serial = k.serial := (congrArg SlotRecord.serial h :)
theorem gen_of_core : r.gen = k.gen := (congrArg SlotRecord.gen h :)
theorem rejoin_of_core : r.rejoin = k.rejoin := (congrArg SlotRecord.rejoin h :)
theorem wakeDue_of_core : r.wakeDue = k.wakeDue := (congrArg SlotRecord.wakeDue h :)
theorem lostSince_of_core : r.lostSince = k.lostSince := (congrArg SlotRecord.lostSince h :)
theorem silent_of_core : r.silent = k.silent := (congrArg SlotRecord.silent h :)
theorem closeReason_of_core : r.closeReason = k.closeReason := (congrArg SlotRecord.closeReason h :)
theorem releasePending_of_core : r.releasePending = k.releasePending := (congrArg SlotRecord.releasePending h :)

end SlotRecord

/-! ### The port and the watch retreat -/

/-- The part where the order port and the watch have retreated into DARK, the slots not yet (R4, R118, log entry 37). -/
def State.retreated (s : State) : State :=
  ((s.endTransmission.modTree fun t => { t with state := .dark, issued := [] }).abandonWhere fun e =>
    e.body.leavesInDark).watchRetreat

section
variable (s : State)

/-- The part once each slot has taken its turn (R28). -/
def State.darkTurns (s : State) : State :=
  s.retreated.forSlots (fun i => (s.retreated.slot i).state != .free) State.darkSlot

theorem enterDark_eq :
    s.enterDark = (s.darkTurns.modEnrol Enrolment.lost).modSched Scheduler.darkened := rfl

theorem enterDark_turns :
    s.enterDark.home = s.darkTurns.home ∧ s.enterDark.tree = s.darkTurns.tree ∧ s.enterDark.down = s.darkTurns.down
      ∧ s.enterDark.watch = s.darkTurns.watch ∧ s.enterDark.meter = s.darkTurns.meter := by
  rw [enterDark_eq]
  simp

theorem enterDark_emptied :
    s.enterDark.sched = s.darkTurns.sched.darkened ∧ s.enterDark.enrol = s.darkTurns.enrol.lost := by
  rw [enterDark_eq]
  generalize s.darkTurns = u
  exact ⟨rfl, rfl⟩

theorem enterDark_slot (i : SlotId) : s.enterDark.slot i = s.darkTurns.slot i := slot_congr (enterDark_turns s).1 i

theorem endTransmission_down :
    s.endTransmission.down.txBlocks = 0 ∧ s.endTransmission.down.free = s.down.free + s.down.txBlocks := by
  unfold State.endTransmission
  dsimp only
  split
  · next h => exact ⟨h, by rw [h]; rfl⟩
  · exact ⟨rfl, rfl⟩

theorem endTransmission_tree : s.endTransmission.tree = { s.tree with txRound := none } := by
  unfold State.endTransmission
  dsimp only
  split <;> rfl

theorem retreated_slot (j : SlotId) : s.retreated.slot j = (s.slot j).unhush := by
  unfold State.retreated
  rw [watchRetreat_slot, slot_congr (abandonWhere_dark_kept _).1]
  exact congrArg SlotRecord.unhush (slot_congr (State.endTransmission_frame s).1 j)

theorem retreated_tree :
    s.retreated.tree =
      (({ s.tree with txRound := none, state := .dark, issued := [] } : TreePort).removeWhere fun e =>
        e.body.leavesInDark).1 := by
  unfold State.retreated
  rw [watchRetreat_tree, abandonWhere_tree]
  exact congrArg (fun t : TreePort => (({ t with state := .dark, issued := [] } : TreePort).removeWhere fun e =>
    e.body.leavesInDark).1) (endTransmission_tree s)

theorem retreated_down : s.retreated.down = s.endTransmission.down := by simp [State.retreated]

theorem retreated_watch :
    s.retreated.watch.state = .clear ∧ s.retreated.watch.b16 = s.watch.b16 ∧ s.retreated.watch.history = []
      ∧ s.retreated.watch.test = none ∧ s.retreated.watch.locate = none := by
  unfold State.retreated
  rw [watchRetreat_watch, (abandonWhere_dark_kept _).2]
  simp

theorem retreated_kept : s.retreated.clock = s.clock ∧ s.retreated.meter = s.meter := by simp [State.retreated]

theorem retreated_darkFrom : s.retreated.DarkFrom s.retreated where
  port := rfl
  down := rfl
  meter := rfl
  clock := rfl
  watch := rfl
  idle := (retreated_watch s).2.2.2.2
  strikes := watchRetreat_strikes _
  hushed := fun j => by rw [retreated_slot]; rfl
  stays := by
    rw [retreated_tree]
    intro e he
    have hkeep : ∀ l : List OrderEntry, e ∈ l.filter (fun e => !e.body.leavesInDark) → e.body.leavesInDark = false :=
      fun l he => by simpa using List.of_mem_filter he
    exact (List.mem_append.mp he).elim (hkeep _) (hkeep _)
  urgent := fun _ => id
  normal := fun _ => id

end

/-! ### The turn of one slot (R28) -/

section
variable {u : State} {i : SlotId}

theorem loseSlot_wakeDue (u : State) (i : SlotId) : ((u.loseSlot i).slot i).wakeDue = (u.slot i).wakeDue := by
  rcases Nat.lt_or_ge (u.clock.round - (u.lostFrom i).round).toNat 240000 with h | h
  · rw [loseSlot_slot_recent u i h]
    rfl
  · rw [loseSlot_of_old u i h, closeSlot_slot_self, enter_lose_slot, if_pos rfl]
    rfl

theorem abandonAssignment_core_other (u : State) {j : SlotId} (hj : j ≠ i) :
    ((u.abandonAssignment i).slot j).core = (u.slot j).core := by
  unfold State.abandonAssignment
  rw [releaseHome_slot, if_neg hj]
  obtain ⟨v, hfree, hv⟩ := freeSlot_eq u i
  rw [hfree, enter_core, if_neg hj, slot_congr (s := u) (by rw [hv])]

theorem darkSlot_core_other (u : State) {j : SlotId} (hj : j ≠ i) :
    ((u.darkSlot i).slot j).core = (u.slot j).core := by
  have hresume : ((u.enter i fun r => { r with state := .resuming }).slot j).core = (u.slot j).core := by
    rw [enter_core, if_neg hj]
  unfold State.darkSlot
  split
  · exact hresume
  · exact hresume
  · split
    · rw [loseSlot_slot_other _ _ hj]
    · exact abandonAssignment_core_other u hj
  all_goals rfl

theorem darkSlot_resume (h : (u.slot i).state = .active ∨ (u.slot i).state = .lost) :
    ((u.darkSlot i).slot i).core = ({ u.slot i with state := .resuming } : SlotRecord).core := by
  have hturn : u.darkSlot i = u.enter i fun r => { r with state := .resuming } := by
    unfold State.darkSlot
    rcases h with h | h <;> rw [h]
  rw [hturn, enter_core_self]

theorem darkSlot_abandon (hstate : (u.slot i).state = .assigning) (hnew : (u.slot i).rejoin = false)
    (hdark : u.tree.state = .dark) :
    (u.darkSlot i).slot i = { (u.slot i).freed with releasePending := true } := by
  have hturn : u.darkSlot i = u.abandonAssignment i := by
    unfold State.darkSlot
    rw [hstate]
    exact if_neg (by simp [hnew])
  rw [hturn, abandonAssignment_slot_self, hdark]
  rfl

theorem darkSlot_lose (hstate : (u.slot i).state = .assigning) (hrejoin : (u.slot i).rejoin = true) :
    u.darkSlot i = u.loseSlot i := by
  unfold State.darkSlot
  rw [hstate]
  exact if_pos hrejoin

theorem darkSlot_kept (h : (u.slot i).state = .resuming ∨ (u.slot i).state = .barred ∨ (u.slot i).state = .closing) :
    u.darkSlot i = u := by
  unfold State.darkSlot
  rcases h with h | h | h <;> rw [h]

end

/-! ### The slots after the entry to DARK -/

section
variable (s : State)

/-- What the slots' turns leave, whichever state each slot was in. -/
theorem darkTurns_darkFrom : s.retreated.DarkFrom s.darkTurns :=
  foldl_invariant (fun _ i h => h.darkSlot i) _ (retreated_darkFrom s)

theorem darkTurns_port : s.darkTurns.tree.port = { s.tree.port with txRound := none, state := .dark, issued := [] } := by
  rw [(darkTurns_darkFrom s).port, retreated_tree]
  rfl

theorem enterDark_meter : s.enterDark.meter = s.meter := by
  rw [(enterDark_turns s).2.2.2.2, (darkTurns_darkFrom s).meter, (retreated_kept s).2]

/-- A slot that is FREE keeps its record, but for the flags of R118; it takes no turn. -/
theorem enterDark_slot_free {i : SlotId} (h : (s.slot i).state = .free) : (s.enterDark.slot i).state = .free := by
  have hstill : (s.retreated.slot i).state = .free := by rw [retreated_slot]; exact h
  rw [enterDark_slot]
  have hkept := forSlots_keeps_other (fun u j => (u.slot j).core) (p := fun i => (s.retreated.slot i).state != .free)
    (f := State.darkSlot) (i := i) (fun u j hj => darkSlot_core_other u (Ne.symm hj)) (by simp [hstill]) s.retreated
  exact (SlotRecord.state_of_core hkept).trans hstill

/-- The record of a slot that is held, by its own turn. -/
theorem enterDark_slot_held {i : SlotId} (h : (s.slot i).state ≠ .free) :
    ∃ u, s.retreated.DarkFrom u ∧ (u.slot i).core = (s.slot i).unhush.core
      ∧ (s.enterDark.slot i).core = ((u.darkSlot i).slot i).core := by
  rw [enterDark_slot]
  have hheld : (s.retreated.slot i).state ≠ .free := by rw [retreated_slot]; exact h
  obtain ⟨u, hu, hslot, hturn⟩ := forSlots_turn (g := fun u j => (u.slot j).core) (I := s.retreated.DarkFrom)
    (p := fun i => (s.retreated.slot i).state != .free) (f := State.darkSlot) (s := s.retreated) (i := i)
    (by simpa using hheld) (retreated_darkFrom s) (fun u j h => h.darkSlot j)
    (fun u j _ hj => darkSlot_core_other u (Ne.symm hj))
  exact ⟨u, hu, by rw [hslot, retreated_slot], hturn⟩

variable {s} {i : SlotId}

theorem enterDark_slot_resume (h : (s.slot i).state = .active ∨ (s.slot i).state = .lost) :
    (s.enterDark.slot i).core = ({ (s.slot i).unhush with state := .resuming } : SlotRecord).core := by
  obtain ⟨u, -, hslot, hturn⟩ := enterDark_slot_held s (i := i) (by rcases h with h | h <;> simp [h])
  have hstate : (u.slot i).state = (s.slot i).state := (SlotRecord.state_of_core hslot).trans rfl
  rw [hturn, darkSlot_resume (by rwa [hstate])]
  exact congrArg (fun r : SlotRecord => { r with state := .resuming }) hslot

theorem enterDark_slot_abandon (hstate : (s.slot i).state = .assigning) (hnew : (s.slot i).rejoin = false) :
    (s.enterDark.slot i).core =
      ({ SlotRecord.reset with gen := (s.slot i).gen, releasePending := true } : SlotRecord).core := by
  obtain ⟨u, hu, hslot, hturn⟩ := enterDark_slot_held s (i := i) (by simp [hstate])
  have hdark : u.tree.state = .dark := by
    refine (congrArg TreePort.state hu.port :).trans ?_
    rw [retreated_tree]
    rfl
  have hgen : (u.slot i).gen = (s.slot i).gen := (SlotRecord.gen_of_core hslot).trans rfl
  rw [hturn, darkSlot_abandon ((SlotRecord.state_of_core hslot).trans hstate)
    ((SlotRecord.rejoin_of_core hslot).trans hnew) hdark, ← hgen]
  rfl

/-- A rejoin is LOST, or CLOSING where it has been lost for 240,000 rounds. -/
theorem enterDark_slot_lose (hstate : (s.slot i).state = .assigning) (hrejoin : (s.slot i).rejoin = true) :
    (s.enterDark.slot i).serial = (s.slot i).serial ∧ (s.enterDark.slot i).gen = (s.slot i).gen
      ∧ (s.enterDark.slot i).lostSince = some (s.lostFrom i)
      ∧ (s.enterDark.slot i).wakeDue = ((s.slot i).wakeDue || (s.slot i).hushed)
      ∧ ((s.clock.round - (s.lostFrom i).round).toNat < 240000 →
        (s.enterDark.slot i).state = .lost ∧ (s.enterDark.slot i).silent = 4)
      ∧ (240000 ≤ (s.clock.round - (s.lostFrom i).round).toNat →
        (s.enterDark.slot i).state = .closing ∧ (s.enterDark.slot i).closeReason = some .lost) := by
  obtain ⟨u, hu, hslot, hturn⟩ := enterDark_slot_held s (i := i) (by simp [hstate])
  rw [darkSlot_lose ((SlotRecord.state_of_core hslot).trans hstate)
    ((SlotRecord.rejoin_of_core hslot).trans hrejoin)] at hturn
  have hclock : u.clock = s.clock := hu.clock.trans (retreated_kept s).1
  have hfrom : u.lostFrom i = s.lostFrom i := by
    unfold State.lostFrom
    rw [hclock, SlotRecord.lostSince_of_core hslot]
    rfl
  have hserial : (u.slot i).serial = (s.slot i).serial := (SlotRecord.serial_of_core hslot).trans rfl
  have hgen : (u.slot i).gen = (s.slot i).gen := (SlotRecord.gen_of_core hslot).trans rfl
  have hwake : (s.enterDark.slot i).wakeDue = ((s.slot i).wakeDue || (s.slot i).hushed) :=
    (SlotRecord.wakeDue_of_core hturn).trans ((loseSlot_wakeDue u i).trans (SlotRecord.wakeDue_of_core hslot))
  have hround : u.clock.round = s.clock.round := congrArg Clock.round hclock
  rcases Nat.lt_or_ge (s.clock.round - (s.lostFrom i).round).toNat 240000 with h | h
  · rw [loseSlot_slot_recent u i (by rwa [hround, hfrom]), hfrom] at hturn
    exact ⟨(SlotRecord.serial_of_core hturn).trans hserial, (SlotRecord.gen_of_core hturn).trans hgen,
      (SlotRecord.lostSince_of_core hturn), hwake,
      fun _ => ⟨(SlotRecord.state_of_core hturn), (SlotRecord.silent_of_core hturn)⟩,
      fun hold => absurd h (Nat.not_lt.mpr hold)⟩
  · obtain ⟨hclosing, hreason, hsince, hkeptSerial, hkeptGen⟩ := loseSlot_slot_old u i (by rwa [hround, hfrom])
    exact ⟨(SlotRecord.serial_of_core hturn).trans (hkeptSerial.trans hserial),
      (SlotRecord.gen_of_core hturn).trans (hkeptGen.trans hgen),
      (SlotRecord.lostSince_of_core hturn).trans (hsince.trans (by rw [hfrom])), hwake,
      fun hrecent => absurd h (Nat.not_le.mpr hrecent),
      fun _ => ⟨(SlotRecord.state_of_core hturn).trans hclosing, (SlotRecord.closeReason_of_core hturn).trans hreason⟩⟩

theorem enterDark_slot_kept
    (h : (s.slot i).state = .resuming ∨ (s.slot i).state = .barred ∨ (s.slot i).state = .closing) :
    (s.enterDark.slot i).core = (s.slot i).unhush.core := by
  obtain ⟨u, -, hslot, hturn⟩ := enterDark_slot_held s (i := i) (by rcases h with h | h | h <;> simp [h])
  have hstate : (u.slot i).state = (s.slot i).state := (SlotRecord.state_of_core hslot).trans rfl
  rw [hturn, darkSlot_kept (by rwa [hstate]), hslot]

end

/-! ### The line clock fails (R1, R186) -/

section
variable {s : State}

theorem execLineClockFailure_of (h : s.tree.state ≠ .off) :
    exec .lineClockFailure s =
      .next ((s.modClock fun c => { c.restartCount with osc := .internal }).failTree.noteFailure) := if_neg h

theorem failTree_lit (h : s.tree.state = .lit) : s.failTree = s.enterDark := by
  unfold State.failTree
  rw [h]

end

/-- Settles O5: the port, the watch, the slots, the enrolment engine and the planner on entry to DARK. -/
theorem darkEntryClears : Obligations.DarkEntryClears := by
  unfold Obligations.DarkEntryClears
  intro s hlit
  rw [execLineClockFailure_of (by simp [hlit]), failTree_lit (by exact hlit)]
  generalize hu : (s.modClock fun c => { c.restartCount with osc := .internal }) = u
  have hblocks : u.home = s.home ∧ u.tree = s.tree ∧ u.down = s.down ∧ u.watch = s.watch
      ∧ u.clock.round = s.clock.round ∧ u.clock.time = s.clock.time := by
    rw [← hu]
    exact ⟨rfl, rfl, rfl, rfl, rfl, rfl⟩
  obtain ⟨hhome, htree, hdown, hwatch, hround, htime⟩ := hblocks
  have hslot := slot_congr hhome
  have hfrom : ∀ i, u.lostFrom i = s.lostFrom i := fun i => by
    unfold State.lostFrom
    rw [hslot, hround, htime]
  have hlanes := retreated_tree u
  have hdark := darkTurns_darkFrom u
  have hport := darkTurns_port u
  obtain ⟨hclear, hb16, hhistory, htest, hlocate⟩ := retreated_watch u
  obtain ⟨htx, hfree⟩ := endTransmission_down u
  obtain ⟨-, vtree, vdown, vwatch, -⟩ := enterDark_turns u
  obtain ⟨vsched, venrol⟩ := enterDark_emptied u
  have vslot := enterDark_slot u
  have hresume := fun i => enterDark_slot_resume (s := u) (i := i)
  have habandon := fun i => enterDark_slot_abandon (s := u) (i := i)
  have hlose := fun i => enterDark_slot_lose (s := u) (i := i)
  have hkept := fun i => enterDark_slot_kept (s := u) (i := i)
  have hstill := fun i => enterDark_slot_free u (i := i)
  generalize hturns : u.darkTurns = d at hdark hport vtree vdown vwatch vsched venrol vslot
  generalize hv : u.enterDark = v at vtree vdown vwatch vsched venrol vslot hresume habandon hlose hkept hstill
  have hnote : ∀ i, v.noteFailure.slot i = v.slot i := slot_congr (by simp)
  refine ⟨_, rfl, ?_, ?_, fun i => ?_, ?_, ?_, fun i h => ?_, fun i h hnew => ?_, fun i h hrejoin => ?_, fun i h => ?_,
    fun i => ?_, fun i hheld => ?_, ?_, fun e he hstay => ?_, fun e he hstay => ?_⟩
  · simp only [State.noteFailure_frame, vtree, vdown]
    rw [hdark.down, retreated_down]
    exact ⟨(congrArg TreePort.issued hport :), (congrArg TreePort.txRound hport :), htx, by rw [hfree, hdown]⟩
  · simp only [State.noteFailure_frame, vsched]
    exact ⟨rfl, rfl, rfl, rfl⟩
  · unfold State.demand
    simp only [State.noteFailure_frame, vsched]
    simp [Scheduler.darkened]
  · have hstrikes : ∀ i, v.noteFailure.strikes i = d.strikes i := fun i => by
      simp only [State.strikes, State.noteFailure_frame, vwatch]
    simp only [State.noteFailure_frame, hstrikes, vwatch]
    rw [hdark.watch]
    exact ⟨hclear, hb16.trans (congrArg Watch.b16 hwatch), hhistory, htest, hlocate, hdark.strikes⟩
  · simp only [State.noteFailure_frame, venrol]
    exact ⟨rfl, rfl, rfl, rfl⟩
  · have hcore := hresume i (by rwa [hslot])
    rw [hslot] at hcore
    rw [hnote]
    exact ⟨(SlotRecord.state_of_core hcore).trans rfl, (SlotRecord.serial_of_core hcore).trans rfl, (SlotRecord.gen_of_core hcore).trans rfl,
      (SlotRecord.lostSince_of_core hcore).trans rfl⟩
  · have hcore := habandon i (by rwa [hslot]) (by rwa [hslot])
    rw [hslot] at hcore
    rw [hnote]
    exact ⟨(SlotRecord.state_of_core hcore).trans rfl, (SlotRecord.gen_of_core hcore).trans rfl, (SlotRecord.releasePending_of_core hcore).trans rfl⟩
  · obtain ⟨hserial, hgen, hsince, -, hlost, hclosing⟩ := hlose i (by rwa [hslot]) (by rwa [hslot])
    rw [hslot] at hserial hgen
    rw [hfrom] at hsince
    rw [hround, hfrom] at hlost hclosing
    rw [hnote]
    refine ⟨hserial, hgen, fun hnone => ?_, fun l hl => ?_⟩
    · obtain ⟨hstate, hsilent⟩ := hlost (recent_of_none hnone)
      rw [lostFrom_of_none hnone] at hsince
      exact ⟨hstate, hsilent, hsince⟩
    · rw [lostFrom_of_some hl] at hsince hlost hclosing
      exact ⟨hsince, hlost, hclosing⟩
  · rw [hnote]
    rcases h with h | h
    · exact (hstill i (by rwa [hslot])).trans h.symm
    · have hcore := hkept i (by rwa [hslot])
      rw [hslot] at hcore
      exact (SlotRecord.state_of_core hcore).trans rfl
  · rw [hnote, vslot]
    exact hdark.hushed i
  · rw [hnote] at hheld ⊢
    cases hstate : (s.slot i).state
    case free => exact absurd (hstill i (by rwa [hslot])) hheld
    case assigning =>
      cases hrejoin : (s.slot i).rejoin
      · exact absurd (SlotRecord.state_of_core (habandon i (by rwa [hslot]) (by rwa [hslot]))) hheld
      · rw [← hslot]
        exact (hlose i (by rwa [hslot]) (by rwa [hslot])).2.2.2.1
    case active =>
      rw [← hslot]
      exact SlotRecord.wakeDue_of_core (hresume i (.inl (by rwa [hslot])))
    case lost =>
      rw [← hslot]
      exact SlotRecord.wakeDue_of_core (hresume i (.inr (by rwa [hslot])))
    all_goals
      rw [← hslot]
      exact SlotRecord.wakeDue_of_core (hkept i (by rw [hslot]; simp [hstate]))
  · simp only [State.noteFailure_frame, vtree]
    exact hdark.stays
  · simp only [State.noteFailure_frame, vtree]
    refine hdark.urgent e ?_
    rw [hlanes]
    exact List.mem_filter.mpr ⟨by rwa [htree], by simp [hstay]⟩
  · simp only [State.noteFailure_frame, vtree]
    refine hdark.normal e ?_
    rw [hlanes]
    exact List.mem_filter.mpr ⟨by rwa [htree], by simp [hstay]⟩

end Sys2Proof.Machine
end

section
/-! PROOFS. The clock monitor (O4; R1, R2, R46, R62, R99, R186, R187). -/

namespace Sys2Proof.Machine

-- One thread elaborates this section: the text as a whole is near the memory limit of the check.
set_option Elab.async false

/-! ### A failure noted, and the line oscillator switched in (R186, R187) -/

section
variable {s : State}

theorem noteFailure_again (h : s.clock.failed = true) : s.noteFailure = s := if_pos h

theorem noteFailure_first (h : s.clock.failed = false) :
    s.noteFailure = (s.modClock fun c => { c with failed := true }).raise .clockFail [] := if_neg (by simp [h])

theorem noteFailure_clock (s : State) : s.noteFailure.clock = { s.clock with failed := true } := by
  cases h : s.clock.failed
  · rw [noteFailure_first h]
    simp
  · rw [noteFailure_again h, ← h]

/-- CLOCK_RESTORED is raised where the failed mark was set, and nothing is said where it was not (R187). -/
theorem switchIn_spec (s : State) :
    ∃ l, s.switchIn = { s with
          clock := { s.clock with osc := .line, failed := false, edges := 4096, edgeLatch := true }, link := l }
      ∧ (s.clock.failed = true → s.Raised { s with link := l } .clockRestored [])
      ∧ (s.clock.failed = false → l = s.link) := by
  unfold State.switchIn
  dsimp only
  cases h : s.clock.failed
  · rw [if_neg (by simp [h])]
    refine ⟨s.link, ?_, nofun, fun _ => rfl⟩
    rw [← h]
    rfl
  · rw [if_pos (by simp [h])]
    refine ⟨_, rfl, fun _ => ?_, nofun⟩
    exact ((raised_raise _ .clockRestored []).of_congr rfl rfl rfl rfl rfl).congr_right rfl

end

/-! ### The tree port on a failure (R1) -/

section
variable {s : State}

theorem failTree_calibrating (h : s.tree.state = .calibrating) :
    s.failTree = (s.modTree fun t => { t with state := .starting, holdStart := none, sampling := false }).modWatch fun w =>
      { w with calib := [] } := by
  unfold State.failTree
  rw [h]

theorem failTree_waiting (h : s.tree.state = .off ∨ s.tree.state = .starting ∨ s.tree.state = .dark) :
    s.failTree = s := by
  unfold State.failTree
  rcases h with h | h | h <;> rw [h]

theorem enterDark_tree_state (s : State) : s.enterDark.tree.state = .dark := by
  have hport := darkTurns_port s
  rw [(enterDark_turns s).2.1]
  generalize s.darkTurns = d at hport
  exact (congrArg TreePort.state hport :)

/-- The tree port's state after a failure. -/
theorem failTree_tree_state (s : State) :
    (s.tree.state = .calibrating ∨ s.tree.state = .starting → s.failTree.tree.state = .starting)
      ∧ (s.tree.state = .lit ∨ s.tree.state = .dark → s.failTree.tree.state = .dark) := by
  refine ⟨fun h => ?_, fun h => ?_⟩
  · rcases h with h | h
    · rw [failTree_calibrating h]
      rfl
    · rw [failTree_waiting (.inr (.inl h)), h]
  · rcases h with h | h
    · rw [failTree_lit h, enterDark_tree_state]
    · rw [failTree_waiting (.inr (.inr h)), h]

/-- Out of LIT a failure changes the tree port and the samples of a calibration only. -/
theorem failTree_unlit (h : s.tree.state ≠ .lit) :
    s.failTree.home = s.home ∧ s.failTree.enrol = s.enrol ∧ s.failTree.sched = s.sched ∧ s.failTree.down = s.down
      ∧ s.failTree.meter = s.meter := by
  cases hstate : s.tree.state
  case lit => exact absurd hstate h
  case calibrating =>
    rw [failTree_calibrating hstate]
    exact ⟨rfl, rfl, rfl, rfl, rfl⟩
  all_goals
    rw [failTree_waiting (by simp [hstate])]
    exact ⟨rfl, rfl, rfl, rfl, rfl⟩

theorem failTree_meter (s : State) : s.failTree.meter = s.meter := by
  by_cases h : s.tree.state = .lit
  · rw [failTree_lit h, enterDark_meter]
  · exact (failTree_unlit h).2.2.2.2

end

/-! ### Entry to LIT: the exchanges begun (R62) -/

section
variable {s : State} {i : SlotId}

/-- A RESUME exchange begins for a slot that is RESUMING. -/
theorem enterLit_echo_resuming (h : (s.slot i).state = .resuming) :
    (s.enterLit.echo i).purpose = some .resume ∧ (s.enterLit.echo i).phase = some .waiting
      ∧ (s.enterLit.echo i).misses = 0 := by
  obtain ⟨u, -, -, hturn⟩ := forSlots_turn (g := State.echo) (I := fun _ => True)
    (p := fun j => (s.slot j).state == .resuming) (f := fun u j => u.startExchange j .resume)
    (s := (s.modTree fun t => { t with state := .lit, holdStart := none, sampling := false }).modRoll fun r =>
      { r with counter := 16 }) (i := i) (by simp [h]) trivial (fun _ _ _ => trivial)
    (fun u j _ hj => startExchange_echo_other u j i .resume (Ne.symm hj))
  have hbegun := startExchange_echo u i .resume
  rw [← hturn] at hbegun
  exact ⟨(congrArg EchoRecord.purpose hbegun :), (congrArg EchoRecord.phase hbegun :),
    (congrArg EchoRecord.misses hbegun :)⟩

theorem enterLit_echo_other (h : (s.slot i).state ≠ .resuming) : s.enterLit.echo i = s.echo i :=
  forSlots_keeps_other (p := fun j => (s.slot j).state == .resuming) (f := fun u j => u.startExchange j .resume)
    State.echo (fun u j hj => startExchange_echo_other u j i .resume (Ne.symm hj)) (by simpa using h)
    ((s.modTree fun t => { t with state := .lit, holdStart := none, sampling := false }).modRoll fun r =>
      { r with counter := 16 })

end

/-! ### The counts complete (R187) -/

section
variable {s : State}

theorem execStartCountComplete_starting (h : s.tree.state = .starting) :
    exec .startCountComplete s = .next s.switchIn.enterCalibrating := if_pos h

theorem execRestoreCountComplete_recal (h : s.tree.state = .dark) (hdue : s.tree.recalDue = true) :
    exec .restoreCountComplete s =
      .next (s.switchIn.modTree fun t => { t with recalDue := false }).enterCalibrating := by
  show execRestoreCountComplete s = _
  rw [execRestoreCountComplete, if_pos h, if_pos hdue]

theorem execRestoreCountComplete_lit (h : s.tree.state = .dark) (hdue : s.tree.recalDue = false) :
    exec .restoreCountComplete s = .next s.switchIn.enterLit := by
  show execRestoreCountComplete s = _
  rw [execRestoreCountComplete, if_pos h, if_neg (by simp [hdue])]

end

/-- Settles O4: the failure and the counts of the clock monitor, state by state of the tree port. -/
theorem clockMonitorMoves : Obligations.ClockMonitorMoves := by
  unfold Obligations.ClockMonitorMoves
  refine ⟨fun s => ⟨fun hoff => if_pos hoff, fun hrunning => ?_⟩, fun s => ?_⟩
  · refine ⟨_, execLineClockFailure_of hrunning, ?_⟩
    generalize hu : (s.modClock fun c => { c.restartCount with osc := .internal }) = u
    have hblocks : u = { s with clock := { s.clock with osc := .internal, edges := 0, edgeLatch := false } } := by
      rw [← hu]
      rfl
    obtain ⟨hstarting, hdark⟩ := failTree_tree_state u
    have hfailed : u.failTree.clock.failed = s.clock.failed := by simp [hblocks]
    refine ⟨?_, fun h => ?_, fun h => ?_, fun h => ?_, fun h => ?_, fun h => ?_, fun h => ?_, ?_, ?_, ?_, ?_⟩
    · rw [noteFailure_clock]
      simp [hblocks]
    · rw [noteFailure_again (hfailed.trans h)]
      simp [hblocks]
    · rw [noteFailure_first (hfailed.trans h)]
      exact (raised_raise _ .clockFail []).of_congr (by simp [hblocks]) (by simp [hblocks]) (by simp [hblocks])
        (by simp [hblocks]) (by simp [hblocks])
    · simpa using hstarting (by rwa [hblocks])
    · simpa using hdark (by rwa [hblocks])
    · rw [failTree_calibrating (by rwa [hblocks])]
      simp [hblocks]
    · obtain ⟨hhome, henrol, hsched, hdown, -⟩ := failTree_unlit (s := u) (by rwa [hblocks])
      simp only [State.noteFailure_frame, hhome, henrol, hsched, hdown]
      simp [hblocks]
    · simp [failTree_meter, hblocks]
    · simp [hblocks]
    · simp [hblocks]
    · simp [hblocks]
  · obtain ⟨l, hswitch, hraised, hquiet⟩ := switchIn_spec s
    refine ⟨fun hstate => ⟨_, execStartCountComplete_starting hstate, ?_⟩,
      fun hstate hdue => ⟨_, execRestoreCountComplete_recal hstate hdue, ?_⟩,
      fun hstate hdue => ⟨_, execRestoreCountComplete_lit hstate hdue, ?_⟩⟩
    · rw [hswitch]
      exact ⟨rfl, fun h => (hraised h).congr_right rfl, hquiet⟩
    · rw [hswitch]
      exact ⟨rfl, fun h => (hraised h).congr_right rfl, hquiet⟩
    · rw [hswitch]
      generalize hu : ({ s with clock := _, link := l } : State) = u
      have hblocks : u.home = s.home ∧ u.enrol = s.enrol ∧ u.watch = s.watch ∧ u.down = s.down ∧ u.meter = s.meter
          ∧ u.journal = s.journal ∧ u.roster = s.roster ∧ u.link = l
          ∧ u.clock = { s.clock with osc := .line, failed := false, edges := 4096, edgeLatch := true } := by
        rw [← hu]
        exact ⟨rfl, rfl, rfl, rfl, rfl, rfl, rfl, rfl, rfl⟩
      obtain ⟨hhome, henrol, hwatch, hdown, hmeter, hjournal, hroster, hlink, hclock⟩ := hblocks
      have hslot := slot_congr hhome
      obtain ⟨hlit, hroll⟩ := enterLit_kept u
      refine ⟨by simp [hclock], ⟨fun h => (hraised h).congr_right (by simp [hlink]), fun h => ?_⟩, hlit, ?_,
        by simp [hhome], by simp [hwatch], by simp [hdown], by simp [hmeter], by simp [hjournal], by simp [hroster],
        fun i h => enterLit_echo_resuming (by rwa [hslot]), fun i h => ?_⟩
      · simp [hlink, hquiet h]
      · rw [hroll]
      · rw [enterLit_echo_other (by rwa [hslot])]
        exact congrArg (fun e : Enrolment => e.echoes.get i) henrol

end Sys2Proof.Machine
end

section
/-! PROOFS. District time: the second tick and the time state (O51, O52; R125, R128, R135, R190 to R193). -/

namespace Sys2Proof.Machine

-- One thread elaborates this section: the text as a whole is near the memory limit of the check.
set_option Elab.async false

/-! ### The band and the next boundary after a change of time (R125, R128) -/

/-- The band in force at a time state and a district time: the configuration's once the part is RUNNING (R125). -/
def State.bandOn (s : State) (st : TimeState) (t : DTime) : Band :=
  if s.clock.phase = .running then bandAt s.config st t else s.meter.band

theorem reevaluateBand_eq (s : State) :
    s.reevaluateBand = s.modMeter fun m => { m with band := s.bandOn s.clock.state s.clock.time } := by
  unfold State.bandOn
  by_cases h : s.clock.phase = .running
  · rw [reevaluateBand_running h, if_pos h]
  · rw [reevaluateBand_waiting h, if_neg h]
    rfl

/-- The next boundary after district time went to `t`: set anew where that is a step back (R128, R193). -/
def State.boundaryOn (s : State) (t : DTime) : Option Nat :=
  if t.toNat < s.clock.time.toNat then s.meter.nextBoundary.map fun _ => boundaryAfter s.config t
  else s.meter.nextBoundary

theorem stepTime_eq (s : State) (t : DTime) :
    s.stepTime t = { s with
      clock := { s.clock with time := t }
      meter := { s.meter.stepMarks with band := s.bandOn s.clock.state t, nextBoundary := s.boundaryOn t } } := by
  unfold State.stepTime State.boundaryOn
  dsimp only
  rw [reevaluateBand_eq]
  split <;> rfl

/-- District time moved by `m`, to 0 where it would be negative (R193). -/
def State.movedTime (s : State) (m : Int) : DTime :=
  if (s.clock.time.toNat : Int) + m < 0 then 0 else BitVec.ofInt 48 (s.clock.time.toNat + m)

theorem ofNat_toNat_eq (t : Int) : (BitVec.ofNat 48 t.toNat : DTime) = if t < 0 then 0 else BitVec.ofInt 48 t := by
  split
  · next h =>
    rw [Int.toNat_of_nonpos h.le]
    rfl
  · next h =>
    obtain ⟨n, rfl⟩ := Int.eq_ofNat_of_zero_le (not_lt.mp h)
    simp

theorem stepBy_eq (s : State) (m : Int) :
    s.stepBy m = { s with
      clock := { s.clock with
        time := s.movedTime m, trim := 0
        frac := if (s.clock.time.toNat : Int) + m < 0 then 0 else s.clock.frac
        peers := s.clock.peers.map fun p => { p with offset := p.offset - m } }
      meter := { s.meter.stepMarks with
        band := s.bandOn s.clock.state (s.movedTime m), nextBoundary := s.boundaryOn (s.movedTime m) } } := by
  unfold State.stepBy
  dsimp only
  rw [stepTime_eq, ofNat_toNat_eq]
  rfl

theorem stepMarks_stepped (m : Meter) (i : SlotId) : (m.stepMarks.ctx.get i).marks.stepped = true := by
  unfold Meter.stepMarks
  simp [Vector.get, Context.marked]

/-- SET, from whatever state, evaluates the band again (R125, R190). -/
theorem enterTime_set (s : State) :
    s.enterTime .set = { s with
      clock := { s.clock with state := .set }, meter := { s.meter with band := s.bandOn .set s.clock.time } } := by
  unfold State.enterTime
  dsimp only
  rw [reevaluateBand_eq]
  rfl

theorem enterTime_coasting (s : State) :
    s.enterTime .coasting = { s with
      clock := { s.clock with state := .coasting, trim := 0 }
      meter := { s.meter.coastMarks with band := s.bandOn .coasting s.clock.time } } := by
  unfold State.enterTime
  dsimp only
  rw [reevaluateBand_eq]
  rfl

/-! ### The median (R193) -/

theorem insertAscending_eq (x : Int) (l : List Int) : insertAscending x l = l.orderedInsert (· ≤ ·) x := by
  induction l with
  | nil => rfl
  | cons y l ih =>
    unfold insertAscending
    rw [ih]
    rfl

/-- The offsets put in order: the same ones, ascending. -/
theorem foldl_insertAscending (xs acc : List Int) (hacc : acc.Pairwise (· ≤ ·)) :
    (xs.foldl (fun l x => insertAscending x l) acc).Perm (xs ++ acc)
      ∧ (xs.foldl (fun l x => insertAscending x l) acc).Pairwise (· ≤ ·) := by
  induction xs generalizing acc with
  | nil => exact ⟨.refl _, hacc⟩
  | cons x xs ih =>
    rw [List.foldl_cons, insertAscending_eq]
    obtain ⟨hperm, hsorted⟩ := ih _ (List.Pairwise.orderedInsert x acc hacc)
    refine ⟨hperm.trans ?_, hsorted⟩
    exact ((List.perm_orderedInsert (· ≤ ·) x acc).append_left xs).trans List.perm_middle

theorem median_eq {xs sorted : List Int} {m : Int} (hperm : sorted.Perm xs) (hsorted : sorted.Pairwise (· ≤ ·))
    (hm : sorted[(sorted.length - 1) / 2]? = some m) : median xs = m := by
  obtain ⟨hown, hordered⟩ := foldl_insertAscending xs [] .nil
  have heq : ascending xs = sorted :=
    List.Perm.eq_of_pairwise' hordered hsorted ((hown.trans (by simp)).trans hperm.symm)
  unfold median
  rw [heq, ← hperm.length_eq, hm]
  rfl

/-! ### The correction of a second tick (R193) -/

/-- The peers whose entries are not stale (R192). -/
def State.freshPeers (s : State) : List PeerOffset :=
  s.clock.peers.filter fun p => (s.clock.round - p.round).toNat < 16000

/-- The median of 0 and the offsets left (R193). -/
def State.correction (s : State) : Int := median (0 :: s.freshPeers.map (·.offset))

theorem correct_of (s : State) :
    s.correct =
      if s.correction.natAbs ≤ 500 then { s with clock := { s.clock with
        peers := s.freshPeers, trim := 250 * max (-2) (min 2 s.correction) } }
      else ({ s with clock := { s.clock with peers := s.freshPeers } } : State).stepBy s.correction := by
  have hpeers : (s.clock.peers.filter fun p => !p.stale s.now) = s.freshPeers := by
    refine List.filter_congr fun p _ => ?_
    show (!decide (16000 ≤ (s.clock.round - p.round).toNat)) = decide ((s.clock.round - p.round).toNat < 16000)
    rw [← decide_not]
    exact decide_eq_decide.mpr Nat.not_le
  unfold State.correct
  dsimp only
  unfold State.correction
  rw [← hpeers]
  rfl

theorem correct_slew {s : State} (h : s.correction.natAbs ≤ 500) :
    s.correct = { s with clock := { s.clock with
      peers := s.freshPeers, trim := 250 * max (-2) (min 2 s.correction) } } := (correct_of s).trans (if_pos h)

theorem correct_step {s : State} (h : 500 < s.correction.natAbs) :
    s.correct = ({ s with clock := { s.clock with peers := s.freshPeers } } : State).stepBy s.correction :=
  (correct_of s).trans (if_neg (Nat.not_le.mpr h))

/-- The beacon in hand plays no part in a correction, which leaves it, the link and the time state as they are. -/
theorem correct_withBeacon (s : State) (b : Beacon) :
    (s.modClock fun c => { c with beacon := b }).correct = s.correct.modClock fun c => { c with beacon := b } := by
  rcases Nat.lt_or_ge 500 s.correction.natAbs with h | h
  · rw [correct_step h, correct_step (s := s.modClock fun c => { c with beacon := b }) h, stepBy_eq, stepBy_eq]
    rfl
  · rw [correct_slew h, correct_slew (s := s.modClock fun c => { c with beacon := b }) h]
    rfl

theorem correct_kept (s : State) :
    s.correct.link = s.link ∧ s.correct.clock.beacon = s.clock.beacon ∧ s.correct.clock.state = s.clock.state := by
  rcases Nat.lt_or_ge 500 s.correction.natAbs with h | h
  · rw [correct_step h, stepBy_eq]
    exact ⟨rfl, rfl, rfl⟩
  · rw [correct_slew h]
    exact ⟨rfl, rfl, rfl⟩

/-! ### The second tick (O51, R191, R193) -/

/-- The part with a second tick's period counted (R191, log entry 25). -/
def State.ticked (s : State) : State := s.modClock fun c => { c with secondCount := c.secondCount % 4000 }

section
variable {s : State}

theorem execSecondTick_early (h : s.clock.secondCount < 4000) : exec .secondTick s = .next s :=
  congrArg _ (if_neg (Nat.not_le.mpr h))

/-- The part once a second tick's correction is made, which only a SET station makes (R193). -/
def State.corrected (s : State) : State := if s.clock.state = .set then s.ticked.correct else s.ticked

theorem corrected_set (h : s.clock.state = .set) : s.corrected = s.ticked.correct := if_pos h

theorem corrected_other (h : s.clock.state ≠ .set) : s.corrected = s.ticked := if_neg h

theorem corrected_kept (s : State) :
    s.corrected.link = s.link ∧ s.corrected.clock.beacon = s.clock.beacon
      ∧ s.corrected.clock.state = s.clock.state := by
  by_cases h : s.clock.state = .set
  · rw [corrected_set h]
    exact correct_kept s.ticked
  · rw [corrected_other h]
    exact ⟨rfl, rfl, rfl⟩

theorem corrected_withBeacon (s : State) (b : Beacon) :
    (s.modClock fun c => { c with beacon := b }).corrected = s.corrected.modClock fun c => { c with beacon := b } := by
  by_cases h : s.clock.state = .set
  · rw [corrected_set h, corrected_set (s := s.modClock fun c => { c with beacon := b }) h, ← correct_withBeacon]
    rfl
  · rw [corrected_other h, corrected_other (s := s.modClock fun c => { c with beacon := b }) h]
    rfl

theorem execSecondTick_due (h : 4000 ≤ s.clock.secondCount) :
    exec .secondTick s =
      .next (if s.corrected.clock.state ≠ .unset ∧ s.corrected.clock.beacon = .none then s.corrected.offerBeacon
        else s.corrected) :=
  congrArg _ (if_pos h)

/-- No beacon is offered with one in hand, and none while UNSET. -/
theorem execSecondTick_quiet (h : 4000 ≤ s.clock.secondCount)
    (hquiet : s.clock.beacon ≠ .none ∨ s.clock.state = .unset) : exec .secondTick s = .next s.corrected := by
  obtain ⟨-, hbeacon, hstate⟩ := corrected_kept s
  rw [execSecondTick_due h, hbeacon, hstate, if_neg fun ⟨hset, hnone⟩ => hquiet.elim (· hnone) hset]

theorem execSecondTick_offers (h : 4000 ≤ s.clock.secondCount) (hnone : s.clock.beacon = .none)
    (hset : s.clock.state ≠ .unset) : exec .secondTick s = .next s.corrected.offerBeacon := by
  obtain ⟨-, hbeacon, hstate⟩ := corrected_kept s
  rw [execSecondTick_due h, hbeacon, hstate, if_pos ⟨hset, hnone⟩]

theorem offerBeacon_of_room (h : s.link.queue.length < 16) :
    s.offerBeacon = { s with
      clock := { s.clock with beacon := .queued }
      link := { s.link with
        queue := s.link.queue ++ [{ message := .time s.clock.state, attempts := 0, age := s.link.nextAge }]
        nextAge := s.link.nextAge + 1 } } := by
  unfold State.offerBeacon
  rw [offer_of_room (m := .time s.clock.state) rfl h]
  rfl

theorem offerBeacon_of_full (h : 16 ≤ s.link.queue.length) :
    s.offerBeacon = { s with clock := { s.clock with beacon := .waiting } } := by
  unfold State.offerBeacon
  rw [offer_of_full (m := .time s.clock.state) h]
  rfl

end

/-- Settles O51: the period, the correction and the beacon of a second tick. -/
theorem secondTickCorrects : Obligations.SecondTickCorrects := by
  unfold Obligations.SecondTickCorrects
  refine fun s => ⟨execSecondTick_early, fun hdue hstate hquiet => ?_, fun hdue hbeacon hset => ?_,
    fun hdue hnone hset => ?_, fun hdue hcoasting hnone hroom => ?_⟩
  · rw [execSecondTick_quiet hdue hquiet, corrected_other hstate]
    rfl
  · intro peers sorted m hperm hsorted hm
    have hmedian : s.ticked.correction = m := median_eq hperm hsorted hm
    rw [execSecondTick_quiet hdue (.inl hbeacon), corrected_set hset]
    refine ⟨fun hsmall => ?_, fun hlarge => ⟨_, rfl, ?_⟩⟩
    · rw [correct_slew (by rwa [hmedian]), hmedian]
      rfl
    · rw [correct_step (by rwa [hmedian]), hmedian, stepBy_eq]
      refine ⟨rfl, fun i => stepMarks_stepped s.meter i, ?_, rfl, rfl⟩
      show (if s.clock.phase = .running then bandAt s.config s.clock.state _ else s.meter.band) = _
      rw [hset]
  · obtain ⟨hlink, -, hstate⟩ := corrected_kept s
    have hqueued : ({ s with clock := { s.clock with beacon := .queued } } : State).corrected =
      s.corrected.modClock fun c => { c with beacon := .queued } := corrected_withBeacon s .queued
    refine ⟨_, execSecondTick_quiet (by exact hdue) (.inl (by simp)), ?_⟩
    rw [hqueued, execSecondTick_offers hdue hnone hset]
    refine ⟨hlink, rfl, hstate, fun hroom => ?_, fun hfull => ?_⟩
    · rw [offerBeacon_of_room (by rwa [hlink]), hlink, hstate]
      rfl
    · rw [offerBeacon_of_full (by rwa [hlink])]
      rfl
  · rw [execSecondTick_offers hdue hnone (by simp [hcoasting]), corrected_other (by simp [hcoasting]),
      offerBeacon_of_room (by exact hroom), ← hcoasting]
    rfl

/-! ### The time state (O52, R190, R192) -/

theorem recordOffset_known {ps : List PeerOffset} {p : PeerOffset} (h : ∃ q ∈ ps, q.station = p.station) :
    recordOffset ps p = ps.map fun q => if q.station = p.station then p else q :=
  if_pos (by simpa using h)

theorem recordOffset_new {ps : List PeerOffset} {p : PeerOffset} (h : ∀ q ∈ ps, q.station ≠ p.station) :
    recordOffset ps p = ps ++ [p] := if_neg (by simpa using h)

/-- The offset of a TIME frame, taken at the count noted at its start delimiter (R192). -/
def State.offsetOf (s : State) (p : Byte) (t : DTime) : PeerOffset where
  station := p
  offset := (t.toNat : Int) - s.link.noted.toNat
  round := s.clock.round

/-- The part with the offset of a TIME frame recorded (R190, R192). -/
def State.recorded (s : State) (p : Byte) (t : DTime) : State :=
  s.modClock fun c => { c with peers := recordOffset c.peers (s.offsetOf p t), lastTime := s.clock.round }

section
variable {s : State} {p : Byte} {sender : TimeState} {t : DTime}

theorem takeTime_unset : s.takeTime p .unset t = s := if_pos rfl

variable (hsender : sender ≠ .unset)
include hsender

theorem takeTime_in_set (h : s.clock.state = .set) :
    s.takeTime p sender t = s.recorded p t := by
  unfold State.takeTime
  rw [if_neg hsender]
  dsimp only
  split
  next hother => exact absurd (h.symm.trans hother) (by simp)
  next => rfl
  next hother => exact absurd (h.symm.trans hother) (by simp)

theorem takeTime_in_coasting (h : s.clock.state = .coasting) :
    s.takeTime p sender t = (s.recorded p t).enterTime .set := by
  unfold State.takeTime
  rw [if_neg hsender]
  dsimp only
  split
  next hother => exact absurd (h.symm.trans hother) (by simp)
  next hother => exact absurd (h.symm.trans hother) (by simp)
  next => rfl

theorem takeTime_in_unset (h : s.clock.state = .unset) :
    s.takeTime p sender t =
      ((s.recorded p t).stepBy (median ((s.recorded p t).clock.peers.map (·.offset)))).enterTime .set := by
  unfold State.takeTime
  rw [if_neg hsender]
  dsimp only
  split
  next => rfl
  next hother => exact absurd (h.symm.trans hother) (by simp)
  next hother => exact absurd (h.symm.trans hother) (by simp)

end

theorem median_singleton (m : Int) : median [m] = m := by simp [median, ascending, insertAscending]

theorem coastMarks_get (m : Meter) (i : SlotId) :
    m.coastMarks.ctx.get i =
      if (m.ctx.get i).state = .none then m.ctx.get i else (m.ctx.get i).marked fun k => { k with provisional := true } := by
  unfold Meter.coastMarks
  simp [Vector.get]

section
variable {s : State}

theorem execTimeSetExpiry_early (h : s.clock.state ≠ .set ∨ (s.clock.round - s.clock.lastTime).toNat < 40000) :
    exec .timeSetExpiry s = .next s :=
  congrArg _ (if_neg fun ⟨hset, hdue⟩ => h.elim (· hset) (Nat.not_lt.mpr hdue))

theorem execTimeSetExpiry_due (hset : s.clock.state = .set)
    (h : 40000 ≤ (s.clock.round - s.clock.lastTime).toNat) :
    exec .timeSetExpiry s = .next (s.enterTime .coasting) := congrArg _ (if_pos ⟨hset, h⟩)

end

/-- Settles O52: a TIME frame in each time state, and SET that runs out. -/
theorem timeStateMoves : Obligations.TimeStateMoves := by
  unfold Obligations.TimeStateMoves
  refine ⟨fun s bytes p sender time hother hphase hframe => ?_, fun s => ⟨execTimeSetExpiry_early, fun hset hdue => ?_⟩⟩
  · have hexec := execFrameReceive_accepted hother hframe
    have htaken : s.dispatchFrame (.time p sender time) = s.takeTime p sender time := if_neg hphase
    rw [htaken] at hexec
    refine ⟨fun hunset => ?_, fun peers hsender hpeers => ?_, fun hsender hunset hnone => ?_⟩
    · rw [hexec, hunset, takeTime_unset]
    · have hrecorded : recordOffset s.clock.peers (s.offsetOf p time) = peers := by
        rcases hpeers with ⟨hknown, hpeers⟩ | ⟨hnew, hpeers⟩
        · exact (recordOffset_known hknown).trans hpeers.symm
        · exact (recordOffset_new hnew).trans hpeers.symm
      refine ⟨fun hset => ?_, fun hcoasting => ⟨_, hexec, ?_⟩⟩
      · rw [hexec, takeTime_in_set hsender hset, ← hrecorded]
        rfl
      · rw [takeTime_in_coasting hsender hcoasting, enterTime_set, ← hrecorded]
        rfl
    · have hrecorded : s.recorded p time = s.modClock fun c =>
          { c with peers := [s.offsetOf p time], lastTime := s.clock.round } := by
        unfold State.recorded
        dsimp only [State.modClock]
        rw [hnone]
        rfl
      have hkept : s.takeTime p sender time =
          { s with clock := (s.takeTime p sender time).clock, meter := (s.takeTime p sender time).meter } :=
        State.ext_blocks
      have hmedian : median ((s.recorded p time).clock.peers.map (·.offset)) = (s.offsetOf p time).offset := by
        rw [hrecorded]
        exact median_singleton _
      have hstepped := takeTime_in_unset (t := time) (p := p) hsender hunset
      rw [hmedian, hrecorded, stepBy_eq, enterTime_set] at hstepped
      refine ⟨_, hexec, ?_, fun i => ?_, ?_, ?_, hkept⟩
      · rw [hstepped]
        simp only [State.modClock, List.map_cons, List.map_nil, Int.sub_self]
        rfl
      · rw [State.ctx, hstepped]
        exact stepMarks_stepped s.meter i
      · rw [hstepped]
        by_cases hrunning : s.clock.phase = .running
        · exact (if_pos hrunning).trans (if_pos hrunning).symm
        · exact (if_neg hrunning).trans ((if_neg hrunning).trans (if_neg hrunning).symm)
      · rw [hstepped]
        rfl
  · refine ⟨_, execTimeSetExpiry_due hset hdue, ?_⟩
    rw [enterTime_coasting]
    refine ⟨rfl, rfl, rfl, rfl, fun i hopen => ?_, fun i hclosed => ?_⟩
    · exact (congrArg (·.marks.provisional) ((coastMarks_get s.meter i).trans (if_neg hopen))).trans rfl
    · exact (coastMarks_get s.meter i).trans (if_pos hclosed)

end Sys2Proof.Machine
end

section
/-! PROOFS. What the round-start offers and the sending of orders leave as it was: the slots but for three flags, and the tree
port but for its lanes (R14 to R17, R47, R56, R60, R110, R116, R117). -/

namespace Sys2Proof.Machine

-- One thread elaborates this section: the text as a whole is near the memory limit of the check.
set_option Elab.async false

/-- A slot record without the flags that an order's offer or its outcome may write (R32, R115 to R117). -/
def SlotRecord.fixed (r : SlotRecord) : SlotRecord := { r with hushed := false, wakeDue := false, releasePending := false }

/-- The grant scheduler without its requests and promises, which orders renew and withdraw (R47, R64, R67, R68). -/
def Scheduler.fixed (d : Scheduler) : Scheduler :=
  { d with rollReq := false, echoReqs := [], watchReq := none, rollProgress := none }

theorem requestEcho_fixed (d : Scheduler) (q : EchoRequest) : (d.requestEcho q).fixed = d.fixed := by
  unfold Scheduler.requestEcho
  split <;> rfl

/-- What orders offered, sent, dropped and abandoned keep. -/
structure State.OrdersOnly (s t : State) : Prop where
  slot : ∀ j, (t.slot j).fixed = (s.slot j).fixed
  port : t.tree.port = s.tree.port
  plan : t.sched.fixed = s.sched.fixed

namespace State.OrdersOnly

theorem refl (s : State) : s.OrdersOnly s := ⟨fun _ => rfl, rfl, rfl⟩

section
variable {s t : State} (h : s.OrdersOnly t)
include h

theorem trans {u : State} (k : t.OrdersOnly u) : s.OrdersOnly u :=
  ⟨fun j => (k.slot j).trans (h.slot j), k.port.trans h.port, k.plan.trans h.plan⟩

/-- A change that writes no slot record, nothing of the port but its lanes, and nothing of the planner but its requests. -/
theorem of_blocks {u : State} (hslots : u.home.slots = t.home.slots) (hport : u.tree.port = t.tree.port)
    (hplan : u.sched.fixed = t.sched.fixed := by rfl) : s.OrdersOnly u :=
  ⟨fun j => (congrArg (fun v : Vector SlotRecord 128 => (v.get j).fixed) hslots).trans (h.slot j), hport.trans h.port,
    hplan.trans h.plan⟩

theorem modSlot (i : SlotId) {f : SlotRecord → SlotRecord} (hf : ∀ r, (f r).fixed = r.fixed := by intro; rfl) :
    s.OrdersOnly (t.modSlot i f) :=
  ⟨fun j => by
    rw [State.modSlot_slot]
    split
    · exact (hf _).trans (h.slot j)
    · exact h.slot j, h.port, h.plan⟩

theorem modOwed (i : SlotId) (f : Owed → Owed) : s.OrdersOnly (t.modOwed i f) := h.of_blocks rfl rfl
theorem modEcho (i : SlotId) (f : EchoRecord → EchoRecord) : s.OrdersOnly (t.modEcho i f) := h.of_blocks rfl rfl
theorem modRoll (f : RollCall → RollCall) : s.OrdersOnly (t.modRoll f) := h.of_blocks rfl rfl
theorem modEnrol (f : Enrolment → Enrolment) : s.OrdersOnly (t.modEnrol f) := h.of_blocks rfl rfl
theorem modSched {f : Scheduler → Scheduler} (hf : ∀ d, (f d).fixed = d.fixed := by intro; rfl) :
    s.OrdersOnly (t.modSched f) := h.of_blocks rfl rfl (hf _)
theorem modWatch (f : Watch → Watch) : s.OrdersOnly (t.modWatch f) := h.of_blocks rfl rfl
theorem erase (e : OrderEntry) : s.OrdersOnly (t.modTree (·.erase e)) := h.of_blocks rfl rfl
theorem replace (e e' : OrderEntry) : s.OrdersOnly (t.modTree (·.replace e e')) := h.of_blocks rfl rfl

theorem foldl {α : Type} {f : State → α → State} (hf : ∀ (u : State) a, u.OrdersOnly (f u a)) (l : List α) :
    s.OrdersOnly (l.foldl f t) := by
  induction l generalizing t with
  | nil => exact h
  | cons a l ih => exact ih (h.trans (hf t a))

theorem forSlots (p : SlotId → Bool) {f : State → SlotId → State} (hf : ∀ (u : State) i, u.OrdersOnly (f u i)) :
    s.OrdersOnly (t.forSlots p f) := h.foldl hf _

theorem offerOrder (lane : Lane) (body : OrderBody) (target : Option (SlotId × Gen)) :
    s.OrdersOnly (t.offerOrder lane body target).1 := h.of_blocks rfl (offerOrder_port ..)

/-! ### Outcomes of orders (R116, R32, R60) -/

theorem rollAbandoned : s.OrdersOnly t.rollAbandoned := (h.modRoll _).modSched

theorem holdoffOutcome (i : SlotId) (v : Half) (o : OrderOutcome) : s.OrdersOnly (t.holdoffOutcome i v o) := by
  unfold State.holdoffOutcome
  dsimp only
  split
  · split
    · exact (h.modEcho _ _).modEnrol _
    all_goals exact h.modEcho _ _
  · exact h

theorem dropMember (i : SlotId) : s.OrdersOnly (t.dropMember i) := by
  unfold State.dropMember
  split
  · exact (h.modSlot i).modWatch _
  · exact h

theorem watchReport (i : SlotId) (seq : BitVec 8) (o : OrderOutcome) : s.OrdersOnly (t.watchReport i seq o) := by
  unfold State.watchReport
  dsimp only
  split
  · exact h
  · split
    · exact h.modWatch _
    · exact (h.dropMember i).modWatch _
    · exact (h.modSlot i).modWatch _
    · exact (h.modSlot i).modWatch _
    all_goals exact h

theorem wakeDueReport (i : SlotId) (o : OrderOutcome) : s.OrdersOnly (t.wakeDueReport i o) := by
  unfold State.wakeDueReport
  split
  · exact h
  all_goals exact h.modSlot i

theorem report (e : OrderEntry) (o : OrderOutcome) : s.OrdersOnly (t.report e o) := by
  unfold State.report
  split
  · split
    · exact h.rollAbandoned
    · exact h
  · exact h.holdoffOutcome ..
  · exact h.watchReport ..
  · exact h.watchReport ..
  · exact h.wakeDueReport ..
  · exact h.modSlot _
  all_goals exact h

/-! ### Orders sent (R16, R17) -/

theorem sendOrder (n : Round) (e : OrderEntry) : s.OrdersOnly (t.sendOrder n e) := by
  unfold State.sendOrder
  dsimp only
  split
  · unfold State.rollSent
    exact ((h.erase e).modRoll _).modSched
  · split
    · exact h.replace ..
    · exact (h.replace ..).modEcho _ _
  · split
    · exact h.replace ..
    · exact (h.replace ..).modEcho _ _
  · exact h.replace ..
  all_goals
    split
    · exact (h.erase e).report ..
    · exact h.replace ..

theorem fillSlots (n : Round) (es : List OrderEntry) (room : Nat) : s.OrdersOnly (State.fillSlots n es room t).1 := by
  induction es generalizing room t with
  | nil => exact h
  | cons e es ih =>
    cases room with
    | zero => exact h
    | succ room =>
      unfold State.fillSlots
      split
      · exact ih (h.sendOrder n e) _
      · exact ih ((h.erase e).report e .dropped) _

theorem selectOrders (n : Round) : s.OrdersOnly (t.selectOrders n).1 := h.fillSlots ..

/-! ### Offers at a round start (R14, R47, R56, R60, R61, R110, R117) -/

theorem offerRelease (i : SlotId) (g : Gen) : s.OrdersOnly (t.offerRelease i g) := by
  unfold State.offerRelease
  dsimp only
  split
  · exact (h.offerOrder ..).modOwed _ _
  · exact (h.offerOrder ..).modOwed _ _
  all_goals exact ((h.offerOrder ..).modOwed _ _).modSlot i

theorem offerSever (i : SlotId) (g : Gen) (x : Serial) : s.OrdersOnly (t.offerSever i g x) := by
  unfold State.offerSever
  dsimp only
  split
  all_goals exact (h.offerOrder ..).modOwed _ _

theorem offerOwed (i : SlotId) : s.OrdersOnly (t.offerOwed i) := by
  unfold State.offerOwed
  dsimp only
  split
  · split
    · exact (h.offerSever ..).offerRelease ..
    · exact h.offerRelease ..
  · split
    · exact h.offerSever ..
    · exact h

theorem askSpan (i : SlotId) : s.OrdersOnly (t.askSpan i) := by
  unfold State.askSpan
  dsimp only
  split
  · exact h
  · split
    · exact (h.modEcho _ _).modSched fun d => requestEcho_fixed d _
    · exact h

theorem askAgain (i : SlotId) : s.OrdersOnly (t.askAgain i) := (h.modEcho _ _).askSpan i

theorem offerExchange (i : SlotId) : s.OrdersOnly (t.offerExchange i) := by
  unfold State.offerExchange
  dsimp only
  split
  · exact h
  · split
    · split
      · exact ((h.offerOrder ..).modEcho _ _).askSpan i
      all_goals exact h.offerOrder ..
    · exact h

theorem startExchange (i : SlotId) (p : EchoPurpose) : s.OrdersOnly (t.startExchange i p) :=
  (h.modEcho _ _).offerExchange i

theorem reecho (i : SlotId) : s.OrdersOnly (t.reecho i) := by
  unfold State.reecho
  split
  · split
    · exact h
    · split
      · exact h.modEcho _ _
      · exact h.startExchange ..
  · exact h

theorem startPending (i : SlotId) : s.OrdersOnly (t.startPending i) := by
  unfold State.startPending
  split
  · exact (h.modEcho _ _).reecho i
  · exact h

theorem offerHoldoff (i : SlotId) : s.OrdersOnly (t.offerHoldoff i) := by
  unfold State.offerHoldoff
  dsimp only
  split
  · split
    · exact (h.offerOrder ..).modEcho _ _
    · exact h.offerOrder ..
    all_goals exact (h.offerOrder ..).modEcho _ _
  · exact h

theorem offerEnrolment (i : SlotId) : s.OrdersOnly (t.offerEnrolment i) :=
  (((h.offerExchange i).askSpan i).startPending i).offerHoldoff i

theorem offerRoll : s.OrdersOnly t.offerRoll := by
  unfold State.offerRoll
  dsimp only
  split
  · split
    · exact ((h.offerOrder ..).modRoll _).modSched
    · exact h.offerOrder ..
    all_goals exact (h.offerOrder ..).rollAbandoned
  · exact h

theorem offerWatchOrder (w : WatchOrder) : s.OrdersOnly (t.offerWatchOrder w) := by
  unfold State.offerWatchOrder
  dsimp only
  split
  · exact h
  · split
    · split
      · exact ((h.offerOrder ..).modWatch _).modSlot _
      · exact (h.offerOrder ..).modWatch _
    · exact h.offerOrder ..
    · exact h.offerOrder ..
    · split
      · exact (h.offerOrder ..).modWatch _
      · exact ((h.offerOrder ..).modSlot _).modWatch _

theorem offerWatchOrders : s.OrdersOnly t.offerWatchOrders := h.foldl (fun u w => (refl u).offerWatchOrder w) _

theorem offerWakeDue (i : SlotId) : s.OrdersOnly (t.offerWakeDue i) := by
  unfold State.offerWakeDue
  dsimp only
  split
  · exact h
  · split
    · exact (h.offerOrder ..).modSlot i
    all_goals exact h.offerOrder ..

theorem offerRoster : s.OrdersOnly t.offerRoster :=
  h.of_blocks (congrArg HomeTable.slots (State.offerRoster_frame t).2.1) (congrArg TreePort.port (State.offerRoster_frame t).1)
    (congrArg Scheduler.fixed (State.offerRoster_frame t).2.2.2.1)

theorem offerWaitingBeacon : s.OrdersOnly t.offerWaitingBeacon :=
  h.of_blocks (congrArg HomeTable.slots (State.offerWaitingBeacon_frame t).2.1)
    (congrArg TreePort.port (State.offerWaitingBeacon_frame t).1)
    (congrArg Scheduler.fixed (State.offerWaitingBeacon_frame t).2.2.2.1)

theorem roundOffers : s.OrdersOnly t.roundOffers := by
  unfold State.roundOffers
  exact ((((((h.forSlots _ fun u i => (refl u).offerOwed i).offerRoll).forSlots _ fun u i =>
    (refl u).offerEnrolment i).offerWatchOrders).forSlots _ fun u i => (refl u).offerWakeDue i).offerRoster).offerWaitingBeacon

/-! ### Bindings that pass (R15, R68) -/

theorem unbindWhere (p : OrderEntry → Bool) : s.OrdersOnly (t.modTree (·.unbindWhere p)) := h.of_blocks rfl rfl

theorem askRollAgain : s.OrdersOnly t.askRollAgain := by
  unfold State.askRollAgain
  split
  · exact h.modSched
  · exact h

theorem withdrawRoll : s.OrdersOnly t.withdrawRoll := by
  unfold State.withdrawRoll
  split
  · exact h
  · split
    · exact h
    · exact ((h.modSched).unbindWhere _).askRollAgain

theorem passBindings (n : Round) : s.OrdersOnly (t.passBindings n) := by
  have hstart : ∀ u : State, s.OrdersOnly u → ∀ is : List SlotId,
      s.OrdersOnly (is.foldl State.askAgain (u.modTree (·.unbindWhere (·.boundTo n)))) := fun u hu is =>
    (hu.unbindWhere _).foldl (fun v i => (refl v).askAgain i) is
  unfold State.passBindings
  dsimp only
  split
  · split
    · exact hstart _ h.withdrawRoll _
    · exact hstart _ h _
  · exact hstart _ h _

/-! ### A locate begun (R109, R110) -/

theorem beginStage (cands : List (SlotId × Gen)) (stage : LocateStage) (members : List (SlotId × Gen)) :
    s.OrdersOnly (t.beginStage cands stage members) := (h.modWatch _).offerWatchOrders

theorem search (cands : List (SlotId × Gen)) : s.OrdersOnly (t.search cands) := by
  unfold State.search
  split
  all_goals exact h.beginStage ..

theorem startLocate : s.OrdersOnly t.startLocate := by
  unfold State.startLocate
  split
  · split
    · exact h.search _
    · exact h
  · exact h

end

end State.OrdersOnly

end Sys2Proof.Machine
end

section
/-! PROOFS. The round boundary, part by part: what its counts, its offers and its round leave as they were (R6, R16, R181, R189). -/

namespace Sys2Proof.Machine

-- One thread elaborates this section: the text as a whole is near the memory limit of the check.
set_option Elab.async false

/-! ### The parts of a round boundary -/

section
variable (s : State) (upsets : List TallyUpset)

/-- The part once the counters, district time, the bit errors and a held retest are done (R114, R123, R181, R189). -/
def State.begun (s : State) (upsets : List TallyUpset) : State :=
  ((s.countRound.advanceTime).applyUpsets upsets).beginHeldRetest

/-- While LIT the downstream round composed and the plan of the next built (R6, R73). -/
def State.composed (s : State) : State :=
  if s.tree.state = .lit then (s.composeRound s.now).buildPlan (s.now + 1) else s

/-- The round-start offers of orders (R14, R47, R56, R60, R110, R117). -/
def State.orderOffers (s : State) : State :=
  let s := s.forSlots (fun i => (s.owed i).sever.isSome || (s.owed i).release.isSome) State.offerOwed
  let s := s.offerRoll
  let s := s.forSlots (fun i => (s.echo i).busy) State.offerEnrolment
  let s := s.offerWatchOrders
  s.forSlots (fun i => (s.slot i).wakeDue) State.offerWakeDue

theorem roundOffers_eq : s.roundOffers = s.orderOffers.offerRoster.offerWaitingBeacon := rfl

theorem execRoundBoundary_offersFirst :
    exec (.roundBoundary true upsets) s = .next (s.begun upsets).roundOffers.composed.beginPeriodic.startLocate := by
  show execRoundBoundary true upsets s = _
  unfold execRoundBoundary State.composed State.begun
  simp only [if_true]

theorem execRoundBoundary_offersLast :
    exec (.roundBoundary false upsets) s = .next (s.begun upsets).composed.roundOffers.beginPeriodic.startLocate := by
  show execRoundBoundary false upsets s = _
  unfold execRoundBoundary State.composed State.begun
  simp only [Bool.false_eq_true, if_false]

/-! ### What the counts write -/

theorem begun_kept :
    (s.begun upsets).home = s.home ∧ (s.begun upsets).tree = s.tree ∧ (s.begun upsets).down = s.down
      ∧ (s.begun upsets).link = s.link ∧ (s.begun upsets).config = s.config
      ∧ (s.begun upsets).pending = s.pending := by
  simp [State.begun]

theorem begun_clock :
    (s.begun upsets).clock = ({ s.clock with
      round := s.clock.round + 1, secondCount := s.clock.secondCount + 1 } : Clock).advance := by
  unfold State.begun State.advanceTime
  simp only [State.beginHeldRetest_frame, State.applyUpsets_frame]
  split
  · simp [State.countRound]
  · rw [reevaluateBand_eq]
    simp [State.countRound]

theorem begun_roster :
    (s.begun upsets).roster = { s.roster with
      refresh := s.roster.refresh + 1, rebroadcast := s.roster.rebroadcast + 1 } := by
  unfold State.begun
  simp [State.countRound]

end

/-! ### What a round composed and its plan leave -/

/-- The tree port without its lanes, the round in transmission and the issued plans. -/
def TreePort.standing (t : TreePort) : TreePort := { t.port with txRound := none, issued := [] }

theorem TreePort.standing_of_port {t u : TreePort} (h : t.port = u.port) : t.standing = u.standing := by
  unfold TreePort.standing
  rw [h]

namespace TreePort

variable {t u : TreePort}

theorem received_of_standing (h : t.standing = u.standing) : t.received = u.received := (congrArg TreePort.received h :)
theorem state_of_standing (h : t.standing = u.standing) : t.state = u.state := (congrArg TreePort.state h :)
theorem txRound_of_port (h : t.port = u.port) : t.txRound = u.txRound := (congrArg TreePort.txRound h :)
theorem issued_of_port (h : t.port = u.port) : t.issued = u.issued := (congrArg TreePort.issued h :)
theorem state_of_port (h : t.port = u.port) : t.state = u.state := state_of_standing (standing_of_port h)
theorem received_of_port (h : t.port = u.port) : t.received = u.received := received_of_standing (standing_of_port h)

end TreePort

section
variable (s : State)

theorem endTransmission_ordersOnly_slot (j : SlotId) : s.endTransmission.slot j = s.slot j := slot_congr (by simp) j

/-- A round composed changes no slot but its flags, and of the port the lanes, the round in transmission and the issued
plans. -/
theorem composeRound_slot (n : Round) (j : SlotId) : ((s.composeRound n).slot j).fixed = (s.slot j).fixed := by
  have hselect := (State.OrdersOnly.refl s.endTransmission).selectOrders n
  unfold State.composeRound
  dsimp only
  rw [slot_congr (s := (s.endTransmission.selectOrders n).1) (by simp), hselect.slot, endTransmission_ordersOnly_slot]

theorem unbindWhere_port (t : TreePort) (p : OrderEntry → Bool) : (t.unbindWhere p).port = t.port := rfl

theorem passBindings_port (n : Round) : (s.passBindings n).tree.port = s.tree.port :=
  ((State.OrdersOnly.refl s).passBindings n).port

theorem composeRound_standing (n : Round) : (s.composeRound n).tree.standing = s.tree.standing := by
  have hselect := (State.OrdersOnly.refl s.endTransmission).selectOrders n
  have hpass := passBindings_port (s.endTransmission.selectOrders n).1 n
  rw [hselect.port, endTransmission_tree] at hpass
  unfold State.composeRound
  dsimp only
  have hpayload : ∀ u : State, u.composePayload.1.tree = u.tree := fun u => (State.composePayload_frame u).1
  generalize ((s.endTransmission.selectOrders n).1.passBindings n) = u at hpass ⊢
  show u.composePayload.1.tree.standing = _
  rw [hpayload]
  exact (TreePort.standing_of_port hpass).trans rfl

theorem buildPlan_port (n : Round) : (s.buildPlan n).tree.port = s.tree.port := by
  have hbind : ∀ (t : TreePort) p m k, (t.bind p m k).1.port = t.port := fun t p m k => by
    unfold TreePort.bind
    split <;> rfl
  have hreserve : ∀ p, (s.reserveWindow n p).1.tree = s.tree := fun p => by
    unfold State.reserveWindow
    split
    · rfl
    · split <;> rfl
  have hecho : ∀ r : State × Spans, (State.grantEcho n r).1.tree.port = r.1.tree.port := fun r => by
    unfold State.grantEcho
    split
    · rfl
    · dsimp only
      split
      · exact hbind ..
      · exact ((State.OrdersOnly.refl _).askAgain _).port
  have hroll : ∀ u : State, (u.grantRoll n).tree.port = u.tree.port := fun u => by
    unfold State.grantRoll
    dsimp only
    split
    · split
      · exact hbind ..
      · rfl
    · rfl
  unfold State.buildPlan
  dsimp only
  split
  · rw [State.modSched_tree, hroll, hecho, hecho, hreserve]
  · rfl

/-- What composing leaves, whether the tree port is LIT or not. -/
theorem composed_slot (j : SlotId) : (s.composed.slot j).fixed = (s.slot j).fixed := by
  unfold State.composed
  split
  · rw [slot_congr (State.buildPlan_frame ..).1, composeRound_slot]
  · rfl

theorem composed_standing : s.composed.tree.standing = s.tree.standing := by
  unfold State.composed
  split
  · rw [TreePort.standing_of_port (buildPlan_port ..), composeRound_standing]
  · rfl

theorem composed_kept :
    s.composed.link = s.link ∧ s.composed.roster = s.roster ∧ s.composed.clock = s.clock
      ∧ s.composed.journal = s.journal ∧ s.composed.config = s.config ∧ s.composed.pending = s.pending := by
  unfold State.composed
  split <;> simp

theorem orderOffers_ordersOnly : s.OrdersOnly s.orderOffers :=
  (((((State.OrdersOnly.refl s).forSlots _ fun u i => (State.OrdersOnly.refl u).offerOwed i).offerRoll).forSlots _ fun u i =>
    (State.OrdersOnly.refl u).offerEnrolment i).offerWatchOrders).forSlots _ fun u i =>
      (State.OrdersOnly.refl u).offerWakeDue i

theorem orderOffers_kept :
    s.orderOffers.link = s.link ∧ s.orderOffers.roster = s.roster ∧ s.orderOffers.clock = s.clock := by
  simp [State.orderOffers]

end

end Sys2Proof.Machine
end

section
/-! PROOFS. The offers of the roster and the time and clock unit at a round start (O53; R167, R170, R191). -/

namespace Sys2Proof.Machine

-- One thread elaborates this section: the text as a whole is near the memory limit of the check.
set_option Elab.async false

/-! ### Frames that the transmit queue takes in a row (R154) -/

/-- The link with frames taken one after another at the end of its queue. -/
def Link.takes (l : Link) (ms : List Message) : Link :=
  { l with
    queue := l.queue ++ ms.zipIdx.map fun k => { message := k.1, attempts := 0, age := l.nextAge + k.2 }
    nextAge := l.nextAge + ms.length }

theorem takes_nil (l : Link) : l.takes [] = l := by simp [Link.takes]

theorem takes_append (l : Link) (as bs : List Message) : (l.takes as).takes bs = l.takes (as ++ bs) := by
  have hshift : bs.zipIdx.map (fun k => ({ message := k.1, attempts := 0, age := l.nextAge + as.length + k.2 } : TxEntry)) =
      (bs.zipIdx as.length).map fun k => { message := k.1, attempts := 0, age := l.nextAge + k.2 } := by
    rw [List.zipIdx_eq_map_add (i := as.length), List.map_map]
    refine List.map_congr_left fun k _ => ?_
    simp only [Function.comp_apply, TxEntry.mk.injEq, true_and]
    omega
  unfold Link.takes
  simp only [Link.mk.injEq, and_true, true_and]
  refine ⟨?_, ?_⟩
  · rw [List.append_assoc, hshift, List.zipIdx_append, List.map_append, Nat.zero_add]
  · rw [List.length_append]
    omega

theorem takes_length (l : Link) (ms : List Message) : (l.takes ms).queue.length = l.queue.length + ms.length := by
  simp [Link.takes]

theorem offer_takes {l : Link} {m : Message} (husage : m.isUsage = false) (h : l.queue.length < 16) :
    l.offer m = (l.takes [m], true) := by
  rw [offer_of_room husage h]
  rfl

/-- The room of a transmit queue (R154). -/
def Link.room (l : Link) : Nat := 16 - l.queue.length

theorem room_takes (l : Link) (ms : List Message) : (l.takes ms).room = l.room - ms.length := by
  unfold Link.room
  rw [takes_length]
  omega

/-- Messages offered until one is refused: as many are taken as there is room for. -/
theorem offerAll_eq {α : Type} (frame : α → Message) (husage : ∀ a, (frame a).isUsage = false) (as : List α) (l : Link) :
    offerAll frame as l = (as.drop l.room, l.takes ((as.take l.room).map frame)) := by
  induction as generalizing l with
  | nil => simp [offerAll, takes_nil]
  | cons a as ih =>
    rcases Nat.lt_or_ge l.queue.length 16 with hroom | hfull
    · obtain ⟨k, hk⟩ : ∃ k, l.room = k + 1 := ⟨l.room - 1, by unfold Link.room; omega⟩
      unfold offerAll
      rw [offer_takes (husage a) hroom]
      dsimp only
      rw [ih, room_takes, takes_append, hk]
      rfl
    · have hnone : l.room = 0 := by unfold Link.room; omega
      unfold offerAll
      rw [offer_of_full hfull, hnone]
      simp [takes_nil]

/-! ### The CLAIMs of the marked slots (R167, R170) -/

section
variable {s : State}

theorem claimOf_usage {i : SlotId} {m : Message} (h : s.claimOf i = some m) : m.isUsage = false := by
  unfold State.claimOf at h
  split at h
  · obtain rfl := Option.some.inj h
    rfl
  · cases h

theorem setClaimDue_claimOf_other {i j : SlotId} (hj : j ≠ i) (l : Link) (g : Option Gen) :
    ((s.modLink fun _ => l).setClaimDue i g).claimOf j = s.claimOf j := by
  have hdue : ((s.modLink fun _ => l).setClaimDue i g).claimDue j = s.claimDue j := by
    rw [setClaimDue_claimDue, if_neg hj]
    rfl
  unfold State.claimOf
  rw [hdue]
  rfl

/-- The slots of a list whose mark passes the check of R167. -/
def State.claimants (s : State) (is : List SlotId) : List SlotId := is.filter fun i => (s.claimOf i).isSome

/-- What the marked slots' offers leave of the roster: the marks only. -/
theorem offerClaims_roster (is : List SlotId) (s : State) :
    (State.offerClaims is s).roster = { s.roster with claimDue := (State.offerClaims is s).roster.claimDue } := by
  induction is generalizing s with
  | nil => rfl
  | cons i is ih =>
    unfold State.offerClaims
    split
    · rw [ih]
      rfl
    · split
      · rw [ih]
        rfl
      · rfl

/-- The CLAIMs taken, and the marks: those of the slots whose CLAIM was taken are gone, those after the first refusal stay,
and with room for every CLAIM each mark is gone. -/
theorem offerClaims_spec (is : List SlotId) (hnodup : is.Nodup) (s : State) :
    (State.offerClaims is s).link = s.link.takes ((is.filterMap s.claimOf).take s.link.room)
      ∧ (∀ i ∈ (s.claimants is).take s.link.room, (State.offerClaims is s).claimDue i = none)
      ∧ (∀ i ∈ (s.claimants is).drop s.link.room, (State.offerClaims is s).claimDue i = s.claimDue i)
      ∧ ((s.claimants is).length ≤ s.link.room → ∀ i ∈ is, (State.offerClaims is s).claimDue i = none)
      ∧ ∀ i, i ∉ is → (State.offerClaims is s).claimDue i = s.claimDue i := by
  induction is generalizing s with
  | nil => simp [State.offerClaims, State.claimants, takes_nil]
  | cons i is ih =>
    obtain ⟨hi, hnodup⟩ := List.nodup_cons.mp hnodup
    have hne : ∀ j ∈ is, j ≠ i := fun j hj h => hi (h ▸ hj)
    have hmem : ∀ j ∈ s.claimants is, j ∈ is := fun j hj => (List.mem_filter.mp hj).1
    have hclaims : ∀ l, is.filterMap ((s.modLink fun _ => l).setClaimDue i none).claimOf = is.filterMap s.claimOf :=
      fun l => List.filterMap_congr fun j hj => setClaimDue_claimOf_other (hne j hj) l none
    have hclaimants : ∀ l, ((s.modLink fun _ => l).setClaimDue i none).claimants is = s.claimants is := fun l =>
      List.filter_congr fun j hj => by rw [setClaimDue_claimOf_other (hne j hj)]
    have hdue : ∀ l j, ((s.modLink fun _ => l).setClaimDue i none).claimDue j = if j = i then none else s.claimDue j :=
      fun l j => by
        rw [setClaimDue_claimDue]
        rfl
    have hrec := fun l => ih hnodup ((s.modLink fun _ => l).setClaimDue i none)
    simp only [hclaims, hclaimants, hdue] at hrec
    cases hclaim : s.claimOf i with
    | none =>
      have hturn : State.offerClaims (i :: is) s = State.offerClaims is ((s.modLink fun _ => s.link).setClaimDue i none) := by
        rw [State.offerClaims, hclaim]
        rfl
      have hfilter : s.claimants (i :: is) = s.claimants is := List.filter_cons_of_neg (by simp [hclaim])
      obtain ⟨hlink, htaken, hleft, hall, hother⟩ := hrec s.link
      rw [hturn, hfilter, List.filterMap_cons_none hclaim]
      refine ⟨hlink, htaken, fun j hj => ?_, fun hroom j hj => ?_, fun j hj => ?_⟩
      · exact (hleft j hj).trans (if_neg (hne j (hmem j (List.mem_of_mem_drop hj))))
      · rcases List.mem_cons.mp hj with rfl | hj
        · exact (hother j hi).trans (if_pos rfl)
        · exact hall hroom j hj
      · obtain ⟨hji, hj⟩ := not_or.mp (mt List.mem_cons.mpr hj)
        exact (hother j hj).trans (if_neg hji)
    | some m =>
      have hfilter : s.claimants (i :: is) = i :: s.claimants is := List.filter_cons_of_pos (by simp [hclaim])
      rw [hfilter, List.filterMap_cons_some hclaim]
      rcases Nat.lt_or_ge s.link.queue.length 16 with hroom | hfull
      · have hturn : State.offerClaims (i :: is) s =
            State.offerClaims is ((s.modLink fun _ => s.link.takes [m]).setClaimDue i none) := by
          rw [State.offerClaims, hclaim]
          dsimp only
          rw [offer_takes (claimOf_usage hclaim) hroom]
        obtain ⟨k, hk⟩ : ∃ k, s.link.room = k + 1 := ⟨s.link.room - 1, by unfold Link.room; omega⟩
        have hleftRoom : (s.link.takes [m]).room = k := by rw [room_takes, hk]; rfl
        obtain ⟨hlink, htaken, hleft, hall, hother⟩ := hrec (s.link.takes [m])
        have hvlink : ((s.modLink fun _ => s.link.takes [m]).setClaimDue i none).link = s.link.takes [m] := rfl
        rw [hvlink, hleftRoom] at hlink htaken hleft hall
        rw [hturn, hk, List.take_succ_cons, List.drop_succ_cons, List.take_succ_cons]
        refine ⟨?_, fun j hj => ?_, fun j hj => ?_, fun hlen j hj => ?_, fun j hj => ?_⟩
        · rw [hlink, takes_append]
          rfl
        · rcases List.mem_cons.mp hj with rfl | hj
          · exact (hother j hi).trans (if_pos rfl)
          · exact htaken j hj
        · exact (hleft j hj).trans (if_neg (hne j (hmem j (List.mem_of_mem_drop hj))))
        · rcases List.mem_cons.mp hj with rfl | hj
          · exact (hother j hi).trans (if_pos rfl)
          · exact hall (Nat.le_of_succ_le_succ hlen) j hj
        · obtain ⟨hji, hj⟩ := not_or.mp (mt List.mem_cons.mpr hj)
          exact (hother j hj).trans (if_neg hji)
      · have hturn : State.offerClaims (i :: is) s = s := by
          rw [State.offerClaims, hclaim]
          dsimp only
          rw [offer_of_full hfull]
        have hnone : s.link.room = 0 := by unfold Link.room; omega
        rw [hturn, hnone]
        exact ⟨(takes_nil _).symm, fun j hj => (nomatch hj), fun j _ => rfl, fun hlen => absurd hlen (by simp),
          fun j _ => rfl⟩

end

/-! ### The roster's offers (R170) -/

section
variable (s : State)

/-- The slots that bear a claim-due mark. -/
def State.marked (s : State) : List SlotId := allSlots.filter fun i => (s.claimDue i).isSome

theorem offerBars_eq :
    s.offerBars = ({ s with
      link := s.link.takes ((s.roster.bars.take s.link.room).map PendingBar.frame)
      roster := { s.roster with bars := s.roster.bars.drop s.link.room } },
      (s.roster.bars.drop s.link.room).isEmpty) := by
  unfold State.offerBars
  rw [offerAll_eq _ (fun _ => rfl)]
  rfl

theorem offerReleases_eq :
    s.offerReleases = ({ s with
      link := s.link.takes ((s.roster.releases.take s.link.room).map Message.release)
      roster := { s.roster with releases := s.roster.releases.drop s.link.room } },
      (s.roster.releases.drop s.link.room).isEmpty) := by
  unfold State.offerReleases
  rw [offerAll_eq _ (fun _ => rfl)]
  rfl

theorem marked_nodup : s.marked.Nodup := (List.nodup_finRange 128).filter _

theorem not_marked {i : SlotId} (h : i ∉ s.marked) : s.claimDue i = none := by
  by_contra hdue
  exact h (List.mem_filter.mpr ⟨mem_allSlots i, Option.isSome_iff_ne_none.mpr hdue⟩)

theorem claims_length : (s.marked.filterMap s.claimOf).length = (s.claimants s.marked).length := by
  rw [State.claimants, List.length_filterMap_eq_countP, List.countP_eq_length_filter]

/-- The frames the roster has to offer, in their order. -/
def State.rosterFrames (s : State) : List Message :=
  s.roster.bars.map PendingBar.frame ++ s.roster.releases.map Message.release ++ s.marked.filterMap s.claimOf

/-- The room left for CLAIMs. -/
def State.claimRoom (s : State) : Nat := s.link.room - (s.roster.bars.length + s.roster.releases.length)

/-- What the roster's offers leave: as many frames taken as there is room for, in their order, and what was not taken still
listed or marked. -/
structure State.RosterOffered (s t : State) : Prop where
  link : t.link = s.link.takes (s.rosterFrames.take s.link.room)
  bars : t.roster.bars = s.roster.bars.drop s.link.room
  releases : t.roster.releases = s.roster.releases.drop (s.link.room - s.roster.bars.length)
  taken : ∀ i ∈ (s.claimants s.marked).take s.claimRoom, t.claimDue i = none
  left : ∀ i ∈ (s.claimants s.marked).drop s.claimRoom, t.claimDue i = s.claimDue i
  all : s.rosterFrames.length ≤ s.link.room → ∀ i, t.claimDue i = none

/-- The BARs have filled the queue. -/
theorem offerRoster_of_bars (h : s.link.room < s.roster.bars.length) : s.RosterOffered s.offerRoster := by
  have hturn : s.offerRoster = s.offerBars.1 := by
    unfold State.offerRoster
    dsimp only
    exact if_neg (by simp [offerBars_eq, h])
  have hnone : s.claimRoom = 0 := by unfold State.claimRoom; omega
  have hrest : s.link.room - s.roster.bars.length = 0 := by omega
  rw [hturn, offerBars_eq]
  refine ⟨?_, rfl, ?_, ?_, fun i _ => rfl, fun hall => absurd hall ?_⟩
  · unfold State.rosterFrames
    rw [List.append_assoc, List.take_append_of_le_length (by simp; omega), ← List.map_take]
  · rw [hrest]
    rfl
  · rw [hnone]
    exact fun i hi => (nomatch hi)
  · simp [State.rosterFrames]
    omega

/-- The part once every pending BAR was taken. -/
def State.barsTaken : State :=
  { s with link := s.link.takes (s.roster.bars.map PendingBar.frame), roster := { s.roster with bars := [] } }

/-- The part once every pending BAR and RELEASE was taken. -/
def State.releasesTaken : State :=
  { s with
    link := s.link.takes (s.roster.bars.map PendingBar.frame ++ s.roster.releases.map Message.release)
    roster := { s.roster with bars := [], releases := [] } }

theorem barsTaken_room : s.barsTaken.link.room = s.link.room - s.roster.bars.length := by
  show (s.link.takes (s.roster.bars.map PendingBar.frame)).room = _
  rw [room_takes, List.length_map]

theorem releasesTaken_room : s.releasesTaken.link.room = s.claimRoom := by
  show (s.link.takes (s.roster.bars.map PendingBar.frame ++ s.roster.releases.map Message.release)).room = _
  rw [room_takes, List.length_append, List.length_map, List.length_map]
  rfl

theorem offerBars_all (hbars : s.roster.bars.length ≤ s.link.room) : s.offerBars = (s.barsTaken, true) := by
  rw [offerBars_eq, List.drop_of_length_le hbars, List.take_of_length_le hbars]
  rfl

theorem offerRoster_of_bars_taken (hbars : s.roster.bars.length ≤ s.link.room) :
    s.offerRoster = if s.barsTaken.offerReleases.2 then
      State.offerClaims s.barsTaken.offerReleases.1.marked s.barsTaken.offerReleases.1
    else s.barsTaken.offerReleases.1 := by
  unfold State.offerRoster
  rw [offerBars_all s hbars]
  rfl

/-- The RELEASEs have filled the queue. -/
theorem offerRoster_of_releases (hbars : s.roster.bars.length ≤ s.link.room)
    (h : s.link.room < s.roster.bars.length + s.roster.releases.length) : s.RosterOffered s.offerRoster := by
  have hturn : s.offerRoster = s.barsTaken.offerReleases.1 := by
    rw [offerRoster_of_bars_taken s hbars]
    refine if_neg ?_
    rw [offerReleases_eq, barsTaken_room]
    show ¬ (s.roster.releases.drop (s.link.room - s.roster.bars.length)).isEmpty = true
    simp
    omega
  have hnone : s.claimRoom = 0 := by unfold State.claimRoom; omega
  rw [hturn, offerReleases_eq, barsTaken_room]
  refine ⟨?_, ?_, rfl, ?_, fun i _ => rfl, fun hall => absurd hall ?_⟩
  · show (s.link.takes (s.roster.bars.map PendingBar.frame)).takes _ = _
    unfold State.rosterFrames
    rw [takes_append, List.take_append_of_le_length (by simp; omega), List.take_append,
      List.take_of_length_le (l := s.roster.bars.map PendingBar.frame) (by simpa), List.length_map, ← List.map_take]
    rfl
  · exact (List.drop_of_length_le hbars).symm
  · rw [hnone]
    exact fun i hi => (nomatch hi)
  · simp [State.rosterFrames]
    omega

/-- The CLAIMs are reached. -/
theorem offerRoster_of_claims (h : s.roster.bars.length + s.roster.releases.length ≤ s.link.room) :
    s.RosterOffered s.offerRoster := by
  have hbars : s.roster.bars.length ≤ s.link.room := by omega
  have hreleases : s.roster.releases.length ≤ s.link.room - s.roster.bars.length := by omega
  have htaken : s.barsTaken.offerReleases = (s.releasesTaken, true) := by
    rw [offerReleases_eq, barsTaken_room]
    have htake : s.barsTaken.roster.releases.take (s.link.room - s.roster.bars.length) = s.roster.releases :=
      List.take_of_length_le hreleases
    have hdrop : s.barsTaken.roster.releases.drop (s.link.room - s.roster.bars.length) = [] :=
      List.drop_of_length_le hreleases
    rw [htake, hdrop]
    unfold State.barsTaken State.releasesTaken
    rw [← takes_append]
    rfl
  have hturn : s.offerRoster = State.offerClaims s.marked s.releasesTaken := by
    rw [offerRoster_of_bars_taken s hbars, htaken]
    rfl
  have hclaimants : s.releasesTaken.claimants s.marked = s.claimants s.marked := rfl
  have hclaims : s.marked.filterMap s.releasesTaken.claimOf = s.marked.filterMap s.claimOf := rfl
  obtain ⟨hlink, hclaimed, hleft, hall, hother⟩ := offerClaims_spec s.marked (marked_nodup s) s.releasesTaken
  have hroster := offerClaims_roster s.marked s.releasesTaken
  rw [releasesTaken_room, hclaimants] at hclaimed hleft hall
  rw [releasesTaken_room, hclaims] at hlink
  rw [hturn]
  refine ⟨?_, ?_, ?_, hclaimed, hleft, fun hlen i => ?_⟩
  · rw [hlink]
    show (s.link.takes _).takes _ = _
    unfold State.rosterFrames
    rw [takes_append, List.take_append,
      List.take_of_length_le (l := s.roster.bars.map PendingBar.frame ++ _) (by simpa using h), List.length_append,
      List.length_map, List.length_map]
    rfl
  · rw [hroster]
    exact (List.drop_of_length_le hbars).symm
  · rw [hroster]
    exact (List.drop_of_length_le hreleases).symm
  · by_cases hi : i ∈ s.marked
    · refine hall ?_ i hi
      rw [← claims_length]
      simp only [State.rosterFrames, List.length_append, List.length_map] at hlen
      unfold State.claimRoom
      omega
    · exact (hother i hi).trans (not_marked s hi)

theorem offerRoster_spec : s.RosterOffered s.offerRoster := by
  rcases Nat.lt_or_ge s.link.room s.roster.bars.length with hbars | hbars
  · exact offerRoster_of_bars s hbars
  · rcases Nat.lt_or_ge s.link.room (s.roster.bars.length + s.roster.releases.length) with h | h
    · exact offerRoster_of_releases s hbars h
    · exact offerRoster_of_claims s h

end

/-! ### The waiting beacon (R191) -/

theorem offerWaitingBeacon_of_idle {s : State} (h : s.clock.beacon ≠ .waiting) : s.offerWaitingBeacon = s := if_neg h

theorem offerWaitingBeacon_of_room {s : State} (h : s.clock.beacon = .waiting) (hroom : s.link.queue.length < 16) :
    s.offerWaitingBeacon = { s with
      clock := { s.clock with beacon := .queued }, link := s.link.takes [.time s.clock.state] } := by
  unfold State.offerWaitingBeacon
  rw [if_pos h, offerBeacon_of_room hroom]
  rfl

theorem offerWaitingBeacon_of_full {s : State} (h : s.clock.beacon = .waiting) (hfull : 16 ≤ s.link.queue.length) :
    s.offerWaitingBeacon = s := by
  unfold State.offerWaitingBeacon
  rw [if_pos h, offerBeacon_of_full hfull, ← h]

/-- The waiting beacon comes after the roster's frames, and is taken where these leave room. -/
theorem offerWaitingBeacon_after {u : State} {l : Link} {frames : List Message}
    (hlink : u.link = l.takes (frames.take l.room)) :
    u.offerWaitingBeacon.link =
        l.takes ((frames ++ if u.clock.beacon = Beacon.waiting then [Message.time u.clock.state] else []).take l.room)
      ∧ u.offerWaitingBeacon.clock.beacon =
        if u.clock.beacon = Beacon.waiting ∧ frames.length < l.room then Beacon.queued else u.clock.beacon := by
  have hqueue : u.link.queue.length = l.queue.length + min l.room frames.length := by
    rw [hlink, takes_length, List.length_take]
  by_cases hwaits : u.clock.beacon = .waiting
  · rw [if_pos hwaits]
    rcases Nat.lt_or_ge frames.length l.room with hroom | hfull
    · rw [if_pos ⟨hwaits, hroom⟩, offerWaitingBeacon_of_room hwaits (by unfold Link.room at *; omega), hlink,
        List.take_of_length_le (l := frames) hroom.le, takes_append, List.take_of_length_le (by simpa)]
      exact ⟨rfl, rfl⟩
    · rw [if_neg fun h => absurd h.2 (Nat.not_lt.mpr hfull),
        offerWaitingBeacon_of_full hwaits (by unfold Link.room at *; omega), hlink, List.take_append_of_le_length hfull]
      exact ⟨rfl, rfl⟩
  · rw [offerWaitingBeacon_of_idle hwaits, if_neg hwaits, if_neg fun h => hwaits h.1, hlink, List.append_nil]
    exact ⟨rfl, rfl⟩

/-! ### The CLAIMs due, by the statement's terms (R167) -/

theorem claims_iff_held (st : SlotState) : st.claims = true ↔ st = .active ∨ st = .lost ∨ st = .barred := by
  cases st <;> simp [SlotState.claims]

theorem heard_eq (s : State) (i : SlotId) :
    s.heard i = ((s.slot i).state == .active && s.tree.received.any fun n => (s.slot i).lastHeard == some n) := by
  unfold State.heard
  cases (s.slot i).lastHeard with
  | none => simp
  | some m =>
    refine congrArg _ ?_
    simp only [Option.map_some, Option.getD_some, List.contains_eq_any_beq]
    rw [Bool.eq_iff_iff, List.any_eq_true, List.any_eq_true]
    simp

section
variable {s : State}

theorem claimOf_isSome_iff {i : SlotId} :
    (s.claimOf i).isSome = true ↔ ((s.slot i).state = .active ∨ (s.slot i).state = .lost ∨ (s.slot i).state = .barred)
      ∧ s.claimDue i = some (s.slot i).gen := by
  rw [← claims_iff_held]
  unfold State.claimOf
  split
  · next h => simpa using h
  · next h => simpa using h

theorem claimants_marked {due : List SlotId} (hsorted : due.Pairwise (· < ·))
    (hdue : ∀ i, i ∈ due ↔ ((s.slot i).state = .active ∨ (s.slot i).state = .lost ∨ (s.slot i).state = .barred)
      ∧ s.claimDue i = some (s.slot i).gen) : s.claimants s.marked = due := by
  have hown : (s.claimants s.marked).Pairwise (· < ·) := ((List.pairwise_lt_finRange 128).filter _).filter _
  refine List.Perm.eq_of_pairwise' hown hsorted ((List.perm_ext_iff_of_nodup hown.nodup hsorted.nodup).mpr fun i => ?_)
  rw [hdue, ← claimOf_isSome_iff]
  refine ⟨fun h => (List.mem_filter.mp h).2, fun h => List.mem_filter.mpr ⟨List.mem_filter.mpr ⟨mem_allSlots i, ?_⟩, h⟩⟩
  rw [(claimOf_isSome_iff.mp h).2]
  rfl

theorem claims_marked {due : List SlotId} (h : s.claimants s.marked = due) :
    s.marked.filterMap s.claimOf = due.map fun i =>
      .claim (((s.slot i).serial).getD 0) (((s.slot i).claimTime).getD 0) (s.heard i) := by
  have hfilter : s.marked.filterMap s.claimOf = (s.claimants s.marked).filterMap s.claimOf := by
    unfold State.claimants
    rw [List.filterMap_filter]
    refine List.filterMap_congr fun i _ => ?_
    cases s.claimOf i <;> rfl
  rw [hfilter, h]
  refine List.filterMap_eq_map_iff_forall_eq_some.mpr fun i hi => ?_
  have hsome : (s.claimOf i).isSome = true := by
    rw [← h] at hi
    exact (List.mem_filter.mp hi).2
  unfold State.claimOf at hsome ⊢
  split at hsome
  · next hcheck => rw [if_pos hcheck]
  · cases hsome

end

/-! ### The offers within the round boundary -/

/-- A state `w` of a round boundary that began as `s`, before the offers of the roster and the beacon: what these read. -/
structure State.OfferedFrom (s w : State) : Prop where
  link : w.link = s.link
  roster : w.roster = s.roster
  clock : w.clock = s.clock
  slot : ∀ j, (w.slot j).fixed = (s.slot j).fixed
  standing : w.tree.standing = s.tree.standing

namespace State.OfferedFrom

variable {s w : State}

theorem refl (s : State) : s.OfferedFrom s := ⟨rfl, rfl, rfl, fun _ => rfl, rfl⟩

theorem orderOffers (h : s.OfferedFrom w) : s.OfferedFrom w.orderOffers := by
  obtain ⟨hlink, hroster, hclock⟩ := orderOffers_kept w
  have honly := orderOffers_ordersOnly w
  exact ⟨hlink.trans h.link, hroster.trans h.roster, hclock.trans h.clock, fun j => (honly.slot j).trans (h.slot j),
    (TreePort.standing_of_port honly.port).trans h.standing⟩

theorem composed (h : s.OfferedFrom w) : s.OfferedFrom w.composed := by
  obtain ⟨hlink, hroster, hclock, -⟩ := composed_kept w
  exact ⟨hlink.trans h.link, hroster.trans h.roster, hclock.trans h.clock, fun j => (composed_slot w j).trans (h.slot j),
    (composed_standing w).trans h.standing⟩

end State.OfferedFrom

/-- What follows the composing and the offers writes no slot but its flags, and of the port the lanes only. -/
theorem roundEnd_kept (u : State) :
    (∀ j, (u.beginPeriodic.startLocate.slot j).fixed = (u.slot j).fixed)
      ∧ u.beginPeriodic.startLocate.tree.port = u.tree.port := by
  have honly := (State.OrdersOnly.refl u.beginPeriodic).startLocate
  exact ⟨fun j => (honly.slot j).trans (by rw [slot_congr (State.beginPeriodic_frame u).2.1]),
    honly.port.trans (by rw [(State.beginPeriodic_frame u).1])⟩

/-- Whether the orders are offered before or after the round is composed, the roster's offers and the beacon's follow them,
and nothing after these writes the link, the roster or the clock (log entry 5). -/
theorem roundBoundary_offers (s : State) (offersFirst : Bool) (upsets : List TallyUpset) :
    ∃ w t, (s.begun upsets).OfferedFrom w ∧ exec (.roundBoundary offersFirst upsets) s = .next t
      ∧ t.link = w.offerRoster.offerWaitingBeacon.link ∧ t.roster = w.offerRoster.offerWaitingBeacon.roster
      ∧ t.clock = w.offerRoster.offerWaitingBeacon.clock
      ∧ (∀ j, (t.slot j).fixed = ((s.begun upsets).slot j).fixed)
      ∧ t.tree.standing = (s.begun upsets).tree.standing := by
  have hbegun := State.OfferedFrom.refl (s.begun upsets)
  have hoffers : ∀ u : State, u.OrdersOnly u.offerRoster.offerWaitingBeacon := fun u =>
    (State.OrdersOnly.refl u).offerRoster.offerWaitingBeacon
  cases offersFirst
  · have hw := hbegun.composed.orderOffers
    obtain ⟨hslot, hport⟩ := roundEnd_kept (s.begun upsets).composed.orderOffers.offerRoster.offerWaitingBeacon
    refine ⟨_, _, hw, execRoundBoundary_offersLast s upsets, ?_⟩
    rw [roundOffers_eq]
    refine ⟨by simp, by simp, by simp, fun j => ?_, ?_⟩
    · rw [hslot, (hoffers _).slot, hw.slot]
    · rw [TreePort.standing_of_port (hport.trans (hoffers _).port), hw.standing]
  · have hw := hbegun.orderOffers
    obtain ⟨hslot, hport⟩ := roundEnd_kept (s.begun upsets).orderOffers.offerRoster.offerWaitingBeacon.composed
    refine ⟨_, _, hw, execRoundBoundary_offersFirst s upsets, ?_⟩
    rw [roundOffers_eq]
    obtain ⟨hlink, hroster, hclock, -⟩ := composed_kept (s.begun upsets).orderOffers.offerRoster.offerWaitingBeacon
    simp only [State.startLocate_frame, State.beginPeriodic_frame, hlink, hroster, hclock, true_and]
    refine ⟨fun j => ?_, ?_⟩
    · rw [hslot, composed_slot, (hoffers _).slot, hw.slot]
    · rw [TreePort.standing_of_port hport, composed_standing, TreePort.standing_of_port (hoffers _).port, hw.standing]

/-- What a CLAIM and a beacon say is not the counts' to change. -/
theorem advance_kept (c : Clock) : c.advance.beacon = c.beacon ∧ c.advance.state = c.state := ⟨rfl, rfl⟩

theorem begun_beacon (s : State) (upsets : List TallyUpset) :
    (s.begun upsets).clock.beacon = s.clock.beacon ∧ (s.begun upsets).clock.state = s.clock.state := by
  rw [begun_clock]
  exact advance_kept _

/-- Settles O53: the roster's frames and the waiting beacon at a round start. -/
theorem roundStartOffers : Obligations.RoundStartOffers := by
  unfold Obligations.RoundStartOffers
  intro s offersFirst upsets due hsorted hdue
  obtain ⟨w, t, hw, hexec, hlink, hroster, hclock, -, -⟩ := roundBoundary_offers s offersFirst upsets
  obtain ⟨bhome, btree, -, blink, -, -⟩ := begun_kept s upsets
  obtain ⟨bbeacon, bstate⟩ := begun_beacon s upsets
  have broster := begun_roster s upsets
  have hslot : ∀ i, (w.slot i).fixed = (s.slot i).fixed := fun i => (hw.slot i).trans (by rw [slot_congr bhome])
  have hstate : ∀ i, (w.slot i).state = (s.slot i).state := fun i => (congrArg SlotRecord.state (hslot i) :)
  have hgen : ∀ i, (w.slot i).gen = (s.slot i).gen := fun i => (congrArg SlotRecord.gen (hslot i) :)
  have hserial : ∀ i, (w.slot i).serial = (s.slot i).serial := fun i => (congrArg SlotRecord.serial (hslot i) :)
  have htime : ∀ i, (w.slot i).claimTime = (s.slot i).claimTime := fun i => (congrArg SlotRecord.claimTime (hslot i) :)
  have hlast : ∀ i, (w.slot i).lastHeard = (s.slot i).lastHeard := fun i => (congrArg SlotRecord.lastHeard (hslot i) :)
  have hbars : w.roster.bars = s.roster.bars := by rw [hw.roster, broster]
  have hreleases : w.roster.releases = s.roster.releases := by rw [hw.roster, broster]
  have hmark : ∀ i, w.claimDue i = s.claimDue i := fun i => by rw [State.claimDue, hw.roster, broster]; rfl
  have hreceived : w.tree.received = s.tree.received :=
    (TreePort.received_of_standing hw.standing).trans (by rw [btree])
  have hwlink : w.link = s.link := hw.link.trans blink
  have hbeacon : w.clock.beacon = s.clock.beacon := by rw [hw.clock, bbeacon]
  have htstate : w.clock.state = s.clock.state := by rw [hw.clock, bstate]
  have hclaimants : w.claimants w.marked = due :=
    claimants_marked hsorted fun i => by rw [hdue, hstate, hmark, hgen]
  have hoffered := offerRoster_spec w
  have hframes : w.rosterFrames = s.roster.bars.map PendingBar.frame ++ s.roster.releases.map Message.release ++
      due.map fun i => .claim ((s.slot i).serial.getD 0) ((s.slot i).claimTime.getD 0)
        ((s.slot i).state == .active && s.tree.received.any fun n => (s.slot i).lastHeard == some n) := by
    unfold State.rosterFrames
    rw [hbars, hreleases, claims_marked hclaimants]
    simp only [heard_eq, hserial, htime, hstate, hlast, hreceived]
  have hlen : w.claimRoom = 16 - s.link.queue.length - (s.roster.bars.length + s.roster.releases.length) := by
    unfold State.claimRoom Link.room
    rw [hwlink, hbars, hreleases]
  have hroom : w.link.room = 16 - s.link.queue.length := by
    unfold Link.room
    rw [hwlink]
  obtain ⟨olink, obars, oreleases, otaken, oleft, oall⟩ := hoffered
  obtain ⟨tlink, tbeacon⟩ := offerWaitingBeacon_after olink
  have oclock : w.offerRoster.clock = w.clock := by simp
  rw [oclock, hbeacon, htstate, hroom, hframes, hwlink] at tlink
  rw [oclock, hbeacon, hroom, hframes] at tbeacon
  rw [hclaimants, hlen] at otaken oleft
  rw [hroom, hframes] at oall
  rw [hroom, hbars] at obars
  rw [hroom, hbars, hreleases] at oreleases
  have hafter : t.roster = w.offerRoster.roster := hroster.trans (by simp)
  have hclaimDue : ∀ i, t.claimDue i = w.offerRoster.claimDue i := fun i =>
    congrArg (fun r : Roster => r.claimDue.get i) hafter
  simp only [List.length_map]
  exact ⟨t, hexec, hlink.trans tlink, by rw [hafter]; exact obars, by rw [hafter]; exact oreleases, fun i hi => by
    rw [hclaimDue]; exact otaken i hi, fun i hi => by rw [hclaimDue, oleft i hi, hmark], fun hall i => by
    rw [hclaimDue]; exact oall hall i, by rw [hclock]; exact tbeacon⟩

end Sys2Proof.Machine
end

section
/-! PROOFS. The round boundary in every state of the part (O7; R125, R181, R189). -/

namespace Sys2Proof.Machine

-- One thread elaborates this section: the text as a whole is near the memory limit of the check.
set_option Elab.async false

/-! ### The band of a configuration (R125) -/

theorem greatestPoint_eq (ps : List SwitchPoint) :
    greatestPoint ps = ps.foldl (pickBest fun q b => decide (b.minute ≤ q.minute)) none := by
  unfold greatestPoint
  congr 1
  funext best p
  cases best with
  | none => rfl
  | some b => exact if_congr (by simp) rfl rfl

/-- The greatest of a list: none before it is above it, and none after it reaches it. -/
theorem greatestPoint_of {pre post : List SwitchPoint} {p : SwitchPoint} (hpre : ∀ q ∈ pre, q.minute ≤ p.minute)
    (hpost : ∀ q ∈ post, q.minute < p.minute) : greatestPoint (pre ++ p :: post) = some p := by
  rw [greatestPoint_eq]
  exact foldl_pickBest_eq (fun q hq => decide_eq_true (hpre q hq)) fun q hq =>
    decide_eq_false (Nat.not_le.mpr (hpost q hq))

section
variable {c : Configuration} {st : TimeState} {time : DTime}

theorem bandAt_fallback (h : st = .unset ∨ c.switchPoints = []) : bandAt c st time = c.fallback := by
  unfold bandAt
  rcases h with h | h
  · exact if_pos h
  · rw [h]
    exact ite_self _

variable {pre post : List SwitchPoint} {p : SwitchPoint} (hst : st ≠ .unset) (hpoints : c.switchPoints = pre ++ p :: post)
include hst hpoints

theorem bandAt_of_before (hp : p.minute ≤ minuteOf time)
    (hpre : ∀ q ∈ pre, q.minute ≤ minuteOf time → q.minute ≤ p.minute)
    (hpost : ∀ q ∈ post, q.minute ≤ minuteOf time → q.minute < p.minute) : bandAt c st time = p.band := by
  have hfound : greatestPoint (c.switchPoints.filter (·.minute ≤ minuteOf time)) = some p := by
    rw [hpoints, List.filter_append, List.filter_cons_of_pos (by simpa using hp)]
    exact greatestPoint_of
      (fun q hq => hpre q (List.mem_of_mem_filter hq) (by simpa using (List.mem_filter.mp hq).2))
      fun q hq => hpost q (List.mem_of_mem_filter hq) (by simpa using (List.mem_filter.mp hq).2)
  unfold bandAt
  rw [if_neg hst, hfound]

theorem bandAt_of_after (hall : ∀ q ∈ c.switchPoints, minuteOf time < q.minute)
    (hpre : ∀ q ∈ pre, q.minute ≤ p.minute) (hpost : ∀ q ∈ post, q.minute < p.minute) : bandAt c st time = p.band := by
  have hnone : c.switchPoints.filter (·.minute ≤ minuteOf time) = [] :=
    List.filter_eq_nil_iff.mpr fun q hq => by simpa using hall q hq
  have hfound : greatestPoint c.switchPoints = some p := by rw [hpoints, greatestPoint_of hpre hpost]
  unfold bandAt
  rw [if_neg hst, hnone, hfound]
  rfl

end

/-! ### The payload visits keep what a taken packet does not write (R87, R89) -/

/-- What pointer moves, queue changes and meter updates keep, the visits of a round keep. -/
theorem visits_keeps {β : Type} (g : State → β) (hpointer : ∀ (u : State) i, g (u.setPointer i) = g u)
    (hqueue : ∀ (u : State) i f, g (u.modQueue i f) = g u)
    (hupdate : ∀ (u : State) i e k b a, g (u.offerUpdate i e k b a) = g u) (fuel : Nat) (visit : Option SlotId)
    (budget : Nat) (s : State) : g (State.visits fuel visit budget s).1 = g s := by
  induction fuel generalizing visit budget s with
  | zero => rfl
  | succ fuel ih =>
    have htake : ∀ (u : State) i p rest, g (u.takePacket i p rest) = g u := fun u i p rest =>
      (hupdate ..).trans (hqueue ..)
    have hopen : ∀ (u : State) i, g (u.openVisit i) = g u := fun u i => by
      unfold State.openVisit
      exact (hqueue ..).trans (hpointer ..)
    cases visit with
    | none =>
      unfold State.visits
      split
      · rfl
      · rw [ih, hopen]
    | some i =>
      unfold State.visits
      split
      · rw [ih, hpointer]
      · next p rest _ =>
        split
        · exact hqueue s i fun k => { k with held := true }
        · split
          · rw [ih, hpointer]
          · dsimp only
            split
            · rw [ih, hpointer, htake]
            · rw [ih, htake]

theorem offerUpdate_band (s : State) (i : SlotId) (g : Gen) (k : MeterKind) (b a : Nat) :
    (s.offerUpdate i g k b a).meter.band = s.meter.band := by
  unfold State.offerUpdate
  split <;> rfl

theorem composed_band (s : State) : s.composed.meter.band = s.meter.band := by
  have hvisits : ∀ u : State, u.composePayload.1.meter.band = u.meter.band := fun u =>
    visits_keeps (·.meter.band) (fun _ _ => rfl) (fun _ _ _ => rfl) offerUpdate_band ..
  unfold State.composed
  split
  · rw [(State.buildPlan_frame ..).2.2.1]
    unfold State.composeRound
    simp only [State.modTree_meter, hvisits]
    simp
  · rfl

/-! ### The counters, district time and the band (R125, R189) -/

theorem applyUpsets_band (s : State) (us : List TallyUpset) : (s.applyUpsets us).meter.band = s.meter.band := by
  unfold State.applyUpsets
  exact foldl_keeps (·.meter.band) (fun (s : State) (u : TallyUpset) => s.modTally u.slot u.band (·.upsetBy u.kind))
    (fun _ _ => rfl) us s

theorem countRound_kept (s : State) :
    s.countRound.meter.band = s.meter.band ∧ s.countRound.clock.time = s.clock.time
      ∧ s.countRound.clock.phase = s.clock.phase ∧ s.countRound.clock.state = s.clock.state
      ∧ s.countRound.config = s.config := by
  simp [State.countRound]

theorem begun_band (s : State) (upsets : List TallyUpset) :
    (s.begun upsets).meter.band =
      if s.clock.phase = .running ∧ minuteOf (s.begun upsets).clock.time ≠ minuteOf s.clock.time then
        bandAt s.config s.clock.state (s.begun upsets).clock.time
      else s.meter.band := by
  obtain ⟨cband, ctime, cphase, cstate, cconfig⟩ := countRound_kept s
  have hadvance : s.countRound.advanceTime.meter.band =
      if s.clock.phase = .running ∧ minuteOf s.countRound.advanceTime.clock.time ≠ minuteOf s.clock.time then
        bandAt s.config s.clock.state s.countRound.advanceTime.clock.time
      else s.meter.band := by
    rw [← ctime, ← cphase, ← cstate, ← cconfig, ← cband]
    generalize s.countRound = u
    unfold State.advanceTime
    dsimp only
    by_cases hminute : minuteOf (u.modClock Clock.advance).clock.time = minuteOf u.clock.time
    · rw [if_pos hminute, if_neg fun h => h.2 hminute]
      rfl
    · rw [if_neg hminute, reevaluateBand_eq]
      by_cases hrunning : u.clock.phase = .running
      · rw [if_pos ⟨hrunning, hminute⟩]
        exact if_pos hrunning
      · rw [if_neg fun h => hrunning h.1]
        exact if_neg hrunning
  have hband : (s.begun upsets).meter.band = s.countRound.advanceTime.meter.band := by
    unfold State.begun
    rw [(State.beginHeldRetest_frame _).2.2.2.2.1, applyUpsets_band]
  have hclock : (s.begun upsets).clock = s.countRound.advanceTime.clock := by
    unfold State.begun
    simp only [State.beginHeldRetest_frame, State.applyUpsets_frame]
  rw [hband, hclock, hadvance]

theorem offerWaitingBeacon_clock (s : State) :
    s.offerWaitingBeacon.clock = { s.clock with beacon := s.offerWaitingBeacon.clock.beacon } := by
  by_cases h : s.clock.beacon = .waiting
  · rcases Nat.lt_or_ge s.link.queue.length 16 with hroom | hfull
    · rw [offerWaitingBeacon_of_room h hroom]
    · rw [offerWaitingBeacon_of_full h hfull]
  · rw [offerWaitingBeacon_of_idle h]

/-! ### What the round boundary leaves outside LIT -/

theorem roundOffers_kept (s : State) :
    s.roundOffers.meter = s.meter ∧ s.roundOffers.down = s.down ∧ s.roundOffers.journal = s.journal
      ∧ s.roundOffers.config = s.config ∧ s.roundOffers.pending = s.pending
      ∧ s.roundOffers.tree.port = s.tree.port :=
  ⟨by simp, by simp, by simp, by simp, by simp, ((State.OrdersOnly.refl s).roundOffers).port⟩

theorem composed_unlit {s : State} (h : s.tree.state ≠ .lit) : s.composed = s := if_neg h

/-- What a boundary leaves of the blocks that neither its offers nor its round write, whichever comes first. -/
theorem roundBoundary_kept {s t : State} {offersFirst : Bool} {upsets : List TallyUpset}
    (h : exec (.roundBoundary offersFirst upsets) s = .next t) :
    t.meter.band = (s.begun upsets).meter.band ∧ t.journal.records = s.journal.records ∧ t.config = s.config
      ∧ t.pending = s.pending
      ∧ (s.tree.state ≠ .lit → t.down = s.down ∧ t.tree.txRound = s.tree.txRound ∧ t.tree.issued = s.tree.issued) := by
  obtain ⟨-, btree, bdown, -, bconfig, bpending⟩ := begun_kept s upsets
  have bjournal : (s.begun upsets).journal.records = s.journal.records := by
    unfold State.begun
    simp [State.countRound]
  rw [← bjournal, ← bconfig, ← bpending, ← bdown, ← btree]
  have hends : ∀ u : State, u.beginPeriodic.startLocate.meter = u.meter ∧ u.beginPeriodic.startLocate.journal = u.journal
      ∧ u.beginPeriodic.startLocate.config = u.config ∧ u.beginPeriodic.startLocate.pending = u.pending
      ∧ u.beginPeriodic.startLocate.down = u.down := fun u => by simp
  cases offersFirst
  · rw [execRoundBoundary_offersLast] at h
    obtain rfl := Host.Outcome.next.inj h
    generalize s.begun upsets = b
    obtain ⟨emeter, ejournal, econfig, epending, edown⟩ := hends b.composed.roundOffers
    obtain ⟨ometer, odown, ojournal, oconfig, opending, oport⟩ := roundOffers_kept b.composed
    obtain ⟨-, -, -, cjournal, cconfig, cpending⟩ := composed_kept b
    refine ⟨by rw [emeter, ometer, composed_band], by rw [ejournal, ojournal, cjournal], by rw [econfig, oconfig, cconfig],
      by rw [epending, opending, cpending], fun hunlit => ?_⟩
    have hport := (roundEnd_kept b.composed.roundOffers).2.trans oport
    rw [edown, odown, composed_unlit hunlit] at *
    exact ⟨rfl, TreePort.txRound_of_port hport, TreePort.issued_of_port hport⟩
  · rw [execRoundBoundary_offersFirst] at h
    obtain rfl := Host.Outcome.next.inj h
    generalize s.begun upsets = b
    obtain ⟨emeter, ejournal, econfig, epending, edown⟩ := hends b.roundOffers.composed
    obtain ⟨ometer, odown, ojournal, oconfig, opending, oport⟩ := roundOffers_kept b
    obtain ⟨-, -, -, cjournal, cconfig, cpending⟩ := composed_kept b.roundOffers
    refine ⟨by rw [emeter, composed_band, ometer], by rw [ejournal, cjournal, ojournal], by rw [econfig, cconfig, oconfig],
      by rw [epending, cpending, opending], fun hunlit => ?_⟩
    have hstill : b.roundOffers.tree.state ≠ .lit := by rwa [TreePort.state_of_port oport]
    have hport := (roundEnd_kept b.roundOffers.composed).2
    rw [composed_unlit hstill] at hport edown ⊢
    exact ⟨edown.trans odown, TreePort.txRound_of_port (hport.trans oport), TreePort.issued_of_port (hport.trans oport)⟩

/-- Settles O7: the counters, district time and the band at a round boundary. -/
theorem roundBoundaryAdvances : Obligations.RoundBoundaryAdvances := by
  unfold Obligations.RoundBoundaryAdvances
  refine ⟨fun c st time => ⟨bandAt_fallback, fun hst pre post p hpoints =>
    ⟨fun hp hpre hpost => bandAt_of_before hst hpoints hp hpre hpost,
      fun hall hpre hpost => bandAt_of_after hst hpoints hall hpre hpost⟩⟩, fun s offersFirst upsets => ?_⟩
  obtain ⟨w, t, hw, hexec, -, -, hclock, hslot, hstanding⟩ := roundBoundary_offers s offersFirst upsets
  obtain ⟨hband, hrecords, hconfig, hpending, hunlit⟩ := roundBoundary_kept hexec
  obtain ⟨bhome, btree, -, -, -, -⟩ := begun_kept s upsets
  have htclock : t.clock = { (s.begun upsets).clock with beacon := t.clock.beacon } := by
    rw [hclock, offerWaitingBeacon_clock, (State.offerRoster_frame w).2.2.2.2.2.2.2.2.1, hw.clock]
  have htime : t.clock.time = (s.begun upsets).clock.time := by rw [htclock]
  refine ⟨t, hexec, ?_, ?_, ?_, hconfig, hpending, hrecords, fun i => ?_, hunlit⟩
  · rw [htclock, begun_clock]
    rfl
  · rw [hband, begun_band, htime]
    rfl
  · exact (TreePort.state_of_standing hstanding).trans (by rw [btree])
  · have hfixed := hslot i
    rw [slot_congr bhome] at hfixed
    exact (congrArg SlotRecord.state hfixed :)

end Sys2Proof.Machine
end

section
/-! PROOFS. The visits of a round (R87 to R89): the relation its steps define, and what they take, leave and meter. -/

namespace Sys2Proof.Machine

-- One thread elaborates this section: the text as a whole is near the memory limit of the check.
set_option Elab.async false

/-! ### The queues after one step of a visit -/

section
variable (s : State) (i : SlotId) (p : List Byte) (rest : List (List Byte))

/-- The queue of a slot as its visit opens (R87 step 1). -/
def DownQueue.opened (k : DownQueue) (q : Nat) : DownQueue :=
  if k.held then { k with held := false } else { k with deficit := k.deficit + q }

theorem opened_packets (k : DownQueue) (q : Nat) : (k.opened q).packets = k.packets := by
  unfold DownQueue.opened
  split <;> rfl

theorem opened_held (k : DownQueue) (q : Nat) : (k.opened q).held = false := by
  unfold DownQueue.opened
  split
  · rfl
  · next h => exact Bool.eq_false_iff.mpr h

/-- A queue without its head packet (R87 step 4). -/
def DownQueue.taken (k : DownQueue) (p : List Byte) (rest : List (List Byte)) : DownQueue :=
  { k with packets := rest, deficit := if rest.isEmpty then 0 else k.deficit - p.length }

theorem openVisit_queue (j : SlotId) :
    (s.openVisit i).queue j = if j = i then (s.queue j).opened (s.quantum i) else s.queue j :=
  (State.modQueue_queue ..).trans rfl

theorem takePacket_queue (j : SlotId) :
    (s.takePacket i p rest).queue j = if j = i then (s.queue j).taken p rest else s.queue j := by
  have hdown : (s.takePacket i p rest).down = (s.modQueue i fun k => k.taken p rest).down := by
    simp [State.takePacket, DownQueue.taken]
  exact (congrArg (fun d : Downstream => d.queues.get j) hdown).trans (State.modQueue_queue ..)

theorem takePacket_pointer : (s.takePacket i p rest).down.pointer = s.down.pointer := by
  simp [State.takePacket]

theorem takePacket_slot (j : SlotId) : (s.takePacket i p rest).slot j = s.slot j := slot_congr (by simp) j

theorem takePacket_quantum (j : SlotId) : (s.takePacket i p rest).quantum j = s.quantum j := by
  unfold State.quantum State.slotProfile State.profileOf
  rw [takePacket_slot]
  simp

theorem hold_queue (j : SlotId) :
    (s.modQueue i fun k => { k with held := true }).queue j =
      if j = i then { s.queue j with held := true } else s.queue j := State.modQueue_queue ..

end

/-! ### The steps as a relation -/

/-- A slot in its visit (R87): ACTIVE, at the pointer, no longer held. -/
structure State.Visiting (s : State) (i : SlotId) : Prop where
  active : (s.slot i).state = .active
  pointer : s.down.pointer = i
  released : (s.queue i).held = false

/-- The visits of a round that ends as R88 says: from a state and a budget to the state after them and the packets taken. -/
inductive Visits : Option SlotId → Nat → State → State → List (SlotId × List Byte) → Prop
  | ended {b s} (hnone : s.nextVisit = none) : Visits none b s s []
  | opened {b s i t l} (hnext : s.nextVisit = some i) (later : Visits (some i) b (s.openVisit i) t l) :
      Visits none b s t l
  | held {b s i p rest} (hvisit : s.Visiting i) (hq : (s.queue i).packets = p :: rest) (hover : b < p.length) :
      Visits (some i) b s (s.modQueue i fun k => { k with held := true }) []
  | short {b s i p rest t l} (hvisit : s.Visiting i) (hq : (s.queue i).packets = p :: rest) (hfits : p.length ≤ b)
      (hshort : (s.queue i).deficit < p.length) (later : Visits none b (s.setPointer (i + 1)) t l) : Visits (some i) b s t l
  | last {b s i p t l} (hvisit : s.Visiting i) (hq : (s.queue i).packets = [p]) (hfits : p.length ≤ b)
      (hcovered : p.length ≤ (s.queue i).deficit)
      (later : Visits none (b - p.length) ((s.takePacket i p []).setPointer (i + 1)) t l) : Visits (some i) b s t ((i, p) :: l)
  | more {b s i p rest t l} (hvisit : s.Visiting i) (hq : (s.queue i).packets = p :: rest) (hrest : rest ≠ [])
      (hfits : p.length ≤ b) (hcovered : p.length ≤ (s.queue i).deficit)
      (later : Visits (some i) (b - p.length) (s.takePacket i p rest) t l) : Visits (some i) b s t ((i, p) :: l)

/-! ### The fuel suffices -/

/-- Packets have a length the port accepts, and weights are in range. -/
structure State.Sized (s : State) : Prop where
  length : ∀ i, ∀ p ∈ (s.queue i).packets, 64 ≤ p.length ∧ p.length ≤ 2048
  quantum : ∀ i, 2048 ≤ s.quantum i

theorem State.Sized.of_packets {s t : State} (h : s.Sized) (hq : ∀ i, (t.queue i).packets ⊆ (s.queue i).packets)
    (hquantum : ∀ i, t.quantum i = s.quantum i) : t.Sized :=
  ⟨fun i p hp => h.length i p (hq i hp), fun i => by rw [hquantum]; exact h.quantum i⟩

theorem State.Sized.openVisit {s : State} (h : s.Sized) (i : SlotId) : (s.openVisit i).Sized :=
  h.of_packets (fun j => by
    rw [openVisit_queue]
    split
    · rw [opened_packets]
      exact List.Subset.refl _
    · exact List.Subset.refl _) fun _ => rfl

theorem State.Sized.takePacket {s : State} (h : s.Sized) {i : SlotId} {p : List Byte} {rest : List (List Byte)}
    (hq : (s.queue i).packets = p :: rest) : (s.takePacket i p rest).Sized :=
  h.of_packets (fun j => by
    rw [takePacket_queue]
    split
    · next hj =>
      rw [hj, hq]
      exact List.subset_cons_self ..
    · exact List.Subset.refl _) (takePacket_quantum s i p rest)

/-- The slots whose visit a round before ended in. -/
def State.heldSlots (s : State) : Finset SlotId := Finset.univ.filter fun i => (s.queue i).held = true

theorem heldSlots_le (s : State) : s.heldSlots.card ≤ 128 := (Finset.card_le_univ _).trans (Fintype.card_fin 128).le

theorem heldSlots_openVisit (s : State) (i : SlotId) : (s.openVisit i).heldSlots = s.heldSlots.erase i := by
  unfold State.heldSlots
  ext j
  simp only [Finset.mem_filter, Finset.mem_univ, true_and, Finset.mem_erase, openVisit_queue]
  by_cases hj : j = i
  · rw [if_pos hj, opened_held]
    simp [hj]
  · rw [if_neg hj]
    simp [hj]

theorem heldSlots_takePacket (s : State) (i : SlotId) (p : List Byte) (rest : List (List Byte)) :
    (s.takePacket i p rest).heldSlots = s.heldSlots := by
  unfold State.heldSlots
  congr 1
  funext j
  rw [takePacket_queue]
  split <;> rfl

/-- What bounds the steps left: three for each packet that the budget can still hold, two for each held slot. -/
def State.stepsLeft (s : State) (budget : Nat) : Option SlotId → Nat
  | none => 3 * (budget / 64) + 2 * s.heldSlots.card + 2
  | some i => 3 * (budget / 64) + 2 * s.heldSlots.card + if 2048 ≤ (s.queue i).deficit then 1 else 3

section
variable (s : State) (budget : Nat) (i : SlotId)

theorem stepsLeft_none : s.stepsLeft budget none = 3 * (budget / 64) + 2 * s.heldSlots.card + 2 := rfl

theorem stepsLeft_some :
    s.stepsLeft budget (some i) = 3 * (budget / 64) + 2 * s.heldSlots.card + if 2048 ≤ (s.queue i).deficit then 1 else 3 :=
  rfl

theorem stepsLeft_some_bounds :
    3 * (budget / 64) + 2 * s.heldSlots.card + 1 ≤ s.stepsLeft budget (some i)
      ∧ s.stepsLeft budget (some i) ≤ 3 * (budget / 64) + 2 * s.heldSlots.card + 3 := by
  rw [stepsLeft_some]
  split <;> omega

end

theorem budget_after {b k : Nat} (hmin : 64 ≤ k) (hfits : k ≤ b) : 3 * ((b - k) / 64) + 3 ≤ 3 * (b / 64) := by omega

/-- Opening a visit uses a step: it adds a quantum, or spends the hold that spared it. -/
theorem stepsLeft_openVisit {s : State} (h : s.Sized) (budget : Nat) (i : SlotId) :
    (s.openVisit i).stepsLeft budget (some i) < s.stepsLeft budget none := by
  by_cases hheld : (s.queue i).held = true
  · have hcard : (s.openVisit i).heldSlots.card + 1 = s.heldSlots.card := by
      rw [heldSlots_openVisit]
      exact Finset.card_erase_add_one (Finset.mem_filter.mpr ⟨Finset.mem_univ _, hheld⟩)
    have := stepsLeft_some_bounds (s.openVisit i) budget i
    rw [stepsLeft_none]
    omega
  · have hcard : (s.openVisit i).heldSlots.card ≤ s.heldSlots.card := by
      rw [heldSlots_openVisit]
      exact Finset.card_le_card (Finset.erase_subset ..)
    have hdeficit : 2048 ≤ ((s.openVisit i).queue i).deficit := by
      rw [openVisit_queue, if_pos rfl, DownQueue.opened, if_neg hheld]
      exact (h.quantum i).trans (Nat.le_add_left ..)
    rw [stepsLeft_none, stepsLeft_some, if_pos hdeficit]
    omega

theorem visiting_openVisit {s : State} {i : SlotId} (hnext : s.nextVisit = some i) :
    (s.openVisit i).Visiting i ∧ ((s.openVisit i).queue i).packets ≠ [] := by
  have hserved := List.find?_some hnext
  unfold State.served at hserved
  obtain ⟨hactive, hpackets⟩ := (Bool.and_eq_true ..).mp hserved
  refine ⟨⟨eq_of_beq hactive, rfl, ?_⟩, ?_⟩
  · rw [openVisit_queue, if_pos rfl, opened_held]
  · rw [openVisit_queue, if_pos rfl, opened_packets]
    simpa using hpackets

theorem visiting_takePacket {s : State} {i : SlotId} (h : s.Visiting i) (p : List Byte) (rest : List (List Byte)) :
    (s.takePacket i p rest).Visiting i := by
  refine ⟨?_, ?_, ?_⟩
  · rw [takePacket_slot]
    exact h.active
  · rw [takePacket_pointer]
    exact h.pointer
  · rw [takePacket_queue, if_pos rfl]
    exact h.released

/-- With fuel for the steps left, the visits end as R88 says and not for want of fuel. -/
theorem visits_of_fuel (fuel : Nat) (visit : Option SlotId) (budget : Nat) (s : State) (hsized : s.Sized)
    (hvisit : ∀ i, visit = some i → s.Visiting i ∧ (s.queue i).packets ≠ []) (hfuel : s.stepsLeft budget visit ≤ fuel) :
    Visits visit budget s (State.visits fuel visit budget s).1 (State.visits fuel visit budget s).2 := by
  induction fuel generalizing visit budget s with
  | zero =>
    cases visit with
    | none => exact absurd hfuel (by rw [stepsLeft_none]; omega)
    | some i => exact absurd hfuel (by have := stepsLeft_some_bounds s budget i; omega)
  | succ fuel ih =>
    cases visit with
    | none =>
      unfold State.visits
      split
      · next hnone => exact .ended hnone
      · next i hnext =>
        refine .opened hnext (ih _ _ _ (hsized.openVisit i) (fun j hj => ?_) ?_)
        · obtain rfl := Option.some.inj hj
          exact visiting_openVisit hnext
        · have := stepsLeft_openVisit hsized budget i
          omega
    | some i =>
      obtain ⟨hvisiting, hne⟩ := hvisit i rfl
      unfold State.visits
      split
      · next hnil => exact absurd hnil hne
      · next p rest hq =>
        obtain ⟨hmin, hmax⟩ := hsized.length i p (hq ▸ List.mem_cons_self ..)
        split
        · next hover => exact .held hvisiting hq hover
        · next hover =>
          have hfits := Nat.le_of_not_lt hover
          split
          · next hshort =>
            refine .short hvisiting hq hfits hshort (ih _ _ _ ⟨hsized.length, hsized.quantum⟩ nofun ?_)
            have hlow : ¬ 2048 ≤ (s.queue i).deficit := by omega
            have hsteps : s.stepsLeft budget (some i) = (s.setPointer (i + 1)).stepsLeft budget none + 1 := by
              rw [stepsLeft_some, if_neg hlow]
              rfl
            omega
          · next hshort =>
            have hcovered := Nat.le_of_not_lt hshort
            have hbudget := budget_after hmin hfits
            have hheld := congrArg Finset.card (heldSlots_takePacket s i p rest)
            have hlow := stepsLeft_some_bounds s budget i
            by_cases hrest : rest = []
            · subst hrest
              refine .last hvisiting hq hfits hcovered
                (ih _ _ _ ⟨(hsized.takePacket hq).length, (hsized.takePacket hq).quantum⟩ nofun ?_)
              have hsteps : ((s.takePacket i p []).setPointer (i + 1)).stepsLeft (budget - p.length) none =
                  3 * ((budget - p.length) / 64) + 2 * (s.takePacket i p []).heldSlots.card + 2 := rfl
              omega
            · dsimp only
              rw [if_neg (by simpa using hrest)]
              refine .more hvisiting hq hrest hfits hcovered (ih _ _ _ (hsized.takePacket hq) (fun j hj => ?_) ?_)
              · obtain rfl := Option.some.inj hj
                refine ⟨visiting_takePacket hvisiting p rest, ?_⟩
                rw [takePacket_queue, if_pos rfl]
                exact hrest
              · have hsteps := stepsLeft_some_bounds (s.takePacket i p rest) (budget - p.length) i
                omega

/-- A round's budget and the 128 slots leave fuel to spare (R88). -/
theorem visits_of_round {s : State} (hsized : s.Sized) :
    Visits none Config.roundBudget s (State.visits 4096 none Config.roundBudget s).1
      (State.visits 4096 none Config.roundBudget s).2 := by
  refine visits_of_fuel _ _ _ _ hsized nofun ?_
  have hheld := heldSlots_le s
  have hsteps : s.stepsLeft Config.roundBudget none = 3 * (65536 / 64) + 2 * s.heldSlots.card + 2 := rfl
  omega

end Sys2Proof.Machine
end

section
/-! PROOFS. What the visits of a round take, leave and meter, and the segments they make (R87 to R89). -/

namespace Sys2Proof.Machine

-- One thread elaborates this section: the text as a whole is near the memory limit of the check.
set_option Elab.async false

/-! ### Packets taken -/

/-- The packets of one slot among those taken. -/
def takenOf (l : List (SlotId × List Byte)) (i : SlotId) : List (List Byte) := (l.filter (·.1 == i)).map (·.2)

theorem takenOf_cons_self (i : SlotId) (p : List Byte) (l : List (SlotId × List Byte)) :
    takenOf ((i, p) :: l) i = p :: takenOf l i := by simp [takenOf]

theorem takenOf_cons_other {i j : SlotId} (h : j ≠ i) (p : List Byte) (l : List (SlotId × List Byte)) :
    takenOf ((i, p) :: l) j = takenOf l j := by simp [takenOf, Ne.symm h]

theorem rotationOrder_mem (q i : SlotId) : i ∈ rotationOrder q := by
  unfold rotationOrder
  rcases le_or_gt q i with h | h
  · exact List.mem_append_left _ (List.mem_filter.mpr ⟨mem_allSlots i, decide_eq_true h⟩)
  · exact List.mem_append_right _ (List.mem_filter.mpr ⟨mem_allSlots i, decide_eq_true h⟩)

theorem nextVisit_eq_none {s : State} (h : s.nextVisit = none) (i : SlotId) (hactive : (s.slot i).state = .active) :
    (s.queue i).packets = [] := by
  have hserved := List.find?_eq_none.mp h i (rotationOrder_mem ..)
  unfold State.served at hserved
  simpa [hactive] using hserved

namespace Visits

variable {visit : Option SlotId} {budget : Nat} {s t : State} {l : List (SlotId × List Byte)}

theorem home_eq (h : Visits visit budget s t l) : t.home = s.home := by
  induction h with
  | ended | held => rfl
  | opened _ _ ih | short _ _ _ _ _ ih => exact ih
  | last _ _ _ _ _ ih => exact ih.trans (State.takePacket_frame ..).2.1
  | more _ _ _ _ _ _ ih => exact ih.trans (State.takePacket_frame ..).2.1

/-- Each slot gives packets from the head of its queue. -/
theorem queue_eq (h : Visits visit budget s t l) (j : SlotId) : takenOf l j ++ (t.queue j).packets = (s.queue j).packets := by
  have htake : ∀ {u : State} {i p rest} {k : List (SlotId × List Byte)}, (u.queue i).packets = p :: rest →
      takenOf k j ++ (t.queue j).packets = ((u.takePacket i p rest).queue j).packets →
      takenOf ((i, p) :: k) j ++ (t.queue j).packets = (u.queue j).packets := fun {u i p rest k} hq ih => by
    rw [takePacket_queue] at ih
    by_cases hj : j = i
    · rw [if_pos hj] at ih
      rw [hj] at ih ⊢
      rw [takenOf_cons_self, hq]
      exact congrArg (p :: ·) ih
    · rw [if_neg hj] at ih
      rw [takenOf_cons_other hj, ih]
  induction h with
  | ended => rfl
  | held =>
    rw [hold_queue]
    split <;> rfl
  | opened _ _ ih =>
    rw [ih htake, openVisit_queue]
    split
    · rw [opened_packets]
    · rfl
  | short _ _ _ _ _ ih => exact ih htake
  | last _ hq _ _ _ ih => exact htake hq (ih htake)
  | more _ hq _ _ _ _ ih => exact htake hq (ih htake)

/-- A slot that is not served keeps its queue as it is. -/
theorem queue_of_idle (h : Visits visit budget s t l) {j : SlotId}
    (hidle : (s.slot j).state ≠ .active ∨ (s.queue j).packets = []) : t.queue j = s.queue j := by
  have hother : ∀ {u : State} {i : SlotId} {p rest}, u.Visiting i → (u.queue i).packets = p :: rest →
      (u.slot j).state ≠ .active ∨ (u.queue j).packets = [] → j ≠ i := fun hv hq hidle hj => by
    rw [hj, hq] at hidle
    exact hidle.elim (· hv.active) nofun
  induction h with
  | ended => rfl
  | held hv hq _ => rw [hold_queue, if_neg (hother hv hq hidle)]
  | @opened b u i t l hnext _ ih =>
    have hj : j ≠ i := by
      obtain ⟨hv, hne⟩ := visiting_openVisit hnext
      rw [openVisit_queue, if_pos rfl, opened_packets] at hne
      rintro rfl
      exact hidle.elim (· hv.active) hne
    have hqueue : (u.openVisit i).queue j = u.queue j := by rw [openVisit_queue, if_neg hj]
    rw [ih (by rw [hqueue]; exact hidle), hqueue]
  | short _ _ _ _ _ ih => exact ih hidle
  | @last b u i p t l hv hq _ _ _ ih =>
    have hqueue : (u.takePacket i p []).queue j = u.queue j := by rw [takePacket_queue, if_neg (hother hv hq hidle)]
    have hidle' : ((u.takePacket i p []).slot j).state ≠ .active ∨ ((u.takePacket i p []).queue j).packets = [] := by
      rw [hqueue, takePacket_slot]
      exact hidle
    exact (ih hidle').trans hqueue
  | @more b u i p rest t l hv hq _ _ _ _ ih =>
    have hqueue : (u.takePacket i p rest).queue j = u.queue j := by rw [takePacket_queue, if_neg (hother hv hq hidle)]
    have hidle' : ((u.takePacket i p rest).slot j).state ≠ .active ∨ ((u.takePacket i p rest).queue j).packets = [] := by
      rw [hqueue, takePacket_slot]
      exact hidle
    exact (ih hidle').trans hqueue

theorem opened_deficit (k : DownQueue) (q : Nat) : ∃ n, (k.opened q).deficit = k.deficit + n * q := by
  unfold DownQueue.opened
  split
  · exact ⟨0, by simp⟩
  · exact ⟨1, by simp⟩

/-- What a slot with packets left gained and sent is a whole number of quanta. -/
theorem deficit_eq (h : Visits visit budget s t l) {j : SlotId} (hleft : (t.queue j).packets ≠ []) :
    ∃ n, (t.queue j).deficit + ((takenOf l j).map List.length).sum = (s.queue j).deficit + n * s.quantum j := by
  induction h with
  | ended => exact ⟨0, by simp [takenOf]⟩
  | @held b u i =>
    refine ⟨0, ?_⟩
    rw [hold_queue]
    split <;> simp [takenOf]
  | @opened b u i t l _ _ ih =>
    obtain ⟨n, hn⟩ := ih hleft
    have hquantum : (u.openVisit i).quantum j = u.quantum j := rfl
    rw [hquantum, openVisit_queue] at hn
    split at hn
    · next hj =>
      rw [← hj] at hn
      obtain ⟨m, hm⟩ := opened_deficit (u.queue j) (u.quantum j)
      exact ⟨m + n, by rw [hn, hm, Nat.add_mul, Nat.add_assoc]⟩
    · exact ⟨n, hn⟩
  | short _ _ _ _ _ ih => exact ih hleft
  | @last b u i p t l hv hq _ hcovered later ih =>
    obtain ⟨n, hn⟩ := ih hleft
    have hj : j ≠ i := by
      rintro rfl
      have hend := later.queue_eq j
      have hempty : (((u.takePacket j p []).setPointer (j + 1)).queue j).packets = [] := by
        refine (congrArg DownQueue.packets (takePacket_queue u j p [] j)).trans ?_
        rw [if_pos rfl]
        rfl
      rw [hempty] at hend
      exact hleft (List.append_eq_nil_iff.mp hend).2
    have hqueue : ((u.takePacket i p []).setPointer (i + 1)).queue j = u.queue j :=
      (takePacket_queue u i p [] j).trans (if_neg hj)
    have hquantum : ((u.takePacket i p []).setPointer (i + 1)).quantum j = u.quantum j := takePacket_quantum ..
    rw [hqueue, hquantum] at hn
    exact ⟨n, by rw [takenOf_cons_other hj, hn]⟩
  | @more b u i p rest t l hv hq hrest _ hcovered _ ih =>
    obtain ⟨n, hn⟩ := ih hleft
    rw [takePacket_quantum, takePacket_queue] at hn
    split at hn
    · next hj =>
      have hdeficit : ((u.queue j).taken p rest).deficit = (u.queue j).deficit - p.length := by
        unfold DownQueue.taken
        exact if_neg (by simpa using hrest)
      rw [hdeficit] at hn
      rw [← hj] at hcovered ⊢
      refine ⟨n, ?_⟩
      rw [takenOf_cons_self, List.map_cons, List.sum_cons]
      omega
    · next hj => exact ⟨n, by rw [takenOf_cons_other hj, hn]⟩

/-- An emptied queue keeps no deficit. -/
theorem queue_emptied (h : Visits visit budget s t l) {j : SlotId} (hbefore : (s.queue j).packets ≠ [])
    (hafter : (t.queue j).packets = []) : t.queue j = { packets := [], deficit := 0, held := false } := by
  induction h with
  | ended => exact absurd hafter hbefore
  | @held b u i p rest _ hq =>
    rw [hold_queue] at hafter
    split at hafter
    · exact absurd hafter hbefore
    · exact absurd hafter hbefore
  | @opened b u i t l _ _ ih =>
    refine ih ?_ hafter
    rw [openVisit_queue]
    split
    · rw [opened_packets]
      exact hbefore
    · exact hbefore
  | short _ _ _ _ _ ih => exact ih hbefore hafter
  | @last b u i p t l hv hq _ _ later ih =>
    by_cases hj : j = i
    · subst hj
      have hcleared : ((u.takePacket j p []).setPointer (j + 1)).queue j = { packets := [], deficit := 0, held := false } := by
        refine (takePacket_queue u j p [] j).trans ?_
        rw [if_pos rfl]
        unfold DownQueue.taken
        rw [hv.released]
        rfl
      exact (later.queue_of_idle (.inr (by rw [hcleared]))).trans hcleared
    · refine ih ?_ hafter
      have hqueue : ((u.takePacket i p []).setPointer (i + 1)).queue j = u.queue j :=
        (takePacket_queue u i p [] j).trans (if_neg hj)
      rw [hqueue]
      exact hbefore
  | @more b u i p rest t l _ _ hrest _ _ _ ih =>
    refine ih ?_ hafter
    rw [takePacket_queue]
    split
    · exact hrest
    · exact hbefore

/-- The round ends on the held slot at the pointer whose head packet is over the budget left, or when no ACTIVE slot has a
packet left (R88). -/
theorem ended_as (h : Visits visit budget s t l) :
    (∃ p rest, (s.slot t.down.pointer).state = .active ∧ (t.queue t.down.pointer).held = true
        ∧ (t.queue t.down.pointer).packets = p :: rest ∧ budget - (l.map fun x => x.2.length).sum < p.length)
      ∨ ∀ i, (s.slot i).state = .active → (t.queue i).packets = [] := by
  have htake : ∀ {u : State} {i : SlotId} {p rest} {b : Nat} {k : List (SlotId × List Byte)} {v : State},
      p.length ≤ b →
      ((∃ q rest', ((u.takePacket i p rest).slot v.down.pointer).state = .active ∧ (v.queue v.down.pointer).held = true
        ∧ (v.queue v.down.pointer).packets = q :: rest' ∧ b - p.length - (k.map fun x => x.2.length).sum < q.length)
      ∨ ∀ j, ((u.takePacket i p rest).slot j).state = .active → (v.queue j).packets = []) →
      ((∃ q rest', (u.slot v.down.pointer).state = .active ∧ (v.queue v.down.pointer).held = true
        ∧ (v.queue v.down.pointer).packets = q :: rest' ∧ b - (((i, p) :: k).map fun x => x.2.length).sum < q.length)
      ∨ ∀ j, (u.slot j).state = .active → (v.queue j).packets = []) := by
    intro u i p rest b k v _ ih
    simp only [takePacket_slot] at ih
    rw [List.map_cons, List.sum_cons, ← Nat.sub_sub]
    exact ih
  induction h with
  | ended hnone => exact .inr fun i hactive => nextVisit_eq_none hnone i hactive
  | @held b u i p rest hv hq hover =>
    refine .inl ⟨p, rest, ?_⟩
    have hpointer : (u.modQueue i fun k => { k with held := true }).down.pointer = i := hv.pointer
    rw [hpointer, hold_queue, if_pos rfl]
    exact ⟨hv.active, rfl, hq, hover⟩
  | opened _ _ ih | short _ _ _ _ _ ih => exact ih
  | last _ _ hfits _ _ ih => exact htake hfits ih
  | more _ _ _ hfits _ _ ih => exact htake hfits ih

/-- Every packet taken makes one DOWN update while the meter queue has room (R89, R119). -/
theorem meter_eq (h : Visits visit budget s t l) (hroom : s.meter.queue.length + l.length ≤ 64) :
    t.meter.queue = s.meter.queue ++ l.map fun x =>
      { slot := x.1, gen := (s.slot x.1).gen, kind := .down, bytes := x.2.length, assured := 0, band := s.meter.band } := by
  have htake : ∀ {u : State} {i : SlotId} {p rest} {k : List (SlotId × List Byte)} {v : State},
      ((u.takePacket i p rest).meter.queue.length + k.length ≤ 64 →
        v.meter.queue = (u.takePacket i p rest).meter.queue ++ k.map fun x =>
          { slot := x.1, gen := ((u.takePacket i p rest).slot x.1).gen, kind := .down, bytes := x.2.length, assured := 0
            band := (u.takePacket i p rest).meter.band }) →
      u.meter.queue.length + ((i, p) :: k).length ≤ 64 →
        v.meter.queue = u.meter.queue ++ ((i, p) :: k).map fun x =>
          { slot := x.1, gen := (u.slot x.1).gen, kind := .down, bytes := x.2.length, assured := 0
            band := u.meter.band } := fun {u i p rest k v} ih hroom => by
    rw [List.length_cons] at hroom
    have hhere : u.meter.queue.length < Config.meterEntries := by
      show u.meter.queue.length < 64
      omega
    have hqueue : (u.takePacket i p rest).meter.queue = u.meter.queue ++ [{
        slot := i, gen := (u.slot i).gen, kind := .down, bytes := p.length, assured := 0, band := u.meter.band }] := by
      exact congrArg (fun v : State => v.meter.queue) (offerUpdate_of_room (u.modQueue i fun k => k.taken p rest) _ _ _ _ _
        hhere)
    have hband : (u.takePacket i p rest).meter.band = u.meter.band := offerUpdate_band ..
    simp only [takePacket_slot, hband] at ih
    rw [hqueue] at ih
    rw [ih (by rw [List.length_append]; simp only [List.length_singleton]; omega), List.append_assoc]
    rfl
  induction h with
  | ended | held => exact (List.append_nil _).symm
  | opened _ _ ih | short _ _ _ _ _ ih => exact ih hroom
  | last _ _ _ _ _ ih => exact htake ih hroom
  | more _ _ _ _ _ _ ih => exact htake ih hroom

/-- The first served slot from the pointer is visited first, and gives a packet unless a hold spared its quantum. -/
theorem first_taken (h : Visits none budget s t l) (hsized : s.Sized) (hbudget : 2048 ≤ budget) {i : SlotId}
    (hnext : s.nextVisit = some i) (hheld : (s.queue i).held = false) : l.head?.map (·.1) = some i := by
  cases h with
  | ended hnone => exact absurd (hnone.symm.trans hnext) nofun
  | @opened b u j t l hnext' later =>
    obtain rfl := Option.some.inj (hnext'.symm.trans hnext)
    have hopened : (s.openVisit j).queue j = (s.queue j).opened (s.quantum j) := by rw [openVisit_queue, if_pos rfl]
    have hdeficit : s.quantum j ≤ ((s.openVisit j).queue j).deficit := by
      rw [hopened, DownQueue.opened, if_neg (by rw [hheld]; exact Bool.false_ne_true)]
      exact Nat.le_add_left ..
    have hlength : ∀ {p rest}, ((s.openVisit j).queue j).packets = p :: rest → p.length ≤ 2048 := fun {p rest} hq =>
      ((hsized.openVisit j).length j p (hq ▸ List.mem_cons_self ..)).2
    have hquantum := hsized.quantum j
    cases later with
    | held _ hq hover =>
      have := hlength hq
      omega
    | short _ hq _ hshort =>
      have := hlength hq
      omega
    | last => rfl
    | more => rfl

end Visits

/-- A round's packets are within its budget (R88). -/
theorem visits_length_le (fuel : Nat) (visit : Option SlotId) (budget : Nat) (s : State) :
    ((State.visits fuel visit budget s).2.map fun x => x.2.length).sum ≤ budget := by
  induction fuel generalizing visit budget s with
  | zero => exact Nat.zero_le _
  | succ fuel ih =>
    cases visit with
    | none =>
      unfold State.visits
      split
      · exact Nat.zero_le _
      · exact ih ..
    | some i =>
      unfold State.visits
      split
      · exact ih ..
      · next p rest _ =>
        split
        · exact Nat.zero_le _
        · next hover =>
          have hrest : ∀ (v : Option SlotId) (u : State),
              p.length + ((State.visits fuel v (budget - p.length) u).2.map fun x => x.2.length).sum ≤ budget := fun v u => by
            have := ih v (budget - p.length) u
            omega
          split
          · exact ih ..
          · rw [List.map_cons, List.sum_cons]
            split <;> exact hrest ..

/-! ### Segments (R89) -/

/-- The packets of a segment, each with its slot. -/
def Segment.pairs (g : Segment) : List (SlotId × List Byte) := g.packets.map fun p => (g.slot, p)

theorem segmentsOf_pairs (l : List (SlotId × List Byte)) : (segmentsOf l).flatMap Segment.pairs = l := by
  induction l with
  | nil => rfl
  | cons x l ih =>
    unfold segmentsOf
    split
    · next hnil =>
      rw [hnil] at ih
      rw [← ih]
      rfl
    · next g gs hcons =>
      rw [hcons] at ih
      split
      · next hslot =>
        rw [← ih]
        obtain ⟨i, p⟩ := x
        obtain rfl : g.slot = i := hslot
        rfl
      · rw [← ih]
        rfl

theorem segmentsOf_head (l : List (SlotId × List Byte)) : (segmentsOf l).head?.map (·.slot) = l.head?.map (·.1) := by
  cases l with
  | nil => rfl
  | cons x l =>
    unfold segmentsOf
    split
    · rfl
    · split
      · next hslot => exact congrArg some hslot
      · rfl

section
variable (gs : List Segment)

theorem pairs_packets : (gs.flatMap Segment.pairs).map (·.2) = gs.flatMap (·.packets) := by
  induction gs with
  | nil => rfl
  | cons g gs ih =>
    rw [List.flatMap_cons, List.flatMap_cons, List.map_append, ih]
    congr 1
    exact (List.map_map ..).trans (List.map_id _)

theorem pairs_taken (i : SlotId) : takenOf (gs.flatMap Segment.pairs) i = (gs.filter (·.slot == i)).flatMap (·.packets) := by
  induction gs with
  | nil => rfl
  | cons g gs ih =>
    have happend : takenOf (g.pairs ++ gs.flatMap Segment.pairs) i = takenOf g.pairs i ++ takenOf (gs.flatMap Segment.pairs) i := by
      simp [takenOf]
    rw [List.flatMap_cons, happend, ih]
    by_cases hslot : g.slot = i
    · rw [List.filter_cons_of_pos (by simpa using hslot), List.flatMap_cons]
      congr 1
      simp [takenOf, Segment.pairs, List.filter_map, Function.comp_def, hslot]
    · rw [List.filter_cons_of_neg (by simpa using hslot)]
      simp [takenOf, Segment.pairs, List.filter_map, Function.comp_def, hslot]

theorem pairs_map {α : Type} (f : SlotId → List Byte → α) :
    (gs.flatMap Segment.pairs).map (fun x => f x.1 x.2) = gs.flatMap fun g => g.packets.map (f g.slot) := by
  rw [List.map_flatMap]
  congr 1
  funext g
  exact List.map_map ..

end

end Sys2Proof.Machine
end

section
/-! PROOFS. The round composed at a boundary while LIT, and its payload (O8, O10; R3, R6, R7, R16, R86 to R89). -/

namespace Sys2Proof.Machine

-- One thread elaborates this section: the text as a whole is near the memory limit of the check.
set_option Elab.async false

/-! ### The part as its round is composed -/

/-- What the counts and the offers of a boundary keep of what a round and its plan are made of. -/
structure State.AtRound (s u : State) : Prop where
  slot : ∀ j, (u.slot j).fixed = (s.slot j).fixed
  standing : u.tree.standing = s.tree.standing
  plan : u.sched.fixed = s.sched.fixed
  config : u.config = s.config
  queues : u.down.queues = s.down.queues
  pointer : u.down.pointer = s.down.pointer
  meter : u.meter.queue = s.meter.queue

namespace State.AtRound

variable {s u : State} (h : s.AtRound u)
include h

theorem slot_state (j : SlotId) : (u.slot j).state = (s.slot j).state := (congrArg SlotRecord.state (h.slot j) :)
theorem gen (j : SlotId) : (u.slot j).gen = (s.slot j).gen := (congrArg SlotRecord.gen (h.slot j) :)
theorem profile (j : SlotId) : (u.slot j).profile = (s.slot j).profile := (congrArg SlotRecord.profile (h.slot j) :)
theorem queue (j : SlotId) : u.queue j = s.queue j := congrArg (fun v : Vector DownQueue 128 => v.get j) h.queues
theorem nextPlan : u.sched.nextPlan = s.sched.nextPlan := (congrArg Scheduler.nextPlan h.plan :)
theorem rotation : u.sched.rotation = s.sched.rotation := (congrArg Scheduler.rotation h.plan :)

theorem demand (j : SlotId) : u.demand j = s.demand j :=
  congrArg (fun v : Vector Demand 128 => v.get j) (congrArg Scheduler.demand h.plan :)

theorem quantum (j : SlotId) : u.quantum j = s.quantum j := by
  unfold State.quantum State.slotProfile State.profileOf
  rw [h.profile, h.config]

theorem nextVisit : u.nextVisit = s.nextVisit := by
  have hserved : u.served = s.served := funext fun j => by
    unfold State.served
    rw [h.slot_state, h.queue]
  unfold State.nextVisit
  rw [hserved, h.pointer]

theorem trans {v : State} (k : u.AtRound v) : s.AtRound v :=
  ⟨fun j => (k.slot j).trans (h.slot j), k.standing.trans h.standing, k.plan.trans h.plan, k.config.trans h.config,
    k.queues.trans h.queues, k.pointer.trans h.pointer, k.meter.trans h.meter⟩

end State.AtRound

/-- Orders that leave the payload and the settings leave a round what it is made of. -/
theorem State.OrdersOnly.atRound {s u : State} (h : s.OrdersOnly u) (hdown : u.down = s.down) (hmeter : u.meter = s.meter)
    (hconfig : u.config = s.config) : s.AtRound u :=
  ⟨h.slot, TreePort.standing_of_port h.port, h.plan, hconfig, by rw [hdown], by rw [hdown], by rw [hmeter]⟩

section
variable (s : State) (offersFirst : Bool) (upsets : List TallyUpset)

theorem begun_meter : (s.begun upsets).meter.queue = s.meter.queue := by
  have hupsets : ∀ u : State, (u.applyUpsets upsets).meter.queue = u.meter.queue := fun u =>
    foldl_keeps (·.meter.queue) (fun (s : State) (u : TallyUpset) => s.modTally u.slot u.band (·.upsetBy u.kind))
      (fun _ _ => rfl) upsets u
  have hadvance : ∀ u : State, u.advanceTime.meter.queue = u.meter.queue := fun u => by
    unfold State.advanceTime
    dsimp only
    split
    · rfl
    · rw [reevaluateBand_eq]
      rfl
  unfold State.begun
  rw [(State.beginHeldRetest_frame _).2.2.2.2.1, hupsets, hadvance]
  simp [State.countRound]

theorem begun_sched : (s.begun upsets).sched.fixed = s.sched.fixed := by
  have hretest : ∀ u : State, u.beginHeldRetest.sched.fixed = u.sched.fixed := fun u => by
    unfold State.beginHeldRetest
    split <;> rfl
  unfold State.begun
  rw [hretest]
  simp [State.countRound]

/-- The part as its round is composed: after the counts, and after the offers where these come first (log entry 5). -/
def State.beforeRound (s : State) (offersFirst : Bool) (upsets : List TallyUpset) : State :=
  if offersFirst then (s.begun upsets).roundOffers else s.begun upsets

theorem beforeRound_offersLast : s.beforeRound false upsets = s.begun upsets := by
  unfold State.beforeRound
  exact if_neg Bool.false_ne_true

theorem beforeRound_offersFirst : s.beforeRound true upsets = (s.begun upsets).roundOffers := by
  unfold State.beforeRound
  exact if_pos rfl

theorem roundOffers_atRound : s.AtRound s.roundOffers :=
  (State.OrdersOnly.refl s).roundOffers.atRound (by simp) (by simp) (by simp)

theorem begun_atRound : s.AtRound (s.begun upsets) := by
  obtain ⟨bhome, btree, bdown, -, bconfig, -⟩ := begun_kept s upsets
  exact ⟨fun j => by rw [slot_congr bhome], by rw [btree], begun_sched s upsets, bconfig, by rw [bdown], by rw [bdown],
    begun_meter s upsets⟩

theorem beforeRound_atRound : s.AtRound (s.beforeRound offersFirst upsets) := by
  unfold State.beforeRound
  split
  · exact (begun_atRound s upsets).trans (roundOffers_atRound _)
  · exact begun_atRound s upsets

theorem begun_now : (s.begun upsets).now = s.clock.round + 1 := by
  unfold State.now
  rw [begun_clock]
  rfl

theorem roundOffers_now : s.roundOffers.now = s.now := by
  unfold State.now
  rw [roundOffers_eq, offerWaitingBeacon_clock, (State.offerRoster_frame _).2.2.2.2.2.2.2.2.1, (orderOffers_kept s).2.2]

theorem beforeRound_now : (s.beforeRound offersFirst upsets).now = s.clock.round + 1 := by
  unfold State.beforeRound
  split
  · rw [roundOffers_now, begun_now]
  · exact begun_now s upsets

end

/-! ### The round composed -/

/-- The part once a round's order slots are filled and the bindings it passed over are lost (R16, R68). -/
def State.ordersOut (s : State) (n : Round) : State := (s.endTransmission.selectOrders n).1.passBindings n

section
variable (s : State) (n : Round)

theorem endTransmission_atRound : s.AtRound s.endTransmission := by
  have hqueues : s.endTransmission.down.queues = s.down.queues ∧ s.endTransmission.down.pointer = s.down.pointer := by
    unfold State.endTransmission
    dsimp only
    split <;> exact ⟨rfl, rfl⟩
  exact ⟨fun j => by rw [endTransmission_ordersOnly_slot], by rw [endTransmission_tree]; rfl, by simp, by simp, hqueues.1,
    hqueues.2, by simp⟩

/-- What the order slots leave of what the payload and the plan are made of. -/
theorem ordersOut_atRound : s.AtRound (s.ordersOut n) :=
  (endTransmission_atRound s).trans
    ((((State.OrdersOnly.refl s.endTransmission).selectOrders n).passBindings n).atRound (by simp) (by simp) (by simp))

/-- The part with the round composed, given its order slots and payload. -/
theorem composeRound_eq :
    s.composeRound n = (s.ordersOut n).composePayload.1.modTree fun t => { t with
      txRound := some {
        round := n
        check := headerCheck n (s.endTransmission.selectOrders n).2 ((s.ordersOut n).planFor n)
          (s.ordersOut n).composePayload.2.length
        slots := (s.endTransmission.selectOrders n).2
        plan := (s.ordersOut n).planFor n
        segments := (s.ordersOut n).composePayload.2 }
      issued := keepIssued t.issued {
        plan := (s.ordersOut n).planFor n, classified := 0, echoesEnded := [], echoLight := [] } } := by
  unfold State.composeRound State.ordersOut
  rfl

theorem composeRound_txRound :
    ∃ r, (s.composeRound n).tree.txRound = some r ∧ r.round = n ∧ r.slots = (s.endTransmission.selectOrders n).2
      ∧ r.plan = (s.ordersOut n).planFor n ∧ r.segments = (s.ordersOut n).composePayload.2
      ∧ r.check = headerCheck r.round r.slots r.plan r.segments.length := by
  rw [composeRound_eq]
  generalize (s.ordersOut n).planFor n = p, (s.ordersOut n).composePayload = v, (s.endTransmission.selectOrders n).2 = o
  exact ⟨_, rfl, rfl, rfl, rfl, rfl, rfl⟩

theorem composeRound_issued :
    (s.composeRound n).tree.issued.getLast? =
      some { plan := (s.ordersOut n).planFor n, classified := 0, echoesEnded := [], echoLight := [] } := by
  rw [composeRound_eq]
  generalize (s.ordersOut n).planFor n = p, (s.ordersOut n).composePayload = v
  show (keepIssued v.1.tree.issued _).getLast? = _
  unfold keepIssued
  exact List.getLast?_concat

theorem composeRound_down : (s.composeRound n).down = (s.ordersOut n).composePayload.1.down := by
  rw [composeRound_eq, State.modTree_down]

theorem composeRound_meter : (s.composeRound n).meter = (s.ordersOut n).composePayload.1.meter := by
  rw [composeRound_eq, State.modTree_meter]

theorem fillSlots_length (es : List OrderEntry) (room : Nat) (s : State) : (State.fillSlots n es room s).2.length ≤ room := by
  induction es generalizing room s with
  | nil => exact Nat.zero_le _
  | cons e es ih =>
    cases room with
    | zero => exact Nat.le_refl _
    | succ room =>
      unfold State.fillSlots
      split
      · exact Nat.succ_le_succ (ih ..)
      · exact ih ..

/-- A downstream round has four order slots (R6). -/
theorem selectOrders_length : (s.selectOrders n).2.length = 4 := by
  unfold State.selectOrders
  have := fillSlots_length n (s.tree.candidates n) 4 s
  rw [List.length_append, List.length_replicate]
  omega

end

/-- What a boundary leaves of the round composed at it, and of the plan built then (R6, R73, R181). -/
theorem roundBoundary_lit (s : State) (offersFirst : Bool) (upsets : List TallyUpset) (hlit : s.tree.state = .lit) :
    ∃ t, exec (.roundBoundary offersFirst upsets) s = .next t
      ∧ t.tree.port = ((s.beforeRound offersFirst upsets).composeRound (s.clock.round + 1)).tree.port
      ∧ t.down = ((s.beforeRound offersFirst upsets).composeRound (s.clock.round + 1)).down
      ∧ t.meter = ((s.beforeRound offersFirst upsets).composeRound (s.clock.round + 1)).meter
      ∧ t.sched.fixed = (((s.beforeRound offersFirst upsets).composeRound (s.clock.round + 1)).buildPlan
          (s.clock.round + 1 + 1)).sched.fixed := by
  have hcomposed : (s.beforeRound offersFirst upsets).composed =
      ((s.beforeRound offersFirst upsets).composeRound (s.clock.round + 1)).buildPlan (s.clock.round + 1 + 1) := by
    unfold State.composed
    rw [if_pos ((TreePort.state_of_standing (beforeRound_atRound s offersFirst upsets).standing).trans hlit), beforeRound_now]
  have hcompose := fun v : State => (State.buildPlan_frame v (s.clock.round + 1 + 1)).2
  have hport := fun v : State => buildPlan_port v (s.clock.round + 1 + 1)
  have hstart : ∀ v : State, v.beginPeriodic.startLocate.tree.port = v.tree.port
      ∧ v.beginPeriodic.startLocate.down = v.down ∧ v.beginPeriodic.startLocate.meter = v.meter
      ∧ v.beginPeriodic.startLocate.sched = v.sched := fun v =>
    ⟨(roundEnd_kept v).2, by simp, by simp, by simp⟩
  cases offersFirst
  · refine ⟨_, execRoundBoundary_offersLast s upsets, ?_⟩
    have hoffers := (State.OrdersOnly.refl (s.begun upsets).composed).roundOffers
    obtain ⟨eport, edown, emeter, esched⟩ := hstart (s.begun upsets).composed.roundOffers
    rw [eport, edown, emeter, esched, hoffers.port, hoffers.plan, (roundOffers_kept _).2.1, (roundOffers_kept _).1]
    rw [beforeRound_offersLast] at hcomposed ⊢
    rw [hcomposed]
    exact ⟨hport _, (hcompose _).1, (hcompose _).2.1, rfl⟩
  · refine ⟨_, execRoundBoundary_offersFirst s upsets, ?_⟩
    obtain ⟨eport, edown, emeter, esched⟩ := hstart (s.begun upsets).roundOffers.composed
    rw [eport, edown, emeter, esched]
    rw [beforeRound_offersFirst] at hcomposed ⊢
    rw [hcomposed]
    exact ⟨hport _, (hcompose _).1, (hcompose _).2.1, rfl⟩

end Sys2Proof.Machine
end

section
/-! PROOFS. The round composed and its payload (O8, O10; R3, R6, R7, R16, R86 to R89). -/

namespace Sys2Proof.Machine

-- One thread elaborates this section: the text as a whole is near the memory limit of the check.
set_option Elab.async false

/-! ### The payload of a round -/

/-- The packets that a round takes, with their slots, from the state its order slots leave (R87). -/
def State.roundPackets (s : State) : List (SlotId × List Byte) := (State.visits 4096 none Config.roundBudget s).2

/-- The part once those packets left their queues. -/
def State.roundDone (s : State) : State := (State.visits 4096 none Config.roundBudget s).1

section
variable (s : State)

theorem composePayload_segments : s.composePayload.2 = segmentsOf s.roundPackets := rfl

theorem composePayload_packets : s.composePayload.2.flatMap (·.packets) = s.roundPackets.map (·.2) := by
  rw [composePayload_segments, ← pairs_packets, segmentsOf_pairs]

theorem composePayload_taken (i : SlotId) :
    (s.composePayload.2.filter (·.slot == i)).flatMap (·.packets) = takenOf s.roundPackets i := by
  rw [composePayload_segments, ← pairs_taken, segmentsOf_pairs]

theorem composePayload_lengths :
    ((s.composePayload.2.flatMap (·.packets)).map List.length).sum = (s.roundPackets.map fun x => x.2.length).sum := by
  rw [composePayload_packets, List.map_map]
  rfl

theorem roundPackets_length : (s.roundPackets.map fun x => x.2.length).sum ≤ 65536 := by
  unfold State.roundPackets
  exact visits_length_le ..

theorem composePayload_eq :
    s.composePayload = (s.roundDone.modDown fun d => { d with
      txBlocks := packetBlocks (s.roundPackets.map (·.2)) }, segmentsOf s.roundPackets) := rfl

theorem composePayload_txBlocks :
    s.composePayload.1.down.txBlocks = (s.roundPackets.map fun x => blocksOf x.2).sum := by
  rw [composePayload_eq]
  unfold packetBlocks
  rw [List.map_map]
  rfl

end

/-- The plan that was kept for a round, where it is for that round (R3, R6). -/
theorem planFor_of_some {s : State} {n : Round} {p : Plan} (h : s.sched.nextPlan = some p) (hround : p.round = n) :
    s.planFor n = p := by
  unfold State.planFor
  rw [h]
  exact if_pos hround

theorem planFor_of_none {s : State} (h : s.sched.nextPlan = none) (n : Round) : s.planFor n = Plan.empty n := by
  unfold State.planFor
  rw [h]

/-! ### The round while LIT -/

/-- Settles O8: the round composed while LIT. -/
theorem roundComposedWhileLit : Obligations.RoundComposedWhileLit := by
  unfold Obligations.RoundComposedWhileLit
  intro s offersFirst upsets hlit
  obtain ⟨t, hexec, hport, hdown, -, -⟩ := roundBoundary_lit s offersFirst upsets hlit
  have hmade := (beforeRound_atRound s offersFirst upsets).trans
    (ordersOut_atRound (s.beforeRound offersFirst upsets) (s.clock.round + 1))
  have hissued := (congrArg List.getLast? (TreePort.issued_of_port hport)).trans (composeRound_issued ..)
  obtain ⟨r, htx, hround, hslots, hplan, hsegments, hcheck⟩ :=
    composeRound_txRound (s.beforeRound offersFirst upsets) (s.clock.round + 1)
  rw [← hplan] at hissued
  rw [composeRound_down] at hdown
  refine ⟨t, r, hexec, (TreePort.txRound_of_port hport).trans htx, hround, ?_, fun p hp hp' => ?_, fun hnone => ?_, ?_, ?_,
    hcheck, hissued⟩
  · rw [hslots, selectOrders_length]
  · rw [hplan, planFor_of_some (hmade.nextPlan.trans hp) hp']
  · rw [hplan, planFor_of_none (hmade.nextPlan.trans hnone)]
    rfl
  · rw [hsegments, composePayload_lengths]
    exact roundPackets_length _
  · rw [hdown, hsegments, composePayload_packets, composePayload_txBlocks, List.map_map]
    rfl

end Sys2Proof.Machine
end

section
/-! PROOFS. The payload that the round composed while LIT carries (O10; R86 to R89). -/

namespace Sys2Proof.Machine

-- One thread elaborates this section: the text as a whole is near the memory limit of the check.
set_option Elab.async false

/-! ### The order of the slots from a pointer (R73, R87) -/

section
variable {p i j : SlotId}

theorem val_sub_of_le (h : p ≤ i) : (i - p).val = i.val - p.val := Fin.coe_sub_iff_le.mpr h

theorem val_sub_of_lt (h : i < p) : (i - p).val = 128 + i.val - p.val := Fin.coe_sub_iff_lt.mpr h

/-- In rotation order the slots lie ever farther from the pointer. -/
theorem rotationOrder_pairwise (p : SlotId) : (rotationOrder p).Pairwise fun i j => (i - p).val < (j - p).val := by
  have hsorted : allSlots.Pairwise (· < ·) := List.pairwise_lt_finRange 128
  unfold rotationOrder
  refine List.pairwise_append.mpr ⟨?_, ?_, fun i hi j hj => ?_⟩
  · refine List.Pairwise.imp_of_mem (fun {i j} hi hj hlt => ?_) (hsorted.filter _)
    have hi := of_decide_eq_true (List.mem_filter.mp hi).2
    have hj := of_decide_eq_true (List.mem_filter.mp hj).2
    rw [val_sub_of_le hi, val_sub_of_le hj]
    exact Nat.sub_lt_sub_right hi hlt
  · refine List.Pairwise.imp_of_mem (fun {i j} hi hj hlt => ?_) (hsorted.filter _)
    have hi := of_decide_eq_true (List.mem_filter.mp hi).2
    have hj := of_decide_eq_true (List.mem_filter.mp hj).2
    rw [val_sub_of_lt hi, val_sub_of_lt hj]
    have hij : i.val < j.val := hlt
    have hip : i.val < p.val := hi
    omega
  · have hi := of_decide_eq_true (List.mem_filter.mp hi).2
    have hj := of_decide_eq_true (List.mem_filter.mp hj).2
    rw [val_sub_of_le hi, val_sub_of_lt hj]
    have := i.isLt
    have hip : p.val ≤ i.val := hi
    omega

/-- Two lists in which every slot stands, farther and farther from a pointer, are the same. -/
theorem rotationOrder_eq (p : SlotId) : rotationOrder p = allSlots.map (p + ·) := by
  have hmap : (allSlots.map (p + ·)).Pairwise fun i j => (i - p).val < (j - p).val := by
    refine List.pairwise_map.mpr ((List.pairwise_lt_finRange 128).imp fun {i j} hlt => ?_)
    rw [add_sub_cancel_left, add_sub_cancel_left]
    exact hlt
  have hnodup : ∀ {l : List SlotId}, (l.Pairwise fun i j => (i - p).val < (j - p).val) → l.Nodup := fun h =>
    h.imp fun {i j} hlt => by
      rintro rfl
      exact Nat.lt_irrefl _ hlt
  refine List.Perm.eq_of_pairwise (le := fun i j => (i - p).val < (j - p).val)
    (fun i j _ _ hij hji => absurd hji (Nat.lt_asymm hij)) (rotationOrder_pairwise p) hmap ?_
  refine (List.perm_ext_iff_of_nodup (hnodup (rotationOrder_pairwise p)) (hnodup hmap)).mpr fun i =>
    ⟨fun _ => List.mem_map.mpr ⟨i - p, mem_allSlots _, add_sub_cancel p i⟩, fun _ => rotationOrder_mem p i⟩

end

/-- The served slot nearest the pointer is the one visited next (R87). -/
theorem nextVisit_of_nearest {s : State} {i : SlotId} (hserved : s.served i = true)
    (hnearest : ∀ j : SlotId, (j - s.down.pointer).val < (i - s.down.pointer).val → s.served j = false) :
    s.nextVisit = some i := by
  obtain ⟨pre, post, hsplit⟩ := List.append_of_mem (rotationOrder_mem s.down.pointer i)
  refine List.find?_eq_some_iff_append.mpr ⟨hserved, pre, post, hsplit, fun j hj => ?_⟩
  have hpairs := rotationOrder_pairwise s.down.pointer
  rw [hsplit] at hpairs
  rw [hnearest j ((List.pairwise_append.mp hpairs).2.2 j hj i (List.mem_cons_self ..))]
  rfl

theorem served_eq_true_iff {s : State} {i : SlotId} :
    s.served i = true ↔ (s.slot i).state = .active ∧ (s.queue i).packets ≠ [] := by
  unfold State.served
  rw [Bool.and_eq_true, beq_iff_eq]
  simp

/-! ### The payload -/

theorem composePayload_queue (s : State) (i : SlotId) : s.composePayload.1.queue i = s.roundDone.queue i := by
  rw [composePayload_eq]
  rfl

theorem composePayload_pointer (s : State) : s.composePayload.1.down.pointer = s.roundDone.down.pointer := by
  rw [composePayload_eq]
  rfl

theorem composePayload_meter (s : State) : s.composePayload.1.meter = s.roundDone.meter := by
  rw [composePayload_eq, State.modDown_meter]

theorem roundDone_band (s : State) : s.roundDone.meter.band = s.meter.band :=
  visits_keeps (·.meter.band) (fun _ _ => rfl) (fun _ _ _ => rfl) offerUpdate_band ..

/-- What makes a round's payload keeps the sizes the port accepts. -/
theorem State.AtRound.sized {s u : State} (h : s.AtRound u)
    (hlength : ∀ i, ∀ p ∈ (s.queue i).packets, 64 ≤ p.length ∧ p.length ≤ 2048)
    (hweight : ∀ p : Fin 8, 1 ≤ (s.config.profiles.get p).weight) : u.Sized := by
  refine ⟨fun i p hp => hlength i p (by rwa [← h.queue]), fun i => ?_⟩
  rw [h.quantum]
  exact Nat.le_mul_of_pos_right 2048 (hweight _)

/-- Settles O10: the payload's visits. -/
theorem payloadVisited : Obligations.PayloadVisited := by
  unfold Obligations.PayloadVisited
  intro s offersFirst upsets hlit hlength hweight
  obtain ⟨t, hexec, hport, hdown, hmeter, -⟩ := roundBoundary_lit s offersFirst upsets hlit
  obtain ⟨r, htx, -, -, -, hsegments, -⟩ :=
    composeRound_txRound (s.beforeRound offersFirst upsets) (s.clock.round + 1)
  have hmade := (beforeRound_atRound s offersFirst upsets).trans
    (ordersOut_atRound (s.beforeRound offersFirst upsets) (s.clock.round + 1))
  rw [composeRound_down] at hdown
  rw [composeRound_meter, composePayload_meter] at hmeter
  refine ⟨t, r, hexec, (TreePort.txRound_of_port hport).trans htx, ?_⟩
  generalize (s.beforeRound offersFirst upsets).ordersOut (s.clock.round + 1) = v at hdown hmeter hsegments hmade
  have hsized := hmade.sized hlength hweight
  have hvisits : Visits none 65536 v v.roundDone v.roundPackets := visits_of_round hsized
  have hqueue : ∀ i, t.queue i = v.roundDone.queue i := fun i =>
    (congrArg (fun d : Downstream => d.queues.get i) hdown).trans (composePayload_queue v i)
  have hpointer : t.down.pointer = v.roundDone.down.pointer :=
    (congrArg Downstream.pointer hdown).trans (composePayload_pointer v)
  have hserved : ∀ i, v.served i = s.served i := fun i => by
    unfold State.served
    rw [hmade.slot_state, hmade.queue]
  have hband : t.meter.band = v.meter.band := by rw [hmeter, roundDone_band]
  dsimp only
  simp only [hsegments, hqueue, hpointer, composePayload_taken, composePayload_lengths]
  refine ⟨fun i => ?_, fun i hidle => ?_, fun i hactive hpackets hheld hnearest => ?_, fun i hleft => ?_,
    fun i hactive hbefore hafter => ?_, ?_, fun hroom => ?_⟩
  · rw [hvisits.queue_eq, hmade.queue]
  · rw [hvisits.queue_of_idle (.inl (by rwa [hmade.slot_state])), hmade.queue]
  · rw [composePayload_segments, segmentsOf_head]
    refine hvisits.first_taken hsized (by decide) ?_ (by rwa [hmade.queue])
    rw [hmade.nextVisit]
    refine nextVisit_of_nearest (served_eq_true_iff.mpr ⟨hactive, hpackets⟩) fun j hj => ?_
    exact Bool.eq_false_iff.mpr fun h =>
      (hnearest j hj).elim (· (served_eq_true_iff.mp h).1) (served_eq_true_iff.mp h).2
  · obtain ⟨k, hk⟩ := hvisits.deficit_eq hleft
    rw [hmade.queue, hmade.quantum] at hk
    exact ⟨k, hk⟩
  · exact hvisits.queue_emptied (by rwa [hmade.queue]) hafter
  · have hend := hvisits.ended_as
    simp only [hmade.slot_state] at hend
    exact hend
  · rw [composePayload_packets, List.length_map, ← hmade.meter] at hroom
    rw [hband, hmeter, hvisits.meter_eq hroom, hmade.meter, composePayload_segments,
      ← pairs_map (segmentsOf v.roundPackets) fun i p =>
        ({ slot := i, gen := (s.slot i).gen, kind := .down, bytes := p.length, assured := 0, band := v.meter.band } :
          MeterUpdate),
      segmentsOf_pairs]
    simp only [hmade.gen]

end Sys2Proof.Machine
end

section
/-! PROOFS. The shares of a plan's bursts and their places (R75 to R79). -/

namespace Sys2Proof.Machine

-- One thread elaborates this section: the text as a whole is near the memory limit of the check.
set_option Elab.async false

/-! ### Ticks shared in proportion (R77, R78) -/

/-- The ticks that a stage shares out over a list: each want in full where they fit, else the whole part of each proportion
and what is left one tick at a time in order. -/
def SharedOut {α : Type} (l : List α) (q : Nat) (wants got : α → Nat) : Prop :=
  let total := (l.map wants).sum
  (total ≤ q → ∀ e ∈ l, got e = wants e) ∧
  (q < total →
    (l.map got).sum = q
      ∧ (∀ e ∈ l, wants e * q / total ≤ got e ∧ got e ≤ wants e * q / total + 1 ∧ got e ≤ wants e)
      ∧ l.Pairwise fun e f => got f = wants f * q / total + 1 → wants e * q / total < wants e → got e = wants e * q / total + 1)

section
variable {α : Type} {want part got : α → Nat}

theorem leftoverPass_zero (l : List (Nat × Nat)) : leftoverPass 0 l = l.map (·.2) := by
  induction l with
  | nil => rfl
  | cons x l ih =>
    unfold leftoverPass
    rw [if_neg fun h => Nat.lt_irrefl 0 h.1, ih]
    rfl

/-- What is left goes to those below their want, one tick each, in order, as far as it reaches. -/
theorem leftoverPass_spec (l : List α) (k : Nat) (h : l.map got = leftoverPass k (l.map fun a => (want a, part a))) :
    (l.map got).sum = (l.map part).sum + min k (l.countP fun a => decide (part a < want a))
      ∧ (∀ a ∈ l, part a ≤ got a ∧ got a ≤ part a + 1 ∧ (part a ≤ want a → got a ≤ want a))
      ∧ l.Pairwise fun e f => got f = part f + 1 → part e < want e → got e = part e + 1 := by
  induction l generalizing k with
  | nil => simp
  | cons a l ih =>
    rw [List.map_cons, List.map_cons, leftoverPass] at h
    split at h
    · next hgiven =>
      obtain ⟨hhead, htail⟩ := List.cons.inj h
      obtain ⟨hsum, heach, horder⟩ := ih (k - 1) htail
      refine ⟨?_, List.forall_mem_cons.mpr ⟨by omega, heach⟩, List.pairwise_cons.mpr ⟨fun f _ _ _ => hhead, horder⟩⟩
      rw [List.countP_cons_of_pos (by simpa using hgiven.2)]
      simp only [List.map_cons, List.sum_cons]
      omega
    · next hkept =>
      obtain ⟨hhead, htail⟩ := List.cons.inj h
      obtain ⟨hsum, heach, horder⟩ := ih k htail
      refine ⟨?_, List.forall_mem_cons.mpr ⟨by omega, heach⟩, List.pairwise_cons.mpr ⟨fun f hf hfull hbelow => ?_, horder⟩⟩
      · by_cases hbelow : part a < want a
        · have hk : k = 0 := by omega
          simp only [List.map_cons, List.sum_cons]
          omega
        · rw [List.countP_cons_of_neg (by simpa using hbelow)]
          simp only [List.map_cons, List.sum_cons]
          omega
      · have hk : k = 0 := by omega
        rw [hk, leftoverPass_zero, List.map_map] at htail
        have hf' : got f = part f := List.map_inj_left.mp htail f hf
        omega

/-- The whole parts of a proportion are within what is shared, and what they leave is less than one tick for each share with
a remainder, all of which are below their want. -/
theorem parts_leftover (l : List α) (wants : α → Nat) {q total : Nat} (hq : q < total) :
    (l.map wants).sum * q ≤
      total * ((l.map fun a => wants a * q / total).sum + l.countP fun a => decide (wants a * q / total < wants a)) := by
  induction l with
  | nil => simp
  | cons a l ih =>
    have hdiv := Nat.div_add_mod (wants a * q) total
    have hmod := Nat.mod_lt (wants a * q) (Nat.zero_lt_of_lt hq)
    simp only [List.map_cons, List.sum_cons, Nat.add_mul]
    by_cases hbelow : wants a * q / total < wants a
    · rw [List.countP_cons_of_pos (by simpa using hbelow)]
      rw [Nat.mul_add] at ih
      rw [Nat.mul_add, Nat.mul_add, Nat.mul_add]
      omega
    · rw [List.countP_cons_of_neg (by simpa using hbelow)]
      have hzero : wants a = 0 := by
        by_contra hne
        exact hbelow (Nat.div_lt_of_lt_mul (by
          rw [Nat.mul_comm total]
          exact Nat.mul_lt_mul_of_pos_left hq (Nat.pos_of_ne_zero hne)))
      simp only [hzero, Nat.zero_mul, Nat.zero_div, Nat.zero_add]
      exact ih

theorem parts_sum_le (l : List α) (wants : α → Nat) (q total : Nat) :
    total * (l.map fun a => wants a * q / total).sum ≤ (l.map wants).sum * q := by
  induction l with
  | nil => simp
  | cons a l ih =>
    have hdiv := Nat.mul_div_le (wants a * q) total
    simp only [List.map_cons, List.sum_cons, Nat.add_mul, Nat.mul_add]
    omega

/-- A stage's ticks are shared out as R77 and R78 say. -/
theorem sharedOut_of_stage {l : List α} {q : Nat} {wants got : α → Nat} (h : l.map got = stage q (l.map wants)) :
    SharedOut l q wants got := by
  unfold stage scale at h
  dsimp only at h
  refine ⟨fun hfit => ?_, fun hover => ?_⟩
  · rw [if_pos hfit, if_pos hfit, leftoverPass_zero, List.zip_map', List.map_map] at h
    exact List.map_inj_left.mp h
  · have hnot := Nat.not_le.mpr hover
    rw [if_neg hnot, if_neg hnot, List.map_map, List.zip_map'] at h
    obtain ⟨hsum, heach, horder⟩ := leftoverPass_spec l _ h
    refine ⟨?_, fun e he => ?_, horder⟩
    · have hpos : 0 < (l.map wants).sum := Nat.zero_lt_of_lt hover
      have hparts := Nat.le_of_mul_le_mul_left (parts_sum_le l wants q _) hpos
      have hleft := Nat.le_of_mul_le_mul_left (parts_leftover l wants hover) hpos
      simp only [Function.comp_def] at hsum
      omega
    · obtain ⟨hlow, hhigh, hwant⟩ := heach e he
      exact ⟨hlow, hhigh, hwant (Nat.div_le_of_le_mul (by
        rw [Nat.mul_comm]
        exact Nat.mul_le_mul_right _ hover.le))⟩

theorem SharedOut.sum_le {l : List α} {q : Nat} {wants got : α → Nat} (h : SharedOut l q wants got) :
    (l.map got).sum ≤ q := by
  rcases Nat.lt_or_ge q (l.map wants).sum with hover | hfit
  · exact (h.2 hover).1.le
  · rw [List.map_congr_left (h.1 hfit)]
    exact hfit

theorem SharedOut.le {l : List α} {q : Nat} {wants got : α → Nat} (h : SharedOut l q wants got) {e : α} (he : e ∈ l) :
    got e ≤ wants e := by
  rcases Nat.lt_or_ge q (l.map wants).sum with hover | hfit
  · exact ((h.2 hover).2.1 e he).2.2
  · exact (h.1 hfit e he).le

end

theorem leftoverPass_length (k : Nat) (l : List (Nat × Nat)) : (leftoverPass k l).length = l.length := by
  induction l generalizing k with
  | nil => rfl
  | cons x l ih =>
    unfold leftoverPass
    split
    · rw [List.length_cons, List.length_cons, ih]
    · rw [List.length_cons, List.length_cons, ih]

theorem stage_length (q : Nat) (wants : List Nat) : (stage q wants).length = wants.length := by
  unfold stage scale
  dsimp only
  rw [leftoverPass_length, List.length_zip]
  split
  · exact Nat.min_self _
  · rw [List.length_map, Nat.min_self]

/-! ### The shares of the bursts (R76 to R78) -/

theorem map_zipWith_left {α β γ δ : Type} {f : α → β → γ} {g : γ → δ} {g' : α → δ} (hg : ∀ a b, g (f a b) = g' a)
    {l : List α} {m : List β} (h : l.length = m.length) : (List.zipWith f l m).map g = l.map g' := by
  induction l generalizing m with
  | nil => rfl
  | cons a l ih =>
    cases m with
    | nil => cases h
    | cons b m =>
      rw [List.zipWith_cons_cons, List.map_cons, List.map_cons, hg, ih (Nat.succ.inj h)]

theorem map_zipWith_right {α β γ : Type} {f : α → β → γ} {g : γ → β} (hg : ∀ a b, g (f a b) = b)
    {l : List α} {m : List β} (h : l.length = m.length) : (List.zipWith f l m).map g = m := by
  induction l generalizing m with
  | nil => exact (List.length_eq_zero_iff.mp h.symm).symm
  | cons a l ih =>
    cases m with
    | nil => cases h
    | cons b m => rw [List.zipWith_cons_cons, List.map_cons, hg, ih (Nat.succ.inj h)]

section
variable (q : Nat) (bs : List Share)

theorem length_stage_map (f : Share → Nat) : bs.length = (stage q (bs.map f)).length := by
  rw [stage_length, List.length_map]

theorem assuredStage_assured :
    (assuredStage q bs).map (·.assured) = stage q (bs.map fun b => min b.want b.rate) :=
  map_zipWith_right (fun _ _ => rfl) (length_stage_map q bs _)

theorem assuredStage_others {α : Type} (f : SlotId → Nat → Nat → α) :
    (assuredStage q bs).map (fun b => f b.slot b.want b.rate) = bs.map fun b => f b.slot b.want b.rate :=
  map_zipWith_left (by intro _ _; rfl) (length_stage_map q bs _)

theorem surplusStage_surplus :
    (surplusStage q bs).map (·.surplus) = stage q (bs.map fun b => b.want - b.assured) :=
  map_zipWith_right (fun _ _ => rfl) (length_stage_map q bs _)

theorem surplusStage_others {α : Type} (f : SlotId → Nat → Nat → Nat → α) :
    (surplusStage q bs).map (fun b => f b.slot b.want b.rate b.assured) =
      bs.map fun b => f b.slot b.want b.rate b.assured :=
  map_zipWith_left (by intro _ _; rfl) (length_stage_map q bs _)

end

/-- The bursts admitted of those with demand `want` and assured rate `rate`, and the ticks shared out over them. -/
theorem shareTicks_spec (q : Nat) (slots : List SlotId) (want rate : SlotId → Nat) :
    let shares := shareTicks q (slots.map fun i => { slot := i, want := want i, rate := rate i, assured := 0, surplus := 0 })
    let left := q - 3 * shares.length
    shares.map (·.slot) = slots.take (q / 3)
      ∧ SharedOut shares left (fun b => min (want b.slot) (rate b.slot)) (·.assured)
      ∧ SharedOut shares (left - (shares.map (·.assured)).sum) (fun b => want b.slot - b.assured) (·.surplus) := by
  unfold shareTicks admitted
  dsimp only
  rw [← List.map_take]
  generalize slots.take (q / 3) = is
  generalize hbs : (is.map fun i => ({ slot := i, want := want i, rate := rate i, assured := 0, surplus := 0 } : Share)) = bs
  generalize hq1 : q - 3 * bs.length = q1
  generalize hq2 : q1 - ((assuredStage q1 bs).map (·.assured)).sum = q2
  have hfirst : ∀ {α : Type} (f : SlotId → Nat → Nat → α),
      (assuredStage q1 bs).map (fun b => f b.slot b.want b.rate) = is.map fun i => f i (want i) (rate i) := fun f => by
    rw [assuredStage_others, ← hbs, List.map_map]
    rfl
  have hsecond : ∀ {α : Type} (f : SlotId → Nat → Nat → α),
      (surplusStage q2 (assuredStage q1 bs)).map (fun b => f b.slot b.want b.rate) =
        is.map fun i => f i (want i) (rate i) := fun f => by
    rw [surplusStage_others q2 _ fun i w r _ => f i w r, hfirst]
  have hassured : (surplusStage q2 (assuredStage q1 bs)).map (·.assured) = (assuredStage q1 bs).map (·.assured) :=
    surplusStage_others q2 _ fun _ _ _ a => a
  have hwants : (assuredStage q1 bs).map (fun b => b.want - b.assured) =
      (surplusStage q2 (assuredStage q1 bs)).map fun b => want b.slot - b.assured := by
    rw [surplusStage_others q2 _ fun i _ _ a => want i - a]
    refine List.map_congr_left fun b hb => ?_
    have hall : ∀ b ∈ assuredStage q1 bs, b.want = want b.slot := by
      have hboth := hfirst fun i w _ => decide (w = want i)
      have htrue : ∀ x ∈ (assuredStage q1 bs).map fun b => decide (b.want = want b.slot), x = true := by
        rw [hboth]
        intro x hx
        obtain ⟨i, -, rfl⟩ := List.mem_map.mp hx
        exact decide_eq_true rfl
      exact fun b hb => of_decide_eq_true (htrue _ (List.mem_map_of_mem hb))
    rw [hall b hb]
  have hlength : (surplusStage q2 (assuredStage q1 bs)).length = bs.length := by
    rw [← List.length_map (f := (·.slot)), hsecond fun i _ _ => i, List.length_map, ← hbs, List.length_map]
  rw [hlength, hq1, hassured, hq2]
  refine ⟨?_, sharedOut_of_stage ?_, sharedOut_of_stage ?_⟩
  · rw [hsecond fun i _ _ => i]
    exact List.map_id _
  · have hmin : (bs.map fun b => min b.want b.rate) = is.map fun i => min (want i) (rate i) := by
      rw [← hbs, List.map_map]
      rfl
    rw [hassured, assuredStage_assured, hmin, ← hsecond fun i _ _ => min (want i) (rate i)]
  · rw [surplusStage_surplus, hwants]

/-! ### Their places (R79) -/

section
variable (s : State)

theorem place_map {α : Type} (f : SlotId → Gen → Nat → Nat → α) (at_ : Nat) (bs : List Share) :
    (s.place at_ bs).map (fun e => f e.slot e.gen e.payload e.assured) =
      bs.map fun b => f b.slot (s.slot b.slot).gen (b.assured + b.surplus) b.assured := by
  induction bs generalizing at_ with
  | nil => rfl
  | cons b bs ih =>
    unfold State.place
    rw [List.map_cons, List.map_cons, ih]

theorem place_first (at_ : Nat) (bs : List Share) (e : PlanEntry) (h : (s.place at_ bs)[0]? = some e) : e.start = at_ := by
  cases bs with
  | nil => cases h
  | cons b bs =>
    obtain rfl := Option.some.inj h
    rfl

theorem place_next (at_ : Nat) (bs : List Share) (k : Nat) (a b : PlanEntry) (ha : (s.place at_ bs)[k]? = some a)
    (hb : (s.place at_ bs)[k + 1]? = some b) : b.start = a.start + (3 + a.payload) := by
  induction bs generalizing at_ k with
  | nil => cases ha
  | cons c bs ih =>
    unfold State.place at ha hb
    dsimp only at ha hb
    rw [List.getElem?_cons_succ] at hb
    cases k with
    | zero =>
      obtain rfl := Option.some.inj ((List.getElem?_cons_zero ..).symm.trans ha)
      rw [place_first s _ bs b hb]
      exact Nat.add_assoc ..
    | succ k => exact ih _ k ((List.getElem?_cons_succ ..).symm.trans ha) hb

end

/-- What is shared out over the images of a list is shared out over the list. -/
theorem sharedOut_of_map {α β : Type} {l : List α} {m : List β} {q : Nat} {wants got : α → Nat} {wants' got' : β → Nat}
    (h : SharedOut m q wants' got') (hmap : l.map (fun a => (wants a, got a)) = m.map fun b => (wants' b, got' b)) :
    SharedOut l q wants got := by
  have hwants : l.map wants = m.map wants' := by
    have := congrArg (List.map (·.1)) hmap
    rwa [List.map_map, List.map_map] at this
  have hgot : l.map got = m.map got' := by
    have := congrArg (List.map (·.2)) hmap
    rwa [List.map_map, List.map_map] at this
  have heach : ∀ P : Nat × Nat → Prop, (∀ b ∈ m, P (wants' b, got' b)) → ∀ a ∈ l, P (wants a, got a) := fun P hP a ha => by
    have hmem : (wants a, got a) ∈ m.map fun b => (wants' b, got' b) := hmap ▸ List.mem_map_of_mem (f := fun a => (wants a, got a)) ha
    obtain ⟨b, hb, hab⟩ := List.mem_map.mp hmem
    exact hab ▸ hP b hb
  have horder : ∀ R : Nat × Nat → Nat × Nat → Prop, (m.Pairwise fun e f => R (wants' e, got' e) (wants' f, got' f)) →
      l.Pairwise fun e f => R (wants e, got e) (wants f, got f) := fun R hR => by
    have hpairs : (m.map fun b => (wants' b, got' b)).Pairwise R := List.pairwise_map.mpr hR
    rw [← hmap] at hpairs
    exact List.pairwise_map.mp hpairs
  unfold SharedOut at h ⊢
  dsimp only at h ⊢
  rw [hwants, hgot]
  refine ⟨fun hfit => heach (fun x => x.2 = x.1) (h.1 hfit), fun hover => ?_⟩
  obtain ⟨hsum, hparts, hpairs⟩ := h.2 hover
  exact ⟨hsum, heach (fun x => x.1 * q / _ ≤ x.2 ∧ x.2 ≤ x.1 * q / _ + 1 ∧ x.2 ≤ x.1) hparts,
    horder (fun x y => y.2 = y.1 * q / _ + 1 → x.1 * q / _ < x.1 → x.2 = x.1 * q / _ + 1) hpairs⟩

end Sys2Proof.Machine
end

section
/-! PROOFS. The plan built at a round start while LIT (O11; R7, R73 to R79). -/

namespace Sys2Proof.Machine

-- One thread elaborates this section: the text as a whole is near the memory limit of the check.
set_option Elab.async false

/-! ### The hushed flags while the watch has no order in hand (R116) -/

/-- With no order of the watch in hand, none comes and no hushed flag changes. -/
structure State.HushesStay (s t : State) : Prop where
  stay : s.watch.orders = [] → t.watch.orders = [] ∧ ∀ j, (t.slot j).hushed = (s.slot j).hushed

namespace State.HushesStay

theorem refl (s : State) : s.HushesStay s := ⟨fun h => ⟨h, fun _ => rfl⟩⟩

section
variable {s t : State} (h : s.HushesStay t)
include h

theorem trans {u : State} (k : t.HushesStay u) : s.HushesStay u where
  stay hnone := by
    obtain ⟨ht, hst⟩ := h.stay hnone
    obtain ⟨hu, htu⟩ := k.stay ht
    exact ⟨hu, fun j => (htu j).trans (hst j)⟩

theorem of_blocks {u : State} (hslots : u.home.slots = t.home.slots) (hwatch : u.watch.orders = t.watch.orders) :
    s.HushesStay u :=
  h.trans ⟨fun ht => ⟨hwatch.trans ht, fun j => congrArg (fun v : Vector SlotRecord 128 => (v.get j).hushed) hslots⟩⟩

theorem offerOrder (lane : Lane) (body : OrderBody) (target : Option (SlotId × Gen)) :
    s.HushesStay (t.offerOrder lane body target).1 := h.of_blocks rfl rfl

theorem modOwed (i : SlotId) (f : Owed → Owed) : s.HushesStay (t.modOwed i f) := h.of_blocks rfl rfl
theorem erase (e : OrderEntry) : s.HushesStay (t.modTree (·.erase e)) := h.of_blocks rfl rfl

theorem modSlot (i : SlotId) {f : SlotRecord → SlotRecord} (hf : ∀ r, (f r).hushed = r.hushed := by intro; rfl) :
    s.HushesStay (t.modSlot i f) :=
  h.trans ⟨fun ht => ⟨ht, fun j => by
    rw [State.modSlot_slot]
    split
    · exact hf _
    · rfl⟩⟩

theorem foldl {α : Type} {f : State → α → State} (hf : ∀ (u : State) a, u.HushesStay (f u a)) (l : List α) :
    s.HushesStay (l.foldl f t) := by
  induction l generalizing t with
  | nil => exact h
  | cons a l ih => exact ih (h.trans (hf t a))

theorem forSlots (p : SlotId → Bool) {f : State → SlotId → State} (hf : ∀ (u : State) i, u.HushesStay (f u i)) :
    s.HushesStay (t.forSlots p f) := h.foldl hf _

theorem watchReport (i : SlotId) (seq : BitVec 8) (o : OrderOutcome) : s.HushesStay (t.watchReport i seq o) :=
  h.trans ⟨fun ht => by
    have hkept : t.watchReport i seq o = t := by
      unfold State.watchReport
      rw [ht]
      rfl
    rw [hkept]
    exact ⟨ht, fun _ => rfl⟩⟩

theorem report (e : OrderEntry) (o : OrderOutcome) : s.HushesStay (t.report e o) := by
  unfold State.report
  split
  · split
    · exact h.of_blocks rfl rfl
    · exact h
  · exact h.of_blocks (by simp) (by simp)
  · exact h.watchReport ..
  · exact h.watchReport ..
  · unfold State.wakeDueReport
    split
    · exact h
    all_goals exact h.modSlot _
  · exact h.modSlot _
  all_goals exact h

theorem sendOrder (n : Round) (e : OrderEntry) : s.HushesStay (t.sendOrder n e) := by
  unfold State.sendOrder
  dsimp only
  split
  · exact h.of_blocks rfl rfl
  · split <;> exact h.of_blocks rfl rfl
  · split <;> exact h.of_blocks rfl rfl
  · exact h.of_blocks rfl rfl
  all_goals
    split
    · exact (h.erase e).report ..
    · exact h.of_blocks rfl rfl

theorem fillSlots (n : Round) (es : List OrderEntry) (room : Nat) : s.HushesStay (State.fillSlots n es room t).1 := by
  induction es generalizing room t with
  | nil => exact h
  | cons e es ih =>
    cases room with
    | zero => exact h
    | succ room =>
      unfold State.fillSlots
      split
      · exact ih (h.sendOrder n e) _
      · exact ih ((h.erase e).report e .dropped) _

theorem offerRelease (i : SlotId) (g : Gen) : s.HushesStay (t.offerRelease i g) := by
  unfold State.offerRelease
  dsimp only
  split
  · exact (h.offerOrder ..).modOwed _ _
  · exact (h.offerOrder ..).modOwed _ _
  all_goals exact ((h.offerOrder ..).modOwed _ _).modSlot i

theorem offerSever (i : SlotId) (g : Gen) (x : Serial) : s.HushesStay (t.offerSever i g x) := by
  unfold State.offerSever
  dsimp only
  split
  all_goals exact (h.offerOrder ..).modOwed _ _

theorem offerOwed (i : SlotId) : s.HushesStay (t.offerOwed i) := by
  unfold State.offerOwed
  dsimp only
  split
  · split
    · exact (h.offerSever ..).offerRelease ..
    · exact h.offerRelease ..
  · split
    · exact h.offerSever ..
    · exact h

theorem offerWatchOrders : s.HushesStay t.offerWatchOrders :=
  h.trans ⟨fun ht => by
    unfold State.offerWatchOrders
    rw [ht]
    exact ⟨ht, fun _ => rfl⟩⟩

theorem offerWakeDue (i : SlotId) : s.HushesStay (t.offerWakeDue i) := by
  unfold State.offerWakeDue
  dsimp only
  split
  · exact h
  · split
    · exact (h.offerOrder ..).modSlot i
    all_goals exact h.offerOrder ..

theorem offerEnrolment (i : SlotId) : s.HushesStay (t.offerEnrolment i) :=
  h.of_blocks (congrArg HomeTable.slots (State.offerEnrolment_frame t i).1) (by simp)

theorem offerRoll : s.HushesStay t.offerRoll :=
  h.of_blocks (congrArg HomeTable.slots (State.offerRoll_frame t).1) (by simp)

theorem offerRoster : s.HushesStay t.offerRoster :=
  h.of_blocks (congrArg HomeTable.slots (State.offerRoster_frame t).2.1) (by simp)

theorem offerWaitingBeacon : s.HushesStay t.offerWaitingBeacon :=
  h.of_blocks (congrArg HomeTable.slots (State.offerWaitingBeacon_frame t).2.1) (by simp)

theorem roundOffers : s.HushesStay t.roundOffers := by
  unfold State.roundOffers
  exact ((((((h.forSlots _ fun u i => (refl u).offerOwed i).offerRoll).forSlots _ fun u i =>
    (refl u).offerEnrolment i).offerWatchOrders).forSlots _ fun u i => (refl u).offerWakeDue i).offerRoster).offerWaitingBeacon

end

end State.HushesStay

theorem begun_hushesStay (s : State) (upsets : List TallyUpset) : s.HushesStay (s.begun upsets) := by
  have hretest : ∀ u : State, u.beginHeldRetest.watch.orders = u.watch.orders := fun u => by
    unfold State.beginHeldRetest
    split <;> rfl
  refine (State.HushesStay.refl s).of_blocks (congrArg HomeTable.slots (begun_kept s upsets).1) ?_
  unfold State.begun
  rw [hretest]
  simp [State.countRound, Watch.countSettle]

theorem composeRound_hushesStay (s : State) (n : Round) : s.HushesStay (s.composeRound n) := by
  have hend : s.HushesStay s.endTransmission := (State.HushesStay.refl s).of_blocks (by simp) (by simp)
  have hout : s.HushesStay (s.ordersOut n) :=
    (hend.fillSlots n (s.endTransmission.tree.candidates n) 4).of_blocks (by simp [State.ordersOut]; rfl)
      (by simp [State.ordersOut]; rfl)
  rw [composeRound_eq]
  exact hout.of_blocks (by simp) (by simp)

theorem beforeRound_hushesStay (s : State) (offersFirst : Bool) (upsets : List TallyUpset) :
    s.HushesStay (s.beforeRound offersFirst upsets) := by
  unfold State.beforeRound
  split
  · exact (begun_hushesStay s upsets).roundOffers
  · exact begun_hushesStay s upsets

/-! ### The bursts of a plan (R75 to R79) -/

section
variable (s : State)

/-- The demand of a slot (R74). -/
def State.demandOf (s : State) (i : SlotId) : Nat := (s.demand i).ticks (s.slot i).ceiling

/-- What a slot wants of the ticks of its burst (R77): its demand, of a LOST slot nothing. -/
def State.wantOf (s : State) (i : SlotId) : Nat := if (s.slot i).state = .active then s.demandOf i else 0

/-- Whether a slot has a burst in the plan of round `n`, its hushed flag given (R75). -/
def State.sends (s : State) (n : Round) (hushed : SlotId → Bool) (i : SlotId) : Bool :=
  !hushed i && ((s.slot i).state == .active && (Decidable.decide (0 < s.demandOf i) || (s.demand i).pollDue s.config.poll n)
    || (s.slot i).state == .lost && (s.demand i).pollDue s.config.poll n)

theorem burstOf_eq (n : Round) (i : SlotId) :
    s.burstOf n i = if s.sends n (fun j => (s.slot j).hushed) i = true then
      some { slot := i, want := s.wantOf i, rate := (s.slot i).assured, assured := 0, surplus := 0 } else none := by
  unfold State.burstOf State.sends State.wantOf State.demandOf
  dsimp only
  by_cases hhushed : (s.slot i).hushed = true
  · simp [hhushed]
  · rw [if_neg hhushed]
    cases hstate : (s.slot i).state
    case active =>
      by_cases hwant : 0 < (s.demand i).ticks (s.slot i).ceiling
      · simp [hhushed, hwant]
      · have hzero : (s.demand i).ticks (s.slot i).ceiling = 0 := Nat.eq_zero_of_not_pos hwant
        simp [hhushed, hzero]
    case lost => simp [hhushed]
    all_goals simp

theorem bursts_eq (n : Round) (is : List SlotId) :
    is.filterMap (s.burstOf n) = (is.filter (s.sends n fun j => (s.slot j).hushed)).map fun i =>
      { slot := i, want := s.wantOf i, rate := (s.slot i).assured, assured := 0, surplus := 0 } := by
  rw [← List.filterMap_eq_map, List.filterMap_filter]
  exact List.filterMap_congr fun i _ => burstOf_eq s n i

/-- What the entries of a build are (R73 to R79). -/
structure State.Planned (s : State) (n : Round) (p : Spans) (entries : List PlanEntry) : Prop where
  slots : entries.map (·.slot) =
    ((allSlots.map (s.sched.rotation + ·)).filter (s.sends n fun j => (s.slot j).hushed)).take (p.freeTicks / 3)
  assured : SharedOut entries (p.freeTicks - 3 * entries.length) (fun e => min (s.wantOf e.slot) (s.slot e.slot).assured)
    (·.assured)
  surplus : SharedOut entries (p.freeTicks - 3 * entries.length - (entries.map (·.assured)).sum)
    (fun e => s.wantOf e.slot - e.assured) fun e => e.payload - e.assured
  gens : ∀ e ∈ entries, e.gen = (s.slot e.slot).gen
  within : ∀ e ∈ entries, e.assured ≤ e.payload
  first : ∀ e, entries[0]? = some e → e.start = p.headEnd
  next : ∀ (k : Nat) a b, entries[k]? = some a → entries[k + 1]? = some b → b.start = a.start + (3 + a.payload)

theorem planEntries_planned (n : Round) (p : Spans) : s.Planned n p (s.planEntries n p) := by
  unfold State.planEntries
  rw [rotationOrder_eq, bursts_eq]
  generalize hslots : (allSlots.map (s.sched.rotation + ·)).filter (s.sends n fun j => (s.slot j).hushed) = slots
  obtain ⟨htaken, hassured, hsurplus⟩ :=
    shareTicks_spec p.freeTicks slots s.wantOf fun i => (s.slot i).assured
  generalize (shareTicks p.freeTicks (slots.map fun i =>
    { slot := i, want := s.wantOf i, rate := (s.slot i).assured, assured := 0, surplus := 0 })) = shares at *
  have hmap := fun {α : Type} (f : SlotId → Gen → Nat → Nat → α) => place_map s f p.headEnd shares
  have hlength : (s.place p.headEnd shares).length = shares.length := by
    rw [← List.length_map (f := (·.slot)), hmap fun i _ _ _ => i, List.length_map]
  have hsum : ((s.place p.headEnd shares).map (·.assured)).sum = (shares.map (·.assured)).sum :=
    congrArg List.sum (hmap fun _ _ _ a => a)
  have heach : ∀ P : SlotId → Gen → Nat → Nat → Prop, (∀ b ∈ shares, P b.slot (s.slot b.slot).gen (b.assured + b.surplus)
      b.assured) → ∀ e ∈ s.place p.headEnd shares, P e.slot e.gen e.payload e.assured := fun P hP e he => by
    have hmem := List.mem_map_of_mem (f := fun e : PlanEntry => P e.slot e.gen e.payload e.assured) he
    rw [hmap fun i g k a => P i g k a] at hmem
    obtain ⟨b, hb, hbe⟩ := List.mem_map.mp hmem
    exact hbe ▸ hP b hb
  refine ⟨?_, ?_, ?_, heach (fun i g _ _ => g = (s.slot i).gen) fun _ _ => rfl,
    heach (fun _ _ k a => a ≤ k) fun _ _ => Nat.le_add_right .., place_first s _ _, place_next s _ _⟩
  · rw [hmap fun i _ _ _ => i, hslots]
    exact htaken
  · rw [hlength]
    exact sharedOut_of_map hassured (hmap fun i _ _ a => (min (s.wantOf i) (s.slot i).assured, a))
  · rw [hlength, hsum]
    refine sharedOut_of_map hsurplus ((hmap fun i _ k a => (s.wantOf i - a, k - a)).trans ?_)
    simp only [Nat.add_sub_cancel_left]

end

namespace State.Planned

variable {s : State} {n : Round} {p : Spans} {entries : List PlanEntry} (h : s.Planned n p entries)
include h

theorem sends {e : PlanEntry} (he : e ∈ entries) : s.sends n (fun j => (s.slot j).hushed) e.slot = true := by
  have hmem := List.mem_map_of_mem (f := fun e : PlanEntry => e.slot) he
  rw [h.slots] at hmem
  exact (List.mem_filter.mp (List.mem_of_mem_take hmem)).2

/-- The bursts fit the free interval. -/
theorem fits : p.headEnd + (entries.map fun e => 3 + e.payload).sum ≤ max p.headEnd p.tailStart := by
  have hcount : entries.length ≤ p.freeTicks / 3 := by
    rw [← List.length_map (f := (·.slot)), h.slots]
    exact List.length_take_le ..
  have hsplit : (entries.map fun e => 3 + e.payload).sum =
      3 * entries.length + (entries.map (·.assured)).sum + (entries.map fun e => e.payload - e.assured).sum := by
    have hpayload : entries.map (fun e => 3 + e.payload) =
        entries.map fun e => 3 + (e.assured + (e.payload - e.assured)) :=
      List.map_congr_left fun e he => by rw [Nat.add_sub_cancel' (h.within e he)]
    rw [hpayload, List.sum_map_add, List.sum_map_add, List.map_const', List.sum_replicate, smul_eq_mul]
    rw [Nat.mul_comm, ← Nat.add_assoc]
  have hassured := h.assured.sum_le
  have hsurplus := h.surplus.sum_le
  unfold Spans.freeTicks at *
  omega

/-- A slot with a burst is ACTIVE, or LOST and sends no payload. -/
theorem burst_of {e : PlanEntry} (he : e ∈ entries) :
    (s.slot e.slot).state = .active ∨ ((s.slot e.slot).state = .lost ∧ e.payload = 0) := by
  have hsends := h.sends he
  by_cases hactive : (s.slot e.slot).state = .active
  · exact .inl hactive
  · have hwant : s.wantOf e.slot = 0 := if_neg hactive
    have hassured : e.assured ≤ min (s.wantOf e.slot) _ := h.assured.le he
    have hsurplus : e.payload - e.assured ≤ s.wantOf e.slot - e.assured := h.surplus.le he
    refine .inr ⟨?_, by omega⟩
    unfold State.sends at hsends
    have hnot : ((s.slot e.slot).state == .active) = false := beq_eq_false_iff_ne.mpr hactive
    rw [hnot] at hsends
    simp at hsends
    exact hsends.2.1

end State.Planned

/-! ### The build (R73) -/

theorem grantEcho_ordersOnly (n : Round) (r : State × Spans) : r.1.OrdersOnly (State.grantEcho n r).1 := by
  have hrefl := State.OrdersOnly.refl r.1
  unfold State.grantEcho
  split
  · exact hrefl
  · next q _ =>
    have hasked : r.1.OrdersOnly (r.1.modSched fun d => { d with echoReqs := d.echoReqs.filter (·.slot != q.slot) }) :=
      hrefl.modSched
    have hbind : ∀ (t : TreePort) m k, (t.bind (·.exchangeOf q.slot q.gen) m k).1.port = t.port := fun t m k => by
      unfold TreePort.bind
      split <;> rfl
    dsimp only
    split
    · exact hasked.of_blocks rfl (hbind ..)
    · exact hasked.askAgain _

theorem grantRoll_ordersOnly (s : State) (n : Round) : s.OrdersOnly (s.grantRoll n) := by
  have hrefl := State.OrdersOnly.refl s
  have hbind : ∀ (t : TreePort) m k, (t.bind (·.body.isRoll) m k).1.port = t.port := fun t m k => by
    unfold TreePort.bind
    split <;> rfl
  unfold State.grantRoll
  dsimp only
  split
  · split
    · exact hrefl.of_blocks rfl (hbind ..)
    · exact (hrefl.modSched).modRoll _
  · exact hrefl

theorem reserveWindow_ordersOnly (s : State) (n : Round) (p : Spans) : s.OrdersOnly (s.reserveWindow n p).1 := by
  have hrefl := State.OrdersOnly.refl s
  unfold State.reserveWindow
  split
  · exact hrefl
  · split
    · exact hrefl.of_blocks rfl rfl
    · exact hrefl

/-- The plan built is that of the part once the windows, the echo spans and the roll call are granted. -/
theorem buildPlan_spec {s : State} (n : Round) (hlit : s.tree.state = .lit) :
    ∃ u spans, s.OrdersOnly u ∧ u.home = s.home ∧ u.config = s.config
      ∧ (s.buildPlan n).sched.nextPlan = some { round := n, entries := u.planEntries n spans, spans := spans } := by
  unfold State.buildPlan
  rw [if_pos hlit]
  dsimp only
  generalize hw : s.reserveWindow n (s.sched.promised n) = w
  generalize he : State.grantEcho n (State.grantEcho n w) = e
  refine ⟨e.1.grantRoll n, e.2, ?_, ?_, ?_, rfl⟩
  · have hwindow := reserveWindow_ordersOnly s n (s.sched.promised n)
    have hecho := (grantEcho_ordersOnly n w).trans (grantEcho_ordersOnly n (State.grantEcho n w))
    rw [hw] at hwindow
    rw [he] at hecho
    exact (hwindow.trans hecho).trans (grantRoll_ordersOnly e.1 n)
  · simp [← he, ← hw]
  · simp [← he, ← hw]

theorem composeRound_sched (s : State) (n : Round) : (s.composeRound n).sched.fixed = s.sched.fixed := by
  have hsched : (s.composeRound n).sched = (s.ordersOut n).sched := by
    rw [composeRound_eq]
    simp
  rw [hsched, (ordersOut_atRound s n).plan]

theorem composeRound_config (s : State) (n : Round) : (s.composeRound n).config = s.config := by
  have hconfig : (s.composeRound n).config = (s.ordersOut n).config := by
    rw [composeRound_eq]
    simp
  rw [hconfig, (ordersOut_atRound s n).config]

end Sys2Proof.Machine
end

section
/-! PROOFS. The plan built at a boundary while LIT, in the terms of the part before it (O11; R73 to R79). -/

namespace Sys2Proof.Machine

-- One thread elaborates this section: the text as a whole is near the memory limit of the check.
set_option Elab.async false

theorem Scheduler.nextPlan_of_fixed {d e : Scheduler} (h : d.fixed = e.fixed) : d.nextPlan = e.nextPlan :=
  (congrArg Scheduler.nextPlan h :)

/-- What a plan's bursts are made of: the slots' states and settings, and their demand. -/
structure State.SamePlanning (s u : State) : Prop where
  slot : ∀ j, (u.slot j).fixed = (s.slot j).fixed
  plan : u.sched.fixed = s.sched.fixed
  config : u.config = s.config

namespace State.SamePlanning

variable {s u : State} (h : s.SamePlanning u)
include h

theorem slot_state (j : SlotId) : (u.slot j).state = (s.slot j).state := (congrArg SlotRecord.state (h.slot j) :)
theorem gen (j : SlotId) : (u.slot j).gen = (s.slot j).gen := (congrArg SlotRecord.gen (h.slot j) :)
theorem ceiling (j : SlotId) : (u.slot j).ceiling = (s.slot j).ceiling := (congrArg SlotRecord.ceiling (h.slot j) :)
theorem assured (j : SlotId) : (u.slot j).assured = (s.slot j).assured := (congrArg SlotRecord.assured (h.slot j) :)
theorem rotation : u.sched.rotation = s.sched.rotation := (congrArg Scheduler.rotation h.plan :)

theorem demand (j : SlotId) : u.demand j = s.demand j :=
  congrArg (fun v : Vector Demand 128 => v.get j) (congrArg Scheduler.demand h.plan :)

theorem demandOf (j : SlotId) : u.demandOf j = s.demandOf j := by
  unfold State.demandOf
  rw [h.demand, h.ceiling]

theorem wantOf (j : SlotId) : u.wantOf j = s.wantOf j := by
  unfold State.wantOf
  rw [h.slot_state, h.demandOf]

theorem sends (n : Round) (hushed : SlotId → Bool) (j : SlotId) : u.sends n hushed j = s.sends n hushed j := by
  unfold State.sends
  rw [h.slot_state, h.demandOf, h.demand, h.config]

end State.SamePlanning

/-- The plan built at a boundary while LIT, of the part as its build finds it. -/
theorem roundBoundary_plan (s : State) (offersFirst : Bool) (upsets : List TallyUpset) (hlit : s.tree.state = .lit) :
    let found := (s.beforeRound offersFirst upsets).composeRound (s.clock.round + 1)
    ∃ t u spans, exec (.roundBoundary offersFirst upsets) s = .next t ∧ s.SamePlanning u ∧ u.home = found.home
      ∧ (s.watch.orders = [] → ∀ i, (found.slot i).hushed = (s.slot i).hushed)
      ∧ t.sched.nextPlan = some {
          round := s.clock.round + 1 + 1, entries := u.planEntries (s.clock.round + 1 + 1) spans, spans := spans } := by
  dsimp only
  obtain ⟨t, hexec, -, -, -, hsched⟩ := roundBoundary_lit s offersFirst upsets hlit
  have hbefore := beforeRound_atRound s offersFirst upsets
  have hhushes := (beforeRound_hushesStay s offersFirst upsets).trans
    (composeRound_hushesStay (s.beforeRound offersFirst upsets) (s.clock.round + 1))
  have hfoundLit : ((s.beforeRound offersFirst upsets).composeRound (s.clock.round + 1)).tree.state = .lit :=
    (TreePort.state_of_standing ((composeRound_standing ..).trans hbefore.standing)).trans hlit
  have hslot := fun j => (composeRound_slot (s.beforeRound offersFirst upsets) (s.clock.round + 1) j).trans (hbefore.slot j)
  have hfixed := (composeRound_sched (s.beforeRound offersFirst upsets) (s.clock.round + 1)).trans hbefore.plan
  have hsettings := (composeRound_config (s.beforeRound offersFirst upsets) (s.clock.round + 1)).trans hbefore.config
  generalize (s.beforeRound offersFirst upsets).composeRound (s.clock.round + 1) = found at *
  obtain ⟨u, spans, honly, hhome, hconfig, hplan⟩ := buildPlan_spec (s.clock.round + 1 + 1) hfoundLit
  refine ⟨t, u, spans, hexec, ⟨fun j => (honly.slot j).trans (hslot j), honly.plan.trans hfixed, hconfig.trans hsettings⟩,
    hhome, fun hnone => (hhushes.stay hnone).2, ?_⟩
  exact (Scheduler.nextPlan_of_fixed hsched).trans hplan

/-- Settles O11: the plan built at a round start while LIT. -/
theorem planFitsRound : Obligations.PlanFitsRound := by
  unfold Obligations.PlanFitsRound
  intro s offersFirst upsets hlit begun found
  obtain ⟨t, u, spans, hexec, hsame, hhome, hhushes, hplan⟩ := roundBoundary_plan s offersFirst upsets hlit
  have hplanned := planEntries_planned u (s.clock.round + 1 + 1) spans
  have hhushed : ∀ i, (found.slot i).hushed = (u.slot i).hushed := fun i =>
    (congrArg SlotRecord.hushed (slot_congr hhome i)).symm
  generalize hentries : u.planEntries (s.clock.round + 1 + 1) spans = entries at hplan hplanned
  have hsends : ∀ i, u.sends (s.clock.round + 1 + 1) (fun j => (u.slot j).hushed) i =
      s.sends (s.clock.round + 1 + 1) (fun j => (found.slot j).hushed) i := fun i => by
    rw [hsame.sends, funext hhushed]
  refine ⟨t, _, hexec, hplan, by rw [add_assoc]; rfl, hhushes, fun e he => ?_, ⟨?_, ?_, ?_⟩, hplanned.fits, hplanned.first,
    hplanned.next, fun e he => ⟨hplanned.within e he, ?_⟩⟩
  · have hsend := hplanned.sends he
    refine ⟨?_, (hplanned.gens e he).trans (hsame.gen _)⟩
    rw [hhushed]
    unfold State.sends at hsend
    simpa using ((Bool.and_eq_true ..).mp hsend).1
  · have hslots := hplanned.slots
    rw [funext hsends, hsame.rotation] at hslots
    exact hslots
  · have hassured := hplanned.assured
    simp only [hsame.wantOf, hsame.assured] at hassured
    exact hassured
  · have hsurplus := hplanned.surplus
    simp only [hsame.wantOf] at hsurplus
    exact hsurplus
  · rw [← hsame.slot_state]
    exact hplanned.burst_of he

end Sys2Proof.Machine
end

section
/-! PROOFS. The order queue: offers, the slots of a round, and sends (O9; R4, R5, R14, R16, R17). -/

namespace Sys2Proof.Machine

-- One thread elaborates this section: the text as a whole is near the memory limit of the check.
set_option Elab.async false

/-! ### The order slots of a round (R16) -/

theorem genMatches_congr {s t : State} (h : ∀ j, (t.slot j).fixed = (s.slot j).fixed) (e : OrderEntry) :
    t.genMatches e = s.genMatches e := by
  have hgen : ∀ j, (t.slot j).gen = (s.slot j).gen := fun j => (congrArg SlotRecord.gen (h j) :)
  unfold State.genMatches
  split
  · rfl
  · rw [hgen]

/-- The slots go to the candidates of the present generation, in order, up to the room. -/
theorem fillSlots_slots (n : Round) (es : List OrderEntry) (room : Nat) (s : State) :
    (State.fillSlots n es room s).2 = ((es.filter s.genMatches).take room).map OrderEntry.slotOf := by
  induction es generalizing room s with
  | nil => rw [List.filter_nil, List.take_nil]; rfl
  | cons e es ih =>
    cases room with
    | zero => rw [List.take_zero]; rfl
    | succ room =>
      have hfilter : ∀ t : State, s.OrdersOnly t → es.filter t.genMatches = es.filter s.genMatches := fun t h => by
        rw [funext fun e => genMatches_congr h.slot e]
      unfold State.fillSlots
      split
      · next hgen =>
        rw [List.filter_cons_of_pos hgen, List.take_succ_cons, List.map_cons, ← hfilter _ ((State.OrdersOnly.refl s).sendOrder n e)]
        exact congrArg (e.slotOf :: ·) (ih room (s.sendOrder n e))
      · next hgen =>
        rw [List.filter_cons_of_neg hgen, ← hfilter _ (((State.OrdersOnly.refl s).erase e).report e .dropped)]
        exact ih (room + 1) ((s.modTree (·.erase e)).report e .dropped)

theorem selectOrders_slots (s : State) (n : Round) :
    (s.selectOrders n).2 = (((s.tree.candidates n).filter s.genMatches).take 4).map OrderEntry.slotOf ++
      List.replicate (4 - (((s.tree.candidates n).filter s.genMatches).take 4).length) OrderSlot.empty := by
  unfold State.selectOrders
  dsimp only
  rw [fillSlots_slots, List.length_map]

/-! ### Sends (R17) -/

section
variable (s : State) (n : Round) (e : OrderEntry)

/-- An entry as a send in round `n` leaves it. -/
def OrderEntry.sentIn (e : OrderEntry) (n : Round) : OrderEntry := { e with tries := e.tries + 1, lastSent := some n }

/-- The orders that stay for two more rounds. -/
def OrderBody.repeats (b : OrderBody) : Prop := b = .hush ∨ (∃ w, b = .wake w) ∨ (∃ x, b = .sever x) ∨ b = .release

theorem sendOrder_of_repeats (h : e.body.repeats) :
    s.sendOrder n e = if 3 ≤ (e.sentIn n).tries then (s.modTree (·.erase e)).report e .completed
      else s.modTree (·.replace e (e.sentIn n)) := by
  obtain ⟨b, target, seq, tries, lastSent, bound, waiting⟩ := e
  replace h : b.repeats := h
  rcases h with rfl | ⟨w, rfl⟩ | ⟨x, rfl⟩ | rfl <;> rfl

theorem report_tree (o : OrderOutcome) : (s.report e o).tree = s.tree := (State.report_frame s e o).1

/-- ASSIGN, ECHO and HOLDOFF wait for their answers. -/
theorem sendOrder_tree_of_waits (h : (∃ x y, e.body = .assign x y) ∨ e.body = .echo ∨ ∃ y, e.body = .holdoff y) :
    (s.sendOrder n e).tree = s.tree.replace e { e.sentIn n with waiting := true } := by
  obtain ⟨b, target, seq, tries, lastSent, bound, waiting⟩ := e
  replace h : (∃ x y, b = .assign x y) ∨ b = .echo ∨ ∃ y, b = .holdoff y := h
  rcases h with ⟨x, y, rfl⟩ | rfl | ⟨y, rfl⟩
  · cases target <;> rfl
  · cases target <;> rfl
  · rfl

theorem sendOrder_of_roll (h : e.body = .roll) : s.sendOrder n e = (s.modTree (·.erase e)).rollSent n := by
  obtain ⟨b, target, seq, tries, lastSent, bound, waiting⟩ := e
  obtain rfl : b = .roll := h
  rfl

end

/-- Settles O9: the order queue. -/
theorem ordersOfferedAndSent : Obligations.OrdersOfferedAndSent := by
  unfold Obligations.OrdersOfferedAndSent
  refine ⟨fun s lane body target => ?_, fun s upsets hlit => ?_, fun s n e => ⟨fun hrepeats => ?_, fun hwaits => ?_,
    fun hroll => ?_⟩⟩
  · refine ⟨offerOrder_unspanned, offerOrder_closed, fun hopen hfull => ?_, fun hopen hroom => ?_⟩
    · cases lane
      · exact offerOrder_refused hopen ((refuses_urgent_iff ..).mpr hfull)
      · exact offerOrder_refused hopen ((refuses_normal_iff ..).mpr hfull)
    · cases lane
      · exact offerOrder_accepted hopen (Bool.eq_false_iff.mpr (mt (refuses_urgent_iff ..).mp hroom))
      · exact offerOrder_accepted hopen (Bool.eq_false_iff.mpr (mt (refuses_normal_iff ..).mp hroom))
  · obtain ⟨t, hexec, hport, -⟩ := roundBoundary_lit s false upsets hlit
    rw [beforeRound_offersLast] at hport
    obtain ⟨r, htx, -, hslots, -⟩ := composeRound_txRound (s.begun upsets) (s.clock.round + 1)
    obtain ⟨bhome, btree, -⟩ := begun_kept s upsets
    have hgen : (s.begun upsets).endTransmission.genMatches = s.genMatches := funext fun e =>
      genMatches_congr (fun j => by rw [endTransmission_ordersOnly_slot, slot_congr bhome]) e
    have hcandidates : (s.begun upsets).endTransmission.tree.candidates (s.clock.round + 1) =
        s.tree.candidates (s.clock.round + 1) := by
      rw [endTransmission_tree, btree]
      rfl
    refine ⟨t, r, hexec, (TreePort.txRound_of_port hport).trans htx, hslots.trans ?_⟩
    rw [selectOrders_slots, hgen, hcandidates]
    rfl
  · have hsend := sendOrder_of_repeats s n e hrepeats
    refine ⟨fun hfew => ?_, fun hlast => ?_⟩
    · exact hsend.trans (if_neg (by simp only [OrderEntry.sentIn]; omega))
    · have hdone := hsend.trans (if_pos (by simp only [OrderEntry.sentIn]; omega))
      refine ⟨?_, fun i g hbody htarget => ?_, fun i g hbody htarget => ?_⟩
      · rw [hdone, report_tree]
        rfl
      · rw [hdone]
        unfold State.report
        rw [hbody, htarget]
        exact (State.modSlot_slot ..).trans (if_pos rfl)
      · rw [hdone]
        unfold State.report
        rw [hbody, htarget]
        exact (State.modSlot_slot ..).trans (if_pos rfl)
  · exact sendOrder_tree_of_waits s n e hwaits
  · rw [sendOrder_of_roll s n e hroll]
    exact ⟨rfl, rfl, rfl, rfl⟩

end Sys2Proof.Machine
end

section
/-! PROOFS. A bar request and the strikes of a round (R29, R101 to R106). -/

namespace Sys2Proof.Machine

-- One thread elaborates this section: the text as a whole is near the memory limit of the check.
set_option Elab.async false

/-! ### A bar request STRAY or OVERRUN (R29) -/

/-- The slot record on entry to BARRED by a bar request (R29). -/
def SlotRecord.bar (r : SlotRecord) (reason : BarReason) (now : DTime) : SlotRecord :=
  { r with state := .barred, barReason := some reason, rejoin := false, claimTime := some (r.claimTime.getD now) }

section
variable (s : State) (i : SlotId) (reason : BarReason)

/-- The part with the slot BARRED and the change announced, before its SEVER, alert and BAR. -/
def State.barred (s : State) (i : SlotId) (reason : BarReason) : State := s.enter i (·.bar reason s.clock.time)

theorem barSlot_eq :
    s.barSlot i reason =
      (((s.barred i reason).offerSever i ((s.barred i reason).slot i).gen (((s.slot i).serial).getD 0)).raise .homeBarred
        (be 1 i.val ++ beSerial (((s.slot i).serial).getD 0) ++ be 1 reason.code)).modRoster
          (·.placeBar { serial := ((s.slot i).serial).getD 0, reason := reason, time := s.clock.time }) := rfl

theorem barSlot_slot (j : SlotId) :
    (s.barSlot i reason).slot j =
      if j = i then { (s.slot i).bar reason s.clock.time with hushed := (s.slot i).hushed && !s.watch.isMember i }
      else s.slot j := by
  rw [barSlot_eq, State.modRoster_slot_at, slot_congr (State.raise_frame ..).2.1, offerSever_slot]
  unfold State.barred
  rw [enter_slot _ _ _ (by simp [SlotRecord.bar])]
  rfl

theorem barSlot_watch : (s.barSlot i reason).watch = (s.dropMember i).watch := by
  rw [barSlot_eq]
  simp only [State.modRoster_watch, State.raise_frame, State.offerSever_frame]
  exact enter_watch_stage s i (·.bar reason s.clock.time)

theorem barSlot_strikes (j : SlotId) : (s.barSlot i reason).strikes j = s.strikes j := by
  rw [← dropMember_strikes s i]
  unfold State.strikes
  rw [barSlot_watch]

theorem barSlot_reechoes : (s.barSlot i reason).enrol.reechoes = s.enrol.reechoes := by
  rw [barSlot_eq]
  simp only [State.modRoster_enrol, State.raise_frame, State.offerSever_frame]
  unfold State.barred
  rw [enter_enrol]

theorem barSlot_queues : (s.barSlot i reason).down.queues = s.down.queues := by
  rw [barSlot_eq]
  simp only [State.modRoster_down, State.raise_frame, State.offerSever_frame]
  unfold State.barred
  rw [enter_down]
  rfl

theorem barSlot_port : (s.barSlot i reason).tree.port = s.tree.port := by
  rw [barSlot_eq, State.modRoster_tree, (State.raise_frame ..).1, offerSever_port]
  exact enter_port ..

theorem barSlot_raised : s.Raised (s.barSlot i reason) .homeBarred
    (be 1 i.val ++ beSerial (((s.slot i).serial).getD 0) ++ be 1 reason.code) := by
  have hkept : ∀ g x, ((s.barred i reason).offerSever i g x).link = s.link
      ∧ ((s.barred i reason).offerSever i g x).clock = s.clock ∧ ((s.barred i reason).offerSever i g x).config = s.config := by
    simp [State.barred]
  replace hkept := hkept ((s.barred i reason).slot i).gen (((s.slot i).serial).getD 0)
  rw [barSlot_eq]
  generalize (s.barred i reason).offerSever i ((s.barred i reason).slot i).gen (((s.slot i).serial).getD 0) = u at hkept ⊢
  obtain ⟨hlink, hclock, hconfig⟩ := hkept
  exact ((raised_raise u _ _).of_congr hlink (by rw [hclock]) (by rw [hclock]) (by rw [hclock]) hconfig).congr_right rfl

theorem placedBar_mem (bars : List PendingBar) (b : PendingBar) : b ∈ placedBar bars b := by
  unfold placedBar
  split
  · next h =>
    obtain ⟨k, hk, hserial⟩ := List.any_eq_true.mp h
    exact List.mem_map.mpr ⟨k, hk, if_pos (by simpa using hserial)⟩
  · exact List.mem_append_right _ (List.mem_singleton_self _)

theorem barSlot_bars :
    { serial := ((s.slot i).serial).getD 0, reason := reason, time := s.clock.time } ∈ (s.barSlot i reason).roster.bars := by
  rw [barSlot_eq, State.modRoster_roster, placeBar_eq]
  exact placedBar_mem ..

theorem barRequest_of_barrable (h : (s.slot i).state = .assigning ∨ (s.slot i).state = .active ∨ (s.slot i).state = .lost
    ∨ (s.slot i).state = .resuming) : s.barRequest i (s.slot i).gen reason = s.barSlot i reason := by
  unfold State.barRequest
  rw [if_pos rfl]
  rcases h with h | h | h | h <;> rw [h]

/-- A bar request does what a bar does, or nothing. -/
theorem barRequest_cases (g : Gen) : s.barRequest i g reason = s ∨ s.barRequest i g reason = s.barSlot i reason := by
  unfold State.barRequest
  split
  · split
    all_goals simp
  · exact .inl rfl

end

/-! ### What the guard samples of a round write (R101, R102) -/

/-- What the scoring of guard samples keeps. -/
structure State.GuardsOnly (s t : State) : Prop where
  port : t.tree.port = s.tree.port
  clock : t.clock = s.clock
  queues : t.down.queues = s.down.queues
  journal : t.journal = s.journal
  config : t.config = s.config
  pending : t.pending = s.pending
  gens : ∀ j, (t.slot j).gen = (s.slot j).gen
  score : t.watch.score = s.watch.score
  b16 : t.watch.b16 = s.watch.b16
  history : t.watch.history = s.watch.history
  state : t.watch.state = s.watch.state

theorem Watch.settleCheck_score (w : Watch) : w.settleCheck.score = w.score := by
  unfold Watch.settleCheck
  split
  · rfl
  · split <;> rfl

theorem Watch.dropMember_score (w : Watch) (i : SlotId) : (w.dropMember i).score = w.score := by
  unfold Watch.dropMember
  split
  · rfl
  · exact Watch.settleCheck_score _

namespace State.GuardsOnly

theorem refl (s : State) : s.GuardsOnly s := ⟨rfl, rfl, rfl, rfl, rfl, rfl, fun _ => rfl, rfl, rfl, rfl, rfl⟩

section
variable {s t : State} (h : s.GuardsOnly t)
include h

theorem trans {u : State} (k : t.GuardsOnly u) : s.GuardsOnly u :=
  ⟨k.port.trans h.port, k.clock.trans h.clock, k.queues.trans h.queues, k.journal.trans h.journal, k.config.trans h.config,
    k.pending.trans h.pending, fun j => (k.gens j).trans (h.gens j), k.score.trans h.score, k.b16.trans h.b16,
    k.history.trans h.history, k.state.trans h.state⟩

theorem modStrikes (i : SlotId) (f : Strikes → Strikes) : s.GuardsOnly (t.modStrikes i f) :=
  h.trans ⟨rfl, rfl, rfl, rfl, rfl, rfl, fun _ => rfl, rfl, rfl, rfl, rfl⟩

theorem modEnrol (f : Enrolment → Enrolment) : s.GuardsOnly (t.modEnrol f) :=
  h.trans ⟨rfl, rfl, rfl, rfl, rfl, rfl, fun _ => rfl, rfl, rfl, rfl, rfl⟩

theorem barRequest (i : SlotId) (g : Gen) (reason : BarReason) : s.GuardsOnly (t.barRequest i g reason) := by
  rcases barRequest_cases t i reason g with hnone | hbar
  · rw [hnone]
    exact h
  · rw [hbar]
    obtain ⟨hb16, -, hhistory, -, hstate⟩ := t.watch.dropMember_kept i
    have hscore := t.watch.dropMember_score i
    have hwatch : (t.barSlot i reason).watch = t.watch ∨ (t.barSlot i reason).watch = t.watch.dropMember i := by
      rw [barSlot_watch]
      unfold State.dropMember
      split
      · exact .inr rfl
      · exact .inl rfl
    refine h.trans ⟨barSlot_port .., by simp, barSlot_queues .., by simp, by simp, by simp, fun j => ?_, ?_, ?_, ?_, ?_⟩
    · rw [barSlot_slot]
      split
      · next hj => rw [hj]; rfl
      · rfl
    all_goals rcases hwatch with hw | hw <;> rw [hw]
    all_goals assumption

theorem strikeTail (v : Bool) (i : SlotId) (g : Gen) : s.GuardsOnly (t.strikeTail v i g) := by
  unfold State.strikeTail
  dsimp only
  split
  · split
    · exact (h.modStrikes ..).barRequest ..
    · exact h.modStrikes ..
  · exact h

theorem strikeHead (v : Bool) (i : SlotId) (g : Gen) : s.GuardsOnly (t.strikeHead v i g) := by
  unfold State.strikeHead
  dsimp only
  split
  · split
    · exact (h.modStrikes ..).modEnrol _
    · exact h.modStrikes ..
  · exact h

theorem scoreGuard (c : GuardSample) : s.GuardsOnly (t.scoreGuard c) := by
  unfold State.scoreGuard
  dsimp only
  split <;> split
  · exact (h.strikeTail ..).strikeHead ..
  · exact h.strikeHead ..
  · exact h.strikeTail ..
  · exact h

theorem foldl (cs : List GuardSample) : s.GuardsOnly (cs.foldl State.scoreGuard t) := by
  induction cs generalizing t with
  | nil => exact h
  | cons c cs ih => exact ih (h.scoreGuard c)

end

end State.GuardsOnly

/-! ### Evidence (R105, R106) -/

/-- What the change to CONFIRMING writes: the watch's state and test, the watch request, and the roll call withdrawn. -/
theorem evidence_of_quiet {s : State} (h : s.watch.state = .clear ∨ s.watch.state = .alert) :
    s.evidence.watch = { s.watch with
        state := .confirming, since := s.clock.round, retestHeld := false
        test := some { want := 4, rounds := [], judged := 0, violated := 0 } }
      ∧ s.evidence.sched.watchReq = some 4 ∧ s.evidence.tree.port = s.tree.port := by
  have henter : ∀ u : State, u.watch.state.searching = false →
      u.enterConfirming.watch = { u.watch with
        state := .confirming, since := u.clock.round, retestHeld := false
        test := some { want := 4, rounds := [], judged := 0, violated := 0 } }
      ∧ u.enterConfirming.sched.watchReq = some 4 ∧ u.enterConfirming.tree.port = u.tree.port := fun u hquiet => by
    have hport : ∀ v : State, v.withdrawRoll.tree.port = v.tree.port := fun v =>
      ((State.OrdersOnly.refl v).withdrawRoll).port
    unfold State.enterConfirming State.openTest State.enterWatch
    rw [if_pos (by rfl : WatchState.confirming.searching = true)]
    refine ⟨?_, rfl, hport _⟩
    simp only [State.modSched_watch, State.modWatch_watch, State.withdrawRoll_frame, hquiet, Bool.false_and,
      Bool.false_eq_true, if_false]
    rfl
  unfold State.evidence
  rcases h with hclear | halert
  · rw [hclear]
    dsimp only
    rw [enterWatch_quiet s (by rfl : WatchState.alert.searching = false)]
    obtain ⟨hwatch, hreq, hport⟩ := henter ((s.modWatch fun w =>
      { w with
        state := .alert, since := s.clock.round, retestHeld := false
        history := if w.state.searching then [] else w.history }).modSched fun d => { d with watchReq := none }) rfl
    refine ⟨hwatch.trans ?_, hreq, hport⟩
    simp [hclear, WatchState.searching]
  · rw [halert]
    exact henter s (by rw [halert]; rfl)

end Sys2Proof.Machine
end

section
/-! PROOFS. The end of a round's reception in CLEAR or ALERT (O22, O23; R7, R101 to R106). -/

namespace Sys2Proof.Machine

-- One thread elaborates this section: the text as a whole is near the memory limit of the check.
set_option Elab.async false

/-! ### The round scored -/

section
variable (s : State) (c : RoundScore)

/-- The part once a round's record is discarded and its score taken (R7). -/
def State.receptionEnded (s : State) (r : Issued) : State :=
  (s.modTree (·.endReception r.plan.round)).modWatch fun w => { w with score := .empty }

/-- The part once the guard samples of a round are scored, unless it was flooded (R101). -/
def State.guardsScored (s : State) (c : RoundScore) : State := if c.flooded then s else c.guards.foldl State.scoreGuard s

/-- The part once the strike history took a round (R103, R105). -/
def State.struck (s : State) (c : RoundScore) : State :=
  s.modWatch fun w => { w with history := strikeHistory w.history c.dark, since := if c.dark then s.now else w.since }

theorem scoreRound_eq :
    s.scoreRound c = if ((s.guardsScored c).struck c).watch.evidenceHolds then ((s.guardsScored c).struck c).evidence
      else (s.guardsScored c).struck c := rfl

theorem guardsScored_only : s.GuardsOnly (s.guardsScored c) := by
  unfold State.guardsScored
  split
  · exact .refl s
  · exact (State.GuardsOnly.refl s).foldl c.guards

theorem execRoundReceptionEnd_quiet {s : State} {r : Issued} (hr : s.reception = some r)
    (hquiet : s.watch.state = .clear ∨ s.watch.state = .alert) :
    exec .roundReceptionEnd s = .next ((s.receptionEnded r).scoreRound s.watch.score) := by
  show execRoundReceptionEnd s = _
  unfold execRoundReceptionEnd
  rw [hr]
  rcases hquiet with h | h <;> (dsimp only; rw [h]; rfl)

theorem execRoundReceptionEnd_searching {s : State} {r : Issued} (hr : s.reception = some r)
    (hsearching : s.watch.state.searching = true) :
    exec .roundReceptionEnd s = .next ((s.receptionEnded r).judgeWindow r.plan.round s.watch.score) := by
  show execRoundReceptionEnd s = _
  unfold execRoundReceptionEnd
  rw [hr]
  dsimp only
  rw [hsearching]
  rfl

theorem flooded_iff : c.flooded = true ↔
    3 ≤ (c.guards.filter (·.violation)).length ∧ c.guards.length ≤ 2 * (c.guards.filter (·.violation)).length := by
  unfold RoundScore.flooded RoundScore.guardViolations
  rw [List.countP_eq_length_filter, Bool.and_eq_true, decide_eq_true_iff, decide_eq_true_iff]

theorem dark_iff : c.dark = true ↔ 2 ≤ c.quietViolations ∨
    (3 ≤ (c.guards.filter (·.violation)).length ∧ c.guards.length ≤ 2 * (c.guards.filter (·.violation)).length) := by
  unfold RoundScore.dark
  rw [Bool.or_eq_true, decide_eq_true_iff, flooded_iff]

theorem evidenceHolds_iff (w : Watch) : w.evidenceHolds = true ↔ 3 ≤ (w.history.filter id).length := by
  unfold Watch.evidenceHolds
  rw [List.countP_eq_length_filter, decide_eq_true_iff]

/-- What the history and the evidence leave of the part whose guard samples are scored. -/
theorem scoreRound_kept {s : State} {c : RoundScore} (hquiet : s.watch.state = .clear ∨ s.watch.state = .alert) :
    (s.scoreRound c).home = (s.guardsScored c).home ∧ (s.scoreRound c).link = (s.guardsScored c).link
      ∧ (s.scoreRound c).enrol = (s.guardsScored c).enrol ∧ (s.scoreRound c).down = (s.guardsScored c).down
      ∧ (s.scoreRound c).journal = (s.guardsScored c).journal ∧ (s.scoreRound c).clock = (s.guardsScored c).clock
      ∧ (s.scoreRound c).config = (s.guardsScored c).config ∧ (s.scoreRound c).pending = (s.guardsScored c).pending
      ∧ (s.scoreRound c).tree.port = (s.guardsScored c).tree.port
      ∧ (s.scoreRound c).watch.counts = (s.guardsScored c).watch.counts
      ∧ (s.scoreRound c).watch.score = (s.guardsScored c).watch.score
      ∧ (s.scoreRound c).watch.b16 = (s.guardsScored c).watch.b16
      ∧ (s.scoreRound c).watch.history = strikeHistory s.watch.history c.dark
      ∧ ((strikeHistory s.watch.history c.dark).countP id < 3 → (s.scoreRound c).watch.state = s.watch.state)
      ∧ (3 ≤ (strikeHistory s.watch.history c.dark).countP id → (s.scoreRound c).watch.state = .confirming
          ∧ (s.scoreRound c).watch.test = some { want := 4, rounds := [], judged := 0, violated := 0 }
          ∧ (s.scoreRound c).sched.watchReq = some 4) := by
  have honly := guardsScored_only s c
  rw [scoreRound_eq]
  generalize s.guardsScored c = u at honly ⊢
  have hhistory : (u.struck c).watch.history = strikeHistory s.watch.history c.dark := by
    rw [← honly.history]
    rfl
  have hstate : (u.struck c).watch.state = s.watch.state := honly.state
  split
  · next hholds =>
    obtain ⟨hwatch, hreq, hport⟩ := evidence_of_quiet (s := u.struck c) (by rwa [hstate])
    have hmany : 3 ≤ (strikeHistory s.watch.history c.dark).countP id := by
      rw [← hhistory]
      exact of_decide_eq_true hholds
    refine ⟨?_, ?_, ?_, ?_, ?_, ?_, ?_, ?_, hport, ?_, ?_, ?_, ?_, fun hfew => absurd hmany (Nat.not_le.mpr hfew),
      fun _ => ⟨?_, ?_, hreq⟩⟩
    · rw [(State.evidence_frame _).1]; rfl
    · simp only [State.evidence_frame]; rfl
    · simp only [State.evidence_frame]; rfl
    · simp only [State.evidence_frame]; rfl
    · simp only [State.evidence_frame]; rfl
    · simp only [State.evidence_frame]; rfl
    · simp only [State.evidence_frame]; rfl
    · simp only [State.evidence_frame]; rfl
    all_goals rw [hwatch]
    · rfl
    · rfl
    · rfl
    · exact hhistory
  · next hfew =>
    have hfew' : ¬ 3 ≤ (strikeHistory s.watch.history c.dark).countP id := by
      rw [← hhistory]
      exact fun h => hfew (decide_eq_true h)
    exact ⟨rfl, rfl, rfl, rfl, rfl, rfl, rfl, rfl, rfl, rfl, rfl, rfl, hhistory, fun _ => hstate,
      fun hmany => absurd hmany hfew'⟩

end

/-- Settles O22: the end of a round's reception in CLEAR or ALERT. -/
theorem receptionEndScored : Obligations.ReceptionEndScored := by
  unfold Obligations.ReceptionEndScored
  intro s r hr hquiet
  obtain ⟨-, -, -, hdown, hjournal, hclock, hconfig, hpending, hport, -, hscore, hb16, hhistory, hfew, hmany⟩ :=
    scoreRound_kept (s := s.receptionEnded r) (c := s.watch.score) hquiet
  have honly := guardsScored_only (s.receptionEnded r) s.watch.score
  generalize (s.receptionEnded r).guardsScored s.watch.score = u at *
  have hreceived := hport.trans honly.port
  have hdark : ∀ b : Bool, b = s.watch.score.dark → strikeHistory s.watch.history s.watch.score.dark =
      (b :: s.watch.history).take 16 := fun b hb => by
    rw [hb]
    rfl
  have hpast := hdark _ (Bool.eq_iff_iff.mpr (decide_eq_true_iff.trans (dark_iff s.watch.score).symm))
  have hcount : (strikeHistory s.watch.history s.watch.score.dark).countP id =
      ((strikeHistory s.watch.history s.watch.score.dark).filter id).length := List.countP_eq_length_filter
  have hwatch : (s.receptionEnded r).watch.history = s.watch.history := rfl
  rw [hwatch] at hhistory hfew hmany
  rw [hcount, hpast] at hfew hmany
  rw [hpast] at hhistory
  refine ⟨_, execRoundReceptionEnd_quiet hr hquiet, ?_, (TreePort.received_of_port hreceived).trans rfl,
    hclock.trans honly.clock, (congrArg Downstream.queues hdown).trans honly.queues, hjournal.trans honly.journal,
    hconfig.trans honly.config, hpending.trans honly.pending, hscore.trans honly.score, hb16.trans honly.b16, hhistory, hfew,
    hmany⟩
  exact (TreePort.issued_of_port hreceived).trans List.drop_one

/-! ### Strikes (R101, R102) -/

section
variable {s : State} {v : Bool} {i : SlotId} {g : Gen}

theorem strikeTail_other (h : (s.slot i).gen ≠ g) : s.strikeTail v i g = s := if_neg h
theorem strikeHead_other (h : (s.slot i).gen ≠ g) : s.strikeHead v i g = s := if_neg h

theorem strikeTail_quiet (h : ¬ ((s.strikes i).tail = 7 ∧ strikeCount v (s.strikes i).tail = 8)) :
    s.strikeTail v i (s.slot i).gen = s.modStrikes i fun k => { k with tail := strikeCount v (s.strikes i).tail } := by
  unfold State.strikeTail
  rw [if_pos rfl]
  exact if_neg h

theorem strikeTail_risen (h : (s.strikes i).tail = 7 ∧ strikeCount v (s.strikes i).tail = 8) :
    s.strikeTail v i (s.slot i).gen =
      (s.modStrikes i fun k => { k with tail := strikeCount v (s.strikes i).tail }).barRequest i (s.slot i).gen .overrun := by
  unfold State.strikeTail
  rw [if_pos rfl]
  exact if_pos h

theorem strikeHead_quiet (h : strikeCount v (s.strikes i).head < 8) :
    s.strikeHead v i (s.slot i).gen = s.modStrikes i fun k => { k with head := strikeCount v (s.strikes i).head } := by
  unfold State.strikeHead
  rw [if_pos rfl]
  exact if_neg (Nat.not_le.mpr h)

theorem strikeHead_risen (h : 8 ≤ strikeCount v (s.strikes i).head) :
    s.strikeHead v i (s.slot i).gen =
      (s.modStrikes i fun k => { k with head := 0 }).modEnrol fun e => { e with reechoes := e.reechoes ++ [i] } := by
  unfold State.strikeHead
  rw [if_pos rfl]
  exact if_pos h

end

/-- The score of a strike count by one sample, below the limit. -/
def strikeScore (k : Nat) (c : GuardSample) : Nat := if c.violation then k + 1 else k - 1

theorem strikeCount_of_low {k : Nat} (c : GuardSample) (h : k < 7) :
    strikeCount c.violation k = strikeScore k c ∧ strikeScore k c < 8 := by
  unfold strikeCount strikeScore
  split <;> omega

/-- What scoring leaves where no count rises to 8. -/
structure State.OnlyStrikes (s t : State) : Prop where
  home : t.home = s.home
  link : t.link = s.link
  reechoes : t.enrol.reechoes = s.enrol.reechoes

/-- The counts of a slot after one sample, by whether it is the slot before or after. -/
def Strikes.scored (k : Strikes) (c : GuardSample) (before after : Bool) : Strikes :=
  { tail := if before then strikeScore k.tail c else k.tail, head := if after then strikeScore k.head c else k.head }

theorem scoreGuard_low {s : State} (c : GuardSample) (hlow : ∀ i, (s.strikes i).tail < 7 ∧ (s.strikes i).head < 7) :
    s.OnlyStrikes (s.scoreGuard c) ∧ ∀ j, (s.scoreGuard c).strikes j =
      (s.strikes j).scored c (c.before == some (j, (s.slot j).gen)) (c.after == some (j, (s.slot j).gen)) := by
  have htail : ∀ i g, s.OnlyStrikes (s.strikeTail c.violation i g) ∧ ∀ j, (s.strikeTail c.violation i g).strikes j =
      (s.strikes j).scored c (some (i, g) == some (j, (s.slot j).gen)) false := fun i g => by
    by_cases hg : (s.slot i).gen = g
    · subst hg
      rw [strikeTail_quiet (by
        have := hlow i
        omega), (strikeCount_of_low c (hlow i).1).1]
      refine ⟨⟨rfl, rfl, rfl⟩, fun j => ?_⟩
      rw [State.modStrikes_strikes]
      by_cases hj : j = i
      · subst hj
        simp [Strikes.scored]
      · simp [hj, Ne.symm hj, Strikes.scored]
    · rw [strikeTail_other hg]
      refine ⟨⟨rfl, rfl, rfl⟩, fun j => ?_⟩
      have hne : (some (i, g) == some (j, (s.slot j).gen)) = false := by
        rw [beq_eq_false_iff_ne]
        intro h
        obtain ⟨rfl, rfl⟩ := Prod.mk.inj (Option.some.inj h)
        exact hg rfl
      rw [hne]
      rfl
  have hhead : ∀ u : State, s.OnlyStrikes u → (∀ j, (u.strikes j).head = (s.strikes j).head) → ∀ i g,
      s.OnlyStrikes (u.strikeHead c.violation i g) ∧ ∀ j, (u.strikeHead c.violation i g).strikes j =
        (u.strikes j).scored c false (some (i, g) == some (j, (s.slot j).gen)) := fun u hu heads i g => by
    have hslot := slot_congr hu.home
    by_cases hg : (u.slot i).gen = g
    · subst hg
      have hhere : (u.strikes i).head < 7 := by
        rw [heads]
        exact (hlow i).2
      rw [strikeHead_quiet (by
        obtain ⟨heq, hlt⟩ := strikeCount_of_low c hhere
        omega), (strikeCount_of_low c hhere).1]
      refine ⟨⟨hu.home, hu.link, hu.reechoes⟩, fun j => ?_⟩
      rw [State.modStrikes_strikes, hslot]
      by_cases hj : j = i
      · subst hj
        simp [Strikes.scored]
      · simp [hj, Ne.symm hj, Strikes.scored]
    · rw [strikeHead_other hg]
      refine ⟨hu, fun j => ?_⟩
      have hne : (some (i, g) == some (j, (s.slot j).gen)) = false := by
        rw [beq_eq_false_iff_ne]
        intro h
        obtain ⟨rfl, rfl⟩ := Prod.mk.inj (Option.some.inj h)
        exact hg (by rw [hslot])
      rw [hne]
      rfl
  have hboth : ∀ (k : Strikes) b a, (k.scored c b false).scored c false a = k.scored c b a := fun _ _ _ => rfl
  unfold State.scoreGuard
  rcases hbefore : c.before with _ | ⟨i, g⟩ <;> rcases hafter : c.after with _ | ⟨i', g'⟩
  · exact ⟨⟨rfl, rfl, rfl⟩, fun _ => rfl⟩
  · exact hhead s ⟨rfl, rfl, rfl⟩ (fun _ => rfl) i' g'
  · exact htail i g
  · obtain ⟨honly, hstrikes⟩ := htail i g
    obtain ⟨honly', hstrikes'⟩ := hhead (s.strikeTail c.violation i g) honly (fun j => by rw [hstrikes]; rfl) i' g'
    refine ⟨honly', fun j => ?_⟩
    rw [hstrikes', hstrikes, hboth]

/-- The counts after samples too few to bring one to 8. -/
theorem foldl_scoreGuard_low (cs : List GuardSample) (s : State)
    (hlow : ∀ i, (s.strikes i).tail + cs.length < 8 ∧ (s.strikes i).head + cs.length < 8) :
    s.OnlyStrikes (cs.foldl State.scoreGuard s) ∧ ∀ j, (cs.foldl State.scoreGuard s).strikes j = {
      tail := (cs.filter fun c => c.before = some (j, (s.slot j).gen)).foldl strikeScore (s.strikes j).tail
      head := (cs.filter fun c => c.after = some (j, (s.slot j).gen)).foldl strikeScore (s.strikes j).head } := by
  induction cs generalizing s with
  | nil => exact ⟨⟨rfl, rfl, rfl⟩, fun _ => rfl⟩
  | cons c cs ih =>
    simp only [List.length_cons] at hlow
    obtain ⟨honly, hstrikes⟩ := scoreGuard_low c (s := s) fun i => by
      have := hlow i
      omega
    have hslot := slot_congr honly.home
    obtain ⟨honly', hstrikes'⟩ := ih (s.scoreGuard c) fun i => by
      rw [hstrikes]
      have := hlow i
      simp only [Strikes.scored, strikeScore]
      constructor <;> (repeat' split) <;> omega
    refine ⟨⟨honly'.home.trans honly.home, honly'.link.trans honly.link, honly'.reechoes.trans honly.reechoes⟩, fun j => ?_⟩
    rw [List.foldl_cons, hstrikes', hstrikes, hslot, List.filter_cons, List.filter_cons]
    simp only [Strikes.scored, Strikes.mk.injEq, beq_iff_eq, decide_eq_true_eq]
    constructor <;> split <;> rfl

end Sys2Proof.Machine
end

section
/-! PROOFS. The guard strikes of a round (O23; R101, R102). -/

namespace Sys2Proof.Machine

-- One thread elaborates this section: the text as a whole is near the memory limit of the check.
set_option Elab.async false

section
variable {s : State} {v : Bool} {i : SlotId}

/-- The slot before a sample: its tail count scored, and a bar when that rises to 8. -/
theorem strikeTail_spec (v : Bool) (i : SlotId) :
    ((s.strikeTail v i (s.slot i).gen).strikes i).tail = strikeCount v (s.strikes i).tail
      ∧ ((s.strikeTail v i (s.slot i).gen).strikes i).head = (s.strikes i).head
      ∧ (∀ j, j ≠ i → (s.strikeTail v i (s.slot i).gen).strikes j = s.strikes j)
      ∧ (s.strikeTail v i (s.slot i).gen).enrol.reechoes = s.enrol.reechoes := by
  by_cases h : (s.strikes i).tail = 7 ∧ strikeCount v (s.strikes i).tail = 8
  · rw [strikeTail_risen h]
    generalize hu : (s.modStrikes i fun k => { k with tail := strikeCount v (s.strikes i).tail }) = u
    have hstrikes : ∀ j, (u.barRequest i (s.slot i).gen .overrun).strikes j = u.strikes j := fun j => by
      rcases barRequest_cases u i .overrun (s.slot i).gen with hb | hb <;> rw [hb]
      exact barSlot_strikes ..
    have hreechoes : (u.barRequest i (s.slot i).gen .overrun).enrol.reechoes = u.enrol.reechoes := by
      rcases barRequest_cases u i .overrun (s.slot i).gen with hb | hb <;> rw [hb]
      exact barSlot_reechoes ..
    refine ⟨?_, ?_, fun j hj => ?_, ?_⟩
    · rw [hstrikes, ← hu, State.modStrikes_strikes, if_pos rfl]
    · rw [hstrikes, ← hu, State.modStrikes_strikes, if_pos rfl]
    · rw [hstrikes, ← hu, State.modStrikes_strikes, if_neg hj]
    · rw [hreechoes, ← hu]
      rfl
  · rw [strikeTail_quiet h]
    refine ⟨?_, ?_, fun j hj => ?_, rfl⟩
    · rw [State.modStrikes_strikes, if_pos rfl]
    · rw [State.modStrikes_strikes, if_pos rfl]
    · rw [State.modStrikes_strikes, if_neg hj]

theorem strikeTail_bars {x : Serial} (hserial : (s.slot i).serial = some x) (htail : (s.strikes i).tail = 7)
    (hactive : (s.slot i).state = .active) :
    ((s.strikeTail true i (s.slot i).gen).slot i).state = .barred
      ∧ ((s.strikeTail true i (s.slot i).gen).slot i).barReason = some .overrun
      ∧ s.Raised (s.strikeTail true i (s.slot i).gen) .homeBarred
        (be 1 i.val ++ be 8 x.toNat ++ be 1 BarReason.overrun.code) := by
  rw [strikeTail_risen ⟨htail, by rw [htail]; rfl⟩]
  generalize hu : (s.modStrikes i fun k => { k with tail := strikeCount true (s.strikes i).tail }) = u
  have hslot : u.slot i = s.slot i := by rw [← hu]; rfl
  have hblocks : u.link = s.link ∧ u.clock = s.clock ∧ u.config = s.config := by rw [← hu]; exact ⟨rfl, rfl, rfl⟩
  obtain ⟨hlink, hclock, hconfig⟩ := hblocks
  rw [← hslot, barRequest_of_barrable u i .overrun (.inr (.inl (by rwa [hslot]))), barSlot_slot, if_pos rfl]
  have hraised := barSlot_raised u i .overrun
  rw [hslot, hserial] at hraised
  exact ⟨rfl, rfl, hraised.of_congr hlink (by rw [hclock]) (by rw [hclock]) (by rw [hclock]) hconfig⟩

theorem strikeTail_still (h : v = false ∨ (s.strikes i).tail ≠ 7) :
    (s.strikeTail v i (s.slot i).gen).home = s.home ∧ (s.strikeTail v i (s.slot i).gen).link = s.link := by
  rw [strikeTail_quiet (fun hrisen => by
    obtain ⟨hseven, height⟩ := hrisen
    rcases h with h | h
    · rw [h, hseven] at height
      exact absurd height (by decide)
    · exact h hseven)]
  exact ⟨rfl, rfl⟩

/-- The slot after a sample: its head count scored, and a re-echo instead of an 8. -/
theorem strikeHead_spec (v : Bool) (j : SlotId) :
    (s.strikeHead v j (s.slot j).gen).home = s.home ∧ (s.strikeHead v j (s.slot j).gen).link = s.link
      ∧ ((s.strikeHead v j (s.slot j).gen).strikes j).tail = (s.strikes j).tail
      ∧ (∀ k, k ≠ j → (s.strikeHead v j (s.slot j).gen).strikes k = s.strikes k)
      ∧ (8 ≤ strikeCount v (s.strikes j).head → ((s.strikeHead v j (s.slot j).gen).strikes j).head = 0
        ∧ (s.strikeHead v j (s.slot j).gen).enrol.reechoes = s.enrol.reechoes ++ [j])
      ∧ (strikeCount v (s.strikes j).head < 8 →
        ((s.strikeHead v j (s.slot j).gen).strikes j).head = strikeCount v (s.strikes j).head
          ∧ (s.strikeHead v j (s.slot j).gen).enrol.reechoes = s.enrol.reechoes) := by
  have hself : ∀ f : Strikes → Strikes, (s.modStrikes j f).strikes j = f (s.strikes j) := fun f => by
    rw [State.modStrikes_strikes, if_pos rfl]
  have hother : ∀ (f : Strikes → Strikes) k, k ≠ j → (s.modStrikes j f).strikes k = s.strikes k := fun f k hk => by
    rw [State.modStrikes_strikes, if_neg hk]
  rcases Nat.lt_or_ge (strikeCount v (s.strikes j).head) 8 with hlow | hrisen
  · rw [strikeHead_quiet hlow, hself]
    exact ⟨rfl, rfl, rfl, hother _, fun h => absurd hlow (Nat.not_lt.mpr h), fun _ => ⟨rfl, rfl⟩⟩
  · rw [strikeHead_risen hrisen]
    exact ⟨rfl, rfl, (congrArg Strikes.tail (hself fun k => { k with head := 0 }) :), hother fun k => { k with head := 0 },
      fun _ => ⟨(congrArg Strikes.head (hself fun k => { k with head := 0 }) :), rfl⟩, fun h => absurd hrisen (Nat.not_le.mpr h)⟩

end

theorem guardsScored_of_flooded {s : State} {c : RoundScore} (h : c.flooded = true) : s.guardsScored c = s := if_pos h

theorem guardsScored_of_not_flooded {s : State} {c : RoundScore} (h : ¬ c.flooded = true) :
    s.guardsScored c = c.guards.foldl State.scoreGuard s := if_neg h

/-- Settles O23: the guard strikes of a round. -/
theorem guardStrikesScored : Obligations.GuardStrikesScored := by
  unfold Obligations.GuardStrikesScored
  refine ⟨fun s r hr hquiet => ?_, fun s r v i j x hr hquiet hij hserial hguards => ?_⟩
  · obtain ⟨hhome, hlink, henrol, -, -, -, -, -, -, hcounts, -⟩ :=
      scoreRound_kept (s := s.receptionEnded r) (c := s.watch.score) hquiet
    refine ⟨_, execRoundReceptionEnd_quiet hr hquiet, fun hflooded => ?_, fun hnot hlow => ?_⟩
    · rw [guardsScored_of_flooded ((flooded_iff _).mpr hflooded)] at hhome henrol hcounts
      exact ⟨hcounts, hhome, congrArg Enrolment.reechoes henrol⟩
    · rw [guardsScored_of_not_flooded (mt (flooded_iff _).mp hnot)] at hhome hlink henrol hcounts
      obtain ⟨honly, hstrikes⟩ := foldl_scoreGuard_low s.watch.score.guards (s.receptionEnded r) hlow
      refine ⟨hhome.trans honly.home, hlink.trans honly.link, (congrArg Enrolment.reechoes henrol).trans honly.reechoes,
        fun k => ?_⟩
      exact (congrArg (fun w : Vector Strikes 128 => w.get k) hcounts).trans (hstrikes k)
  · obtain ⟨hhome, hlink, henrol, -, -, -, -, -, -, hcounts, -⟩ :=
      scoreRound_kept (s := s.receptionEnded r) (c := s.watch.score) hquiet
    have hnot : ¬ s.watch.score.flooded = true := fun h => by
      have hthree := ((flooded_iff _).mp h).1
      rw [hguards] at hthree
      have := List.length_filter_le (·.violation)
        [({ violation := v, before := some (i, (s.slot i).gen), after := some (j, (s.slot j).gen) } : GuardSample)]
      simp only [List.length_singleton] at this
      omega
    rw [guardsScored_of_not_flooded hnot, hguards] at hhome hlink henrol hcounts
    generalize hs : s.receptionEnded r = s₀ at hhome hlink henrol hcounts
    have hslots : ∀ k, s₀.slot k = s.slot k := fun k => by rw [← hs]; rfl
    have hcount₀ : ∀ k, s₀.strikes k = s.strikes k := fun k => by rw [← hs]; rfl
    have hblocks : s₀.home = s.home ∧ s₀.link = s.link ∧ s₀.enrol = s.enrol ∧ s₀.clock = s.clock ∧ s₀.config = s.config := by
      rw [← hs]
      exact ⟨rfl, rfl, rfl, rfl, rfl⟩
    obtain ⟨bhome, blink, benrol, bclock, bconfig⟩ := hblocks
    obtain ⟨htail, hhead, hrest, hreechoes⟩ := strikeTail_spec (s := s₀) v i
    have hgen : (((s₀.strikeTail v i (s₀.slot i).gen)).slot j).gen = (s.slot j).gen := by
      rw [((State.GuardsOnly.refl s₀).strikeTail v i _).gens, hslots]
    have hbars := strikeTail_bars (s := s₀) (i := i) (x := x) (by rw [hslots, hserial])
    have hstill := strikeTail_still (s := s₀) (v := v) (i := i)
    have hfold : [({ violation := v, before := some (i, (s.slot i).gen), after := some (j, (s.slot j).gen) } :
        GuardSample)].foldl State.scoreGuard s₀ =
          (s₀.strikeTail v i (s₀.slot i).gen).strikeHead v j ((s₀.strikeTail v i (s₀.slot i).gen).slot j).gen := by
      rw [hgen, hslots]
      rfl
    rw [hfold] at hhome hlink henrol hcounts
    generalize hu : s₀.strikeTail v i (s₀.slot i).gen = u at *
    obtain ⟨jhome, jlink, jtail, jrest, jrisen, jlow⟩ := strikeHead_spec (s := u) v j
    generalize u.strikeHead v j (u.slot j).gen = w at *
    have hstrikes : ∀ k, ((s.receptionEnded r).scoreRound s.watch.score).strikes k = w.strikes k := fun k => by
      rw [hs]
      exact congrArg (fun n : Vector Strikes 128 => n.get k) hcounts
    refine ⟨_, execRoundReceptionEnd_quiet hr hquiet, ?_⟩
    simp only [hstrikes]
    rw [hs, hhome, hlink, henrol]
    have hheadj : (u.strikes j).head = (s.strikes j).head := by rw [hrest j hij.symm, hcount₀]
    rw [hheadj, hreechoes, benrol] at jrisen jlow
    refine ⟨?_, ?_, ?_, fun hv hseven hactive => ?_, fun hlow => ?_, fun hv hseven => ?_, fun hv hbelow => ?_,
      fun hv hbelow => ?_⟩
    · rw [jrest i hij, htail, hcount₀]
      rfl
    · rw [jrest i hij, hhead, hcount₀]
    · rw [jtail, hrest j hij.symm, hcount₀]
    · subst hv
      rw [hu] at hbars
      obtain ⟨hstate, hreason, hraised⟩ := hbars (by rw [hcount₀, hseven]) (by rw [hslots, hactive])
      have hslot : ∀ k, (((s₀.scoreRound s.watch.score)).slot k) = u.slot k := fun k =>
        slot_congr (hhome.trans jhome) k
      rw [hslot]
      exact ⟨hstate, hreason, (hraised.of_congr blink (by rw [bclock]) (by rw [bclock]) (by rw [bclock]) bconfig).congr_right
        (hlink.trans jlink)⟩
    · obtain ⟨khome, klink⟩ := hstill (hlow.imp_right fun h => by rwa [hcount₀])
      exact ⟨jhome.trans (khome.trans bhome), jlink.trans (klink.trans blink)⟩
    · exact jrisen (by rw [hv, hseven]; decide)
    · have hup : strikeCount v (s.strikes j).head = (s.strikes j).head + 1 := by
        rw [hv]
        unfold strikeCount
        rw [if_pos rfl]
        omega
      rw [hup] at jlow
      exact jlow (by omega)
    · have hdown : strikeCount v (s.strikes j).head = (s.strikes j).head - 1 := by
        rw [hv]
        exact if_neg Bool.false_ne_true
      rw [hdown] at jlow
      exact jlow (by omega)

end Sys2Proof.Machine
end

section
/-! PROOFS. The orders of the watch while LIT, and the stages of a locate (R107 to R116). -/

namespace Sys2Proof.Machine

-- One thread elaborates this section: the text as a whole is near the memory limit of the check.
set_option Elab.async false

/-! ### The orders of the watch offered while LIT (R110, R115) -/

/-- An order as it was before its offer was accepted. -/
def WatchOrder.unsent (o : WatchOrder) : WatchOrder := { o with seq := none }

section
variable {s : State}

theorem watchOrder_span (hush : Bool) : (if hush then OrderBody.hush else .wake .watch).needsSpan = false := by
  cases hush <;> rfl

theorem offerWatchOrder_of_full {w : WatchOrder} (hlit : s.tree.state = .lit) (hnone : w.seq = none)
    (hfull : 8 ≤ s.tree.urgent.length) : s.offerWatchOrder w = s := by
  unfold State.offerWatchOrder
  rw [hnone]
  dsimp only
  rw [offerOrder_refused (.inl hlit) ((refuses_urgent_iff ..).mpr hfull)]

/-- A lane that is full refuses the orders that follow. -/
theorem foldl_offerWatchOrder_of_full {ws : List WatchOrder} (hlit : s.tree.state = .lit) (hnone : ∀ w ∈ ws, w.seq = none)
    (hfull : 8 ≤ s.tree.urgent.length) : ws.foldl State.offerWatchOrder s = s := by
  induction ws with
  | nil => rfl
  | cons w ws ih =>
    rw [List.foldl_cons, offerWatchOrder_of_full hlit (hnone w (List.mem_cons_self ..)) hfull]
    exact ih fun w' hw' => hnone w' (List.mem_cons_of_mem _ hw')

theorem offerWatchOrder_of_room {w : WatchOrder} (hlit : s.tree.state = .lit) (hnone : w.seq = none)
    (hroom : s.tree.urgent.length < 8) :
    (s.offerWatchOrder w).watch =
        { s.watch with orders := replaceFirst w { w with seq := some (s.tree.orderSeq + 1) } s.watch.orders }
      ∧ (∀ j, ((s.offerWatchOrder w).slot j).hushed = ((s.slot j).hushed || (w.hush && j == w.slot)))
      ∧ (w.hush = false → (s.offerWatchOrder w).home = s.home) := by
  have hopen : s.tree.refuses .urgent (some (w.slot, w.gen)) = false :=
    Bool.eq_false_iff.mpr (mt (refuses_urgent_iff ..).mp (Nat.not_le.mpr hroom))
  unfold State.offerWatchOrder
  rw [hnone]
  dsimp only
  rw [offerOrder_accepted (.inl hlit) hopen]
  dsimp only
  cases hhush : w.hush
  · refine ⟨rfl, fun j => ?_, fun _ => rfl⟩
    exact (Bool.or_false _).symm
  · refine ⟨rfl, fun j => ?_, nofun⟩
    rw [if_pos rfl, State.modSlot_slot]
    by_cases hj : j = w.slot
    · simp [hj]
    · simp [hj]

theorem replaceFirst_append {α : Type} [DecidableEq α] {x y : α} {before after : List α} (h : x ∉ before) :
    replaceFirst x y (before ++ x :: after) = before ++ y :: after := by
  induction before with
  | nil => exact if_pos rfl
  | cons z before ih =>
    obtain ⟨hz, hbefore⟩ := not_or.mp (mt List.mem_cons.mpr h)
    rw [List.cons_append, replaceFirst, if_neg (Ne.symm hz), ih hbefore]
    rfl

/-- What offering the orders `os` leaves of a part that waits for them. -/
structure State.WatchOffered (s : State) (os : List WatchOrder) (t : State) : Prop where
  watch : t.watch = { s.watch with orders := t.watch.orders }
  orders : t.watch.orders.map WatchOrder.unsent = os
  accepted : t.tree.urgent.length < 8 → ∀ o ∈ t.watch.orders, o.seq ≠ none
  hushed : ∀ o ∈ t.watch.orders, o.hush = true → o.seq ≠ none → (t.slot o.slot).hushed = true
  home : (∀ o ∈ os, o.hush = false) → t.home = s.home

/-- The orders are accepted from the first on, while the lane has room; those accepted bear their sequence. -/
theorem foldl_offerWatchOrder (rest sent : List WatchOrder) (s : State) (hlit : s.tree.state = .lit)
    (horders : s.watch.orders = sent ++ rest) (hrest : ∀ w ∈ rest, w.seq = none) (hsent : ∀ w ∈ sent, w.seq ≠ none)
    (hhushed : ∀ o ∈ sent, o.hush = true → (s.slot o.slot).hushed = true) :
    s.WatchOffered (sent.map WatchOrder.unsent ++ rest) (rest.foldl State.offerWatchOrder s) := by
  have hunsent : ∀ ws : List WatchOrder, (∀ w ∈ ws, w.seq = none) → ws.map WatchOrder.unsent = ws := fun ws hws => by
    refine (List.map_congr_left fun w hw => ?_).trans (List.map_id _)
    unfold WatchOrder.unsent
    rw [← hws w hw]
    rfl
  induction rest generalizing s sent with
  | nil =>
    rw [List.append_nil] at horders
    refine ⟨rfl, ?_, fun _ o ho => hsent o (horders ▸ ho), fun o ho hush _ => hhushed o (horders ▸ ho) hush, fun _ => rfl⟩
    rw [List.append_nil]
    exact congrArg (List.map WatchOrder.unsent) horders
  | cons w rest ih =>
    have hw := hrest w (List.mem_cons_self ..)
    rcases Nat.lt_or_ge s.tree.urgent.length 8 with hroom | hfull
    · obtain ⟨hwatch, hslots, hhome⟩ := offerWatchOrder_of_room hlit hw hroom
      have hport : (s.offerWatchOrder w).tree.port = s.tree.port := ((State.OrdersOnly.refl s).offerWatchOrder w).port
      have hnew := replaceFirst_append (y := { w with seq := some (s.tree.orderSeq + 1) }) (after := rest)
        (fun h => hsent w h hw : w ∉ sent)
      rw [horders, hnew, List.append_cons] at hwatch
      have hoffered := ih (sent ++ [{ w with seq := some (s.tree.orderSeq + 1) }]) (s.offerWatchOrder w)
        ((TreePort.state_of_port hport).trans hlit) (by rw [hwatch]) (fun o ho => hrest o (List.mem_cons_of_mem _ ho))
        (fun o ho => (List.mem_append.mp ho).elim (hsent o) fun ho => by
          rw [List.mem_singleton.mp ho]
          exact nofun)
        (fun o ho hush => by
          rw [hslots]
          rcases List.mem_append.mp ho with ho | ho
          · rw [hhushed o ho hush]
            rfl
          · rw [List.mem_singleton.mp ho] at hush ⊢
            have hhush : w.hush = true := hush
            simp [hhush])
      have hlist : (sent ++ [{ w with seq := some (s.tree.orderSeq + 1) }]).map WatchOrder.unsent ++ rest =
          sent.map WatchOrder.unsent ++ w :: rest := by
        rw [List.map_append, List.append_assoc]
        congr 1
        have hback : ({ w with seq := some (s.tree.orderSeq + 1) } : WatchOrder).unsent = w := by
          unfold WatchOrder.unsent
          rw [← hw]
        rw [List.map_singleton, hback]
        rfl
      rw [hlist] at hoffered
      refine ⟨hoffered.watch.trans ?_, hoffered.orders, hoffered.accepted, hoffered.hushed, fun hwakes => ?_⟩
      · rw [hwatch]
        rfl
      · exact (hoffered.home hwakes).trans (hhome (hwakes w (List.mem_append_right _ (List.mem_cons_self ..))))
    · rw [foldl_offerWatchOrder_of_full hlit hrest hfull]
      refine ⟨rfl, ?_, fun hroom => absurd hroom (Nat.not_lt.mpr hfull), fun o ho hush hseq => ?_, fun _ => rfl⟩
      · rw [horders, List.map_append, hunsent _ hrest]
      · rw [horders] at ho
        rcases List.mem_append.mp ho with ho | ho
        · exact hhushed o ho hush
        · exact absurd (hrest o ho) hseq

theorem offerWatchOrders_offered {s : State} {os : List WatchOrder} (hlit : s.tree.state = .lit)
    (horders : s.watch.orders = os) (hnone : ∀ w ∈ os, w.seq = none) : s.WatchOffered os s.offerWatchOrders := by
  unfold State.offerWatchOrders
  rw [horders]
  exact foldl_offerWatchOrder os [] s hlit horders hnone nofun nofun

theorem State.WatchOffered.mem {s t : State} {os : List WatchOrder} (h : s.WatchOffered os t) {w : WatchOrder} (hw : w ∈ os) :
    ∃ o ∈ t.watch.orders, o.slot = w.slot ∧ o.gen = w.gen ∧ o.hush = w.hush := by
  rw [← h.orders] at hw
  obtain ⟨o, ho, rfl⟩ := List.mem_map.mp hw
  exact ⟨o, ho, rfl, rfl, rfl⟩

theorem State.WatchOffered.none {s t : State} (h : s.WatchOffered [] t) : t.watch.orders = [] :=
  List.map_eq_nil_iff.mp h.orders

end

/-! ### HUSHes and WAKEs for a set (R110, R112) -/

section
variable (s : State) (members : List (SlotId × Gen))

theorem hushOrders_mem {c : SlotId × Gen} (hc : c ∈ members) (hclear : (s.slot c.1).hushed = false) :
    { slot := c.1, gen := c.2, hush := true, seq := none } ∈ s.hushOrders members :=
  List.mem_map.mpr ⟨c, List.mem_filter.mpr ⟨hc, by rw [hclear]; rfl⟩, rfl⟩

theorem wakeOrders_mem {i : SlotId} (hset : (s.slot i).hushed = true) (hout : ∀ c ∈ members, c.1 ≠ i) :
    { slot := i, gen := (s.slot i).gen, hush := false, seq := none } ∈ s.wakeOrders members := by
  refine List.mem_map.mpr ⟨i, List.mem_filter.mpr ⟨mem_allSlots i, ?_⟩, rfl⟩
  rw [hset, Bool.true_and, Bool.not_eq_true', List.any_eq_false]
  exact fun c hc => by simpa using hout c hc

theorem setOrders_seq : ∀ w ∈ s.hushOrders members ++ s.wakeOrders members, w.seq = none := fun w hw => by
  rcases List.mem_append.mp hw with hw | hw <;> obtain ⟨_, -, rfl⟩ := List.mem_map.mp hw <;> rfl

theorem wakeOrders_hush : ∀ w ∈ s.wakeOrders members, w.hush = false := fun w hw => by
  obtain ⟨_, -, rfl⟩ := List.mem_map.mp hw
  rfl

theorem wakeOrders_seq : ∀ w ∈ s.wakeOrders members, w.seq = none := fun w hw =>
  setOrders_seq s members w (List.mem_append_right _ hw)

theorem wakeOrders_none (h : ∀ i, (s.slot i).hushed = false) : s.wakeOrders members = [] := by
  unfold State.wakeOrders
  rw [List.map_eq_nil_iff, List.filter_eq_nil_iff]
  exact fun i _ => by simp [h i]

theorem hushOrders_nil : s.hushOrders [] = [] := rfl

end

/-! ### The stages of a locate (R110, R111) -/

/-- The round starts still to be let pass as a stage begins: 4 where no order is waited for. -/
def settleOf (os : List WatchOrder) : Option Nat := if os = [] then some 4 else none

/-- A stage begun while LIT: the locate bears it, and its orders are offered. -/
theorem beginStage_spec {s : State} (hlit : s.tree.state = .lit) (cands : List (SlotId × Gen)) {stage : LocateStage}
    (hstage : stage ≠ .waitWakes) (members : List (SlotId × Gen)) :
    ({ s with watch := { s.watch with
        locate := some { cands := cands, stage := stage, settle := settleOf (s.hushOrders members ++ s.wakeOrders members) }
        orders := s.hushOrders members ++ s.wakeOrders members } } : State).WatchOffered
      (s.hushOrders members ++ s.wakeOrders members) (s.beginStage cands stage members) := by
  have hsettle : ∀ os : List WatchOrder, ({ s.watch with
        locate := some { cands := cands, stage := stage, settle := none }, orders := os } : Watch).settleCheck =
      { s.watch with locate := some { cands := cands, stage := stage, settle := settleOf os }, orders := os } := fun os => by
    unfold Watch.settleCheck settleOf
    dsimp only
    by_cases hos : os = []
    · rw [if_pos ⟨hstage, hos, rfl⟩, if_pos hos]
    · rw [if_neg fun h => hos h.2.1, if_neg hos]
  unfold State.beginStage
  dsimp only
  have hstate : (s.modWatch fun w => ({ w with
      locate := some { cands := cands, stage := stage, settle := none }
      orders := s.hushOrders members ++ s.wakeOrders members } : Watch).settleCheck) =
      { s with watch := { s.watch with
        locate := some { cands := cands, stage := stage, settle := settleOf (s.hushOrders members ++ s.wakeOrders members) }
        orders := s.hushOrders members ++ s.wakeOrders members } } := by
    rw [← hsettle]
    rfl
  rw [hstate]
  exact offerWatchOrders_offered hlit rfl (setOrders_seq s members)

/-- A search goes to the final check of a single candidate, else to the next step (R110, R111). -/
def searchStage (cands : List (SlotId × Gen)) : LocateStage :=
  if cands.length = 1 then .check1 else .step (cands.take ((cands.length + 1) / 2))

/-- The slots hushed in the stage that a search goes to. -/
def searchMembers (cands : List (SlotId × Gen)) : List (SlotId × Gen) :=
  if cands.length = 1 then cands else cands.take ((cands.length + 1) / 2)

theorem search_eq (s : State) (cands : List (SlotId × Gen)) :
    s.search cands = s.beginStage cands (searchStage cands) (searchMembers cands) := by
  unfold State.search searchStage searchMembers
  split
  · rfl
  · next h =>
    have hlength : cands.length ≠ 1 := fun hone => by
      obtain ⟨c, rfl⟩ := List.length_eq_one_iff.mp hone
      exact h c rfl
    rw [if_neg hlength, if_neg hlength]

theorem searchStage_ne (cands : List (SlotId × Gen)) : searchStage cands ≠ .waitWakes := by
  unfold searchStage
  split <;> nofun

end Sys2Proof.Machine
end

section
/-! PROOFS. The last window of a test (O24; R107 to R109, R111, R112, R114). -/

namespace Sys2Proof.Machine

-- One thread elaborates this section: the text as a whole is near the memory limit of the check.
set_option Elab.async false

/-! ### A change of the watch's state (R104) -/

section
variable (s : State) (new : WatchState)

theorem enterWatch_watch : (s.enterWatch new).watch = { s.watch with
    state := new, since := s.clock.round, retestHeld := false
    history := if s.watch.state.searching && !new.searching then [] else s.watch.history } := by
  unfold State.enterWatch
  dsimp only
  split
  · rw [(State.withdrawRoll_frame _).2.2.2.1]
    rfl
  · rfl

theorem enterWatch_port : (s.enterWatch new).tree.port = s.tree.port := by
  unfold State.enterWatch
  dsimp only
  split
  · exact ((State.OrdersOnly.refl _).withdrawRoll).port
  · rfl

end

/-! ### The test judged (R107) -/

/-- The part once a round's reception and the open test have ended. -/
def State.tested (s : State) (r : Issued) : State := (s.receptionEnded r).modWatch fun w => { w with test := none }

/-- The violated windows of a test that ends with a round's score. -/
def WindowTest.ended (w : WindowTest) (c : RoundScore) : Nat := w.violated + if 2 ≤ c.windowViolations then 1 else 0

theorem tested_kept (s : State) (r : Issued) :
    (s.tested r).watch = { s.watch with score := .empty, test := none } ∧ (s.tested r).tree.state = s.tree.state
      ∧ (s.tested r).tree.urgent = s.tree.urgent ∧ (s.tested r).home = s.home ∧ (s.tested r).link = s.link
      ∧ (s.tested r).clock = s.clock ∧ (s.tested r).config = s.config ∧ (s.tested r).roster = s.roster :=
  ⟨rfl, rfl, rfl, rfl, rfl, rfl, rfl, rfl⟩

section
variable {s : State} {r : Issued} {w : WindowTest} (hr : s.reception = some r) (htest : s.watch.test = some w)
    (hround : w.rounds.contains r.plan.round = true) (hlast : w.want = w.judged + 1)
include hr htest hround hlast

theorem execRoundReceptionEnd_tested (hsearching : s.watch.state.searching = true) :
    exec .roundReceptionEnd s = .next ((s.receptionEnded r).testOutcome (w.ended s.watch.score)) := by
  have hviolated : w.violated + (decide (2 ≤ s.watch.score.windowViolations)).toNat = w.ended s.watch.score := by
    unfold WindowTest.ended
    split
    · next h => rw [decide_eq_true h]; rfl
    · next h => rw [decide_eq_false h]; rfl
  rw [execRoundReceptionEnd_searching hr hsearching]
  unfold State.judgeWindow
  have htest' : (s.receptionEnded r).watch.test = some w := htest
  rw [htest']
  dsimp only
  rw [if_pos hround, if_pos hlast.le, hviolated]

theorem execRoundReceptionEnd_confirming (hstate : s.watch.state = .confirming) :
    exec .roundReceptionEnd s = .next ((s.tested r).confirmOutcome (w.ended s.watch.score)) := by
  rw [execRoundReceptionEnd_tested hr htest hround hlast (by rw [hstate]; rfl)]
  have hstate' : ((s.receptionEnded r).modWatch fun w => { w with test := none }).watch.state = .confirming := hstate
  unfold State.testOutcome
  dsimp only
  rw [hstate']
  rfl

theorem execRoundReceptionEnd_locating (hstate : s.watch.state = .locating) :
    exec .roundReceptionEnd s = .next ((s.tested r).locateOutcome (w.ended s.watch.score)) := by
  rw [execRoundReceptionEnd_tested hr htest hround hlast (by rw [hstate]; rfl)]
  have hstate' : ((s.receptionEnded r).modWatch fun w => { w with test := none }).watch.state = .locating := hstate
  unfold State.testOutcome
  dsimp only
  rw [hstate']
  rfl

theorem execRoundReceptionEnd_foreign (hstate : s.watch.state = .foreignLight) :
    exec .roundReceptionEnd s = .next ((s.tested r).retestOutcome (w.ended s.watch.score)) := by
  rw [execRoundReceptionEnd_tested hr htest hround hlast (by rw [hstate]; rfl)]
  have hstate' : ((s.receptionEnded r).modWatch fun w => { w with test := none }).watch.state = .foreignLight := hstate
  unfold State.testOutcome
  dsimp only
  rw [hstate']
  rfl

end

/-! ### Verdicts (R112) -/

section
variable {s : State}

theorem unlocated_spec (hlit : s.tree.state = .lit) (last : Option SlotId) :
    (s.unlocated last).watch.state = .foreignLight ∧ (s.unlocated last).watch.locate = none
      ∧ (s.unlocated last).watch.test = s.watch.test
      ∧ s.Raised (s.unlocated last) .foreignLight (be 1 ((last.map (·.val)).getD 255))
      ∧ (s.unlocated last).home = s.home
      ∧ ∀ j, (s.slot j).hushed = true → ∃ o ∈ (s.unlocated last).watch.orders,
        o.slot = j ∧ o.gen = (s.slot j).gen ∧ o.hush = false := by
  have hraised := raised_raise s .foreignLight (be 1 ((last.map (·.val)).getD 255))
  have hwakes : (s.raise .foreignLight (be 1 ((last.map (·.val)).getD 255))).wakeOrders [] = s.wakeOrders [] := rfl
  unfold State.unlocated
  dsimp only
  rw [hwakes]
  generalize hv : ((s.raise .foreignLight (be 1 ((last.map (·.val)).getD 255))).modWatch fun w =>
    { w with locate := none, orders := s.wakeOrders [] }).enterWatch .foreignLight = v
  have hwatch : v.watch = { s.watch with
      locate := none, orders := s.wakeOrders [], state := .foreignLight, since := s.clock.round, retestHeld := false } := by
    rw [← hv, enterWatch_watch]
    simp only [WatchState.searching, Bool.not_true, Bool.and_false, Bool.false_eq_true, if_false]
    rfl
  have hport : v.tree.port = s.tree.port := by
    rw [← hv, enterWatch_port]
    rfl
  have hhome : v.home = s.home := by
    rw [← hv, (State.enterWatch_frame ..).1]
    rfl
  have hlink : v.link = (s.raise .foreignLight (be 1 ((last.map (·.val)).getD 255))).link := by
    rw [← hv]
    simp
  have hoffered := offerWatchOrders_offered (s := v) (os := s.wakeOrders []) ((TreePort.state_of_port hport).trans hlit)
    (by rw [hwatch]) (wakeOrders_seq s [])
  refine ⟨?_, ?_, ?_, hraised.congr_right (by rw [← hlink]; simp), (hoffered.home (wakeOrders_hush s [])).trans hhome,
    fun j hj => hoffered.mem (wakeOrders_mem s [] hj nofun)⟩
  all_goals rw [hoffered.watch, hwatch]

theorem located_spec {i : SlotId} {x : Serial} (hserial : (s.slot i).serial = some x)
    (hstate : (s.slot i).state = .active ∨ (s.slot i).state = .lost) (hsearching : s.watch.state.searching = true) :
    let t := s.located (i, (s.slot i).gen)
    (t.slot i).state = .barred ∧ (t.slot i).barReason = some .stray ∧ t.watch.state = .clear ∧ t.watch.locate = none
      ∧ t.watch.history = [] ∧ s.Raised t .homeBarred (be 1 i.val ++ be 8 x.toNat ++ be 1 BarReason.stray.code)
      ∧ { serial := x, reason := .stray, time := s.clock.time } ∈ t.roster.bars := by
  unfold State.located
  dsimp only
  rw [enterWatch_quiet _ (by rfl : WatchState.clear.searching = false)]
  generalize hu : ((s.modWatch fun w => { w with locate := none, orders := [] }).modWatch fun w =>
    { w with
      state := .clear, since := (s.modWatch fun w => { w with locate := none, orders := [] }).clock.round
      retestHeld := false
      history := if w.state.searching then [] else w.history }).modSched (fun d => { d with watchReq := none }) = u
  have hslot : u.slot i = s.slot i := by rw [← hu]; rfl
  have hblocks : u.link = s.link ∧ u.clock = s.clock ∧ u.config = s.config ∧ u.watch.state = .clear
      ∧ u.watch.locate = none := by
    rw [← hu]
    exact ⟨rfl, rfl, rfl, rfl, rfl⟩
  have hhistory : u.watch.history = [] := by
    rw [← hu]
    exact if_pos hsearching
  obtain ⟨hlink, hclock, hconfig, hclear, hnone⟩ := hblocks
  have hwatch : (u.barSlot i .stray).watch = u.watch := by
    rw [barSlot_watch, dropMember_of_not_member (by simp [Watch.isMember, hnone])]
  have hraised := barSlot_raised u i .stray
  have hbars := barSlot_bars u i .stray
  rw [hslot, hserial] at hraised hbars
  rw [← hslot, barRequest_of_barrable u i .stray
    (hstate.elim (fun h => .inr (.inl (by rwa [hslot]))) fun h => .inr (.inr (.inl (by rwa [hslot])))), hwatch, barSlot_slot,
    if_pos rfl]
  rw [hclock] at hbars
  exact ⟨rfl, rfl, hclear, hnone, hhistory,
    hraised.of_congr hlink (by rw [hclock]) (by rw [hclock]) (by rw [hclock]) hconfig, hbars⟩

theorem intermittent_spec (hsearching : s.watch.state.searching = true) :
    s.intermittent.watch.state = .alert ∧ s.intermittent.watch.locate = none
      ∧ s.intermittent.watch.test = s.watch.test ∧ s.intermittent.watch.history = [] ∧ s.intermittent.link = s.link
      ∧ s.intermittent.home = s.home ∧ s.intermittent.roster = s.roster := by
  unfold State.intermittent
  rw [enterWatch_quiet _ (by rfl : WatchState.alert.searching = false)]
  exact ⟨rfl, rfl, rfl, if_pos hsearching, rfl, rfl, rfl⟩

end

/-! ### Into the search (R109) -/

/-- The candidates of a search: the slots in ACTIVE, LOST and ASSIGNING, each with its generation. -/
def State.suspects (s : State) : List (SlotId × Gen) :=
  (allSlots.filter fun i =>
    (s.slot i).state == .active || (s.slot i).state == .lost || (s.slot i).state == .assigning).map fun i => (i, (s.slot i).gen)

/-- A search begun: the watch LOCATING with its candidates, and the first stage where no wake-due flag is set. -/
theorem enterLocating_spec {s : State} (hlit : s.tree.state = .lit) :
    (s.suspects = [] → s.enterLocating = (s.enterWatch .locating).unlocated none)
      ∧ (s.suspects ≠ [] → s.enterLocating.link = s.link ∧ s.enterLocating.watch.state = .locating
        ∧ ∃ l, s.enterLocating.watch.locate = some l ∧ l.cands = s.suspects
          ∧ ((∃ i, (s.slot i).wakeDue = true) → l.stage = .waitWakes ∧ s.enterLocating.watch.orders = [])
          ∧ ((∀ i, (s.slot i).wakeDue = false) → l.stage = searchStage s.suspects)) := by
  have hsuspects : ((allSlots.filter fun i => match (s.slot i).state with
      | .active | .lost | .assigning => true
      | .free | .resuming | .barred | .closing => false).map fun i => (i, (s.slot i).gen)) = s.suspects := by
    unfold State.suspects
    congr 2
    funext i
    cases (s.slot i).state <;> rfl
  have henter : s.enterLocating = if s.suspects.isEmpty then (s.enterWatch .locating).unlocated none
      else ((s.enterWatch .locating).modWatch fun w =>
        { w with locate := some { cands := s.suspects, stage := .waitWakes, settle := none }, orders := [] }).startLocate := by
    rw [← hsuspects]
    rfl
  refine ⟨fun hnone => ?_, fun hsome => ?_⟩
  · rw [henter, hnone]
    rfl
  · rw [henter, if_neg (by simpa using hsome)]
    generalize hv : ((s.enterWatch .locating).modWatch fun w =>
      { w with locate := some { cands := s.suspects, stage := .waitWakes, settle := none }, orders := [] }) = v
    have hwatch : v.watch.state = .locating
        ∧ v.watch.locate = some { cands := s.suspects, stage := .waitWakes, settle := none } ∧ v.watch.orders = [] := by
      rw [← hv]
      refine ⟨?_, rfl, rfl⟩
      rw [State.modWatch_watch, enterWatch_watch]
    have hkept : v.home = s.home ∧ v.link = s.link ∧ v.tree.port = s.tree.port := by
      rw [← hv]
      refine ⟨?_, ?_, ?_⟩
      · simp
      · simp
      · rw [State.modWatch_tree, enterWatch_port]
    obtain ⟨hstate, hlocate, horders⟩ := hwatch
    obtain ⟨hhome, hlink, hport⟩ := hkept
    have hslot := slot_congr hhome
    have hwakes : v.anyWakeDue = true ↔ ∃ i, (s.slot i).wakeDue = true := by
      unfold State.anyWakeDue
      rw [List.any_eq_true]
      simp only [hslot]
      exact ⟨fun ⟨i, _, h⟩ => ⟨i, h⟩, fun ⟨i, h⟩ => ⟨i, mem_allSlots i, h⟩⟩
    refine ⟨by rw [← hlink]; simp, ?_⟩
    unfold State.startLocate
    rw [hlocate]
    dsimp only
    by_cases hdue : v.anyWakeDue = true
    · rw [if_neg fun h => by rw [hdue] at h; exact absurd h.2 nofun]
      obtain ⟨i, hi⟩ := hwakes.mp hdue
      exact ⟨hstate, _, hlocate, rfl, fun _ => ⟨rfl, horders⟩, fun hnone => absurd hi (by rw [hnone i]; exact nofun)⟩
    · rw [if_pos ⟨rfl, Bool.eq_false_iff.mpr hdue⟩, search_eq]
      have hoffered := beginStage_spec (s := v) ((TreePort.state_of_port hport).trans hlit) s.suspects
        (searchStage_ne s.suspects) (searchMembers s.suspects)
      rw [hoffered.watch]
      exact ⟨hstate, _, rfl, rfl, fun hset => absurd (hwakes.mpr hset) hdue, fun _ => rfl⟩

end Sys2Proof.Machine
end

section
/-! PROOFS. The end of a test by the watch's state (O24; R107 to R109, R111, R112, R114). -/

namespace Sys2Proof.Machine

-- One thread elaborates this section: the text as a whole is near the memory limit of the check.
set_option Elab.async false

/-- A raised alert's flag. -/
theorem State.Raised.flag_set {s t : State} {k : AlertKind} {details : List Byte} (h : s.Raised t k details)
    (hk : k.code < 14) : t.link.flags.getLsbD k.code = true := by
  rw [h.flag, BitVec.getLsbD_or, BitVec.getLsbD_ofNat]
  simp [hk]

theorem State.Raised.flag_kept {s t : State} {k : AlertKind} {details : List Byte} (h : s.Raised t k details) {b : Nat}
    (hb : s.link.flags.getLsbD b = true) : t.link.flags.getLsbD b = true := by
  rw [h.flag, BitVec.getLsbD_or, hb]
  rfl

section
variable {s : State} {violated : Nat}

theorem confirmOutcome_clear (h : violated < 3) : s.confirmOutcome violated = s.enterWatch .clear :=
  if_neg (Nat.not_le.mpr h)

theorem confirmOutcome_stray (h : 3 ≤ violated) :
    s.confirmOutcome violated = (s.raise .strayConfirmed (be 1 violated)).enterLocating := if_pos h

/-- CONFIRMING that ends with stray light: the alert, then the search or FOREIGN_LIGHT. -/
theorem confirmOutcome_spec (hlit : s.tree.state = .lit) (h : 3 ≤ violated) :
    (s.confirmOutcome violated).link.flags.getLsbD 2 = true
      ∧ (s.suspects ≠ [] → s.Raised (s.confirmOutcome violated) .strayConfirmed (be 1 violated))
      ∧ (s.suspects = [] → (s.confirmOutcome violated).watch.state = .foreignLight
        ∧ (s.confirmOutcome violated).watch.locate = none
        ∧ (s.confirmOutcome violated).link.flags.getLsbD 4 = true)
      ∧ (s.suspects ≠ [] → (s.confirmOutcome violated).watch.state = .locating
        ∧ ∃ l, (s.confirmOutcome violated).watch.locate = some l ∧ l.cands = s.suspects
          ∧ ((∃ i, (s.slot i).wakeDue = true) → l.stage = .waitWakes ∧ (s.confirmOutcome violated).watch.orders = [])
          ∧ ((∀ i, (s.slot i).wakeDue = false) → l.stage = searchStage s.suspects)) := by
  have hraised := raised_raise s .strayConfirmed (be 1 violated)
  rw [confirmOutcome_stray h]
  have hkept : (s.raise .strayConfirmed (be 1 violated)).suspects = s.suspects
      ∧ (∀ i, (s.raise .strayConfirmed (be 1 violated)).slot i = s.slot i)
      ∧ (s.raise .strayConfirmed (be 1 violated)).tree.state = .lit := ⟨rfl, fun _ => rfl, hlit⟩
  obtain ⟨hsame, hslot, hlit'⟩ := hkept
  generalize s.raise .strayConfirmed (be 1 violated) = u at *
  obtain ⟨hnone, hsome⟩ := enterLocating_spec hlit'
  rw [hsame] at hnone hsome
  simp only [hslot] at hsome
  have hconfirmed : u.link.flags.getLsbD 2 = true := hraised.flag_set (by decide)
  by_cases hsuspects : s.suspects = []
  · obtain ⟨hstate, hlocate, -, hforeign, -, -⟩ := unlocated_spec (s := u.enterWatch .locating)
      ((TreePort.state_of_port (enterWatch_port u .locating)).trans hlit') none
    rw [hnone hsuspects]
    have hbefore : (u.enterWatch .locating).link.flags.getLsbD 2 = true := by
      rw [(State.enterWatch_frame u .locating).2.2.2.2.2.1]
      exact hconfirmed
    exact ⟨hforeign.flag_kept hbefore, fun h => absurd hsuspects h,
      fun _ => ⟨hstate, hlocate, hforeign.flag_set (by decide)⟩, fun h => absurd hsuspects h⟩
  · obtain ⟨hlink, hstate, hlocate⟩ := hsome hsuspects
    exact ⟨by rw [hlink]; exact hconfirmed, fun _ => hraised.congr_right hlink, fun h => absurd h hsuspects,
      fun _ => ⟨hstate, hlocate⟩⟩

theorem retestOutcome_clear (hforeign : s.watch.state = .foreignLight) :
    (s.retestOutcome 0).watch.state = .clear ∧ (s.retestOutcome 0).watch.history = []
      ∧ s.Raised (s.retestOutcome 0) .lightClear [] ∧ (s.retestOutcome 0).home = s.home := by
  have houtcome : s.retestOutcome 0 = (s.enterWatch .clear).raise .lightClear [] := by
    unfold State.retestOutcome
    exact if_pos rfl
  rw [houtcome, enterWatch_quiet s (by rfl : WatchState.clear.searching = false)]
  refine ⟨rfl, if_pos (by rw [hforeign]; rfl), ?_, rfl⟩
  exact (raised_raise ((s.modWatch _).modSched _) _ _).of_congr rfl rfl rfl rfl rfl

theorem retestOutcome_violated (h : 0 < violated) :
    s.retestOutcome violated = { s with watch := { s.watch with since := s.clock.round } } := if_neg (Nat.ne_of_gt h)

variable {l : Locate} (hlocate : s.watch.locate = some l)
include hlocate

theorem locateOutcome_step {half : List (SlotId × Gen)} (hstage : l.stage = .step half) :
    s.locateOutcome violated = s.afterStep (stepResult l.cands half violated) := by
  unfold State.locateOutcome
  rw [hlocate]
  dsimp only
  rw [hstage]

theorem locateOutcome_check1 {c : SlotId × Gen} (hcands : l.cands = [c]) (hstage : l.stage = .check1) :
    s.locateOutcome violated = if violated = 0 then s.beginStage l.cands .check2 [] else s.unlocated (some c.1) := by
  unfold State.locateOutcome
  rw [hlocate]
  dsimp only
  rw [hstage, hcands]

theorem locateOutcome_check2 {c : SlotId × Gen} (hcands : l.cands = [c]) (hstage : l.stage = .check2) :
    s.locateOutcome violated = if violated = 0 then s.intermittent else s.located c := by
  unfold State.locateOutcome
  rw [hlocate]
  dsimp only
  rw [hstage, hcands]

end

/-- The first part of the final check clean: the second begins, with a WAKE for each hushed slot (R111). -/
theorem check2_begins {s : State} (hlit : s.tree.state = .lit) (cands : List (SlotId × Gen)) :
    let t := s.beginStage cands .check2 []
    t.watch.state = s.watch.state ∧ t.watch.test = s.watch.test
      ∧ (∃ m, t.watch.locate = some m ∧ m.cands = cands ∧ m.stage = .check2
        ∧ ((∀ j, (s.slot j).hushed = false) → t.watch.orders = [] ∧ m.settle = some 4))
      ∧ (∀ i, (s.slot i).hushed = true → ∃ o ∈ t.watch.orders, o.slot = i ∧ o.gen = (s.slot i).gen ∧ o.hush = false)
      ∧ t.link = s.link ∧ t.home = s.home := by
  dsimp only
  have hoffered := beginStage_spec hlit cands (stage := .check2) nofun []
  rw [hushOrders_nil, List.nil_append] at hoffered
  have hlink : (s.beginStage cands .check2 []).link = s.link := by simp
  generalize s.beginStage cands .check2 [] = t at hoffered hlink
  rw [hoffered.watch]
  refine ⟨rfl, rfl, ⟨_, rfl, rfl, rfl, fun hclear => ?_⟩, fun i hi => hoffered.mem (wakeOrders_mem s [] hi nofun), hlink,
    hoffered.home (wakeOrders_hush s [])⟩
  rw [wakeOrders_none s [] hclear] at hoffered ⊢
  exact ⟨hoffered.none, rfl⟩

/-- Settles O24: the last window of a test. -/
theorem windowTestEnds : Obligations.WindowTestEnds := by
  unfold Obligations.WindowTestEnds
  intro s r w hr htest hround hlast hstates violated
  have hlit : (s.tested r).tree.state = .lit := (lit_of_reception hr : s.tree.state = .lit)
  obtain ⟨kwatch, -, -, khome, klink, kclock, kconfig, kroster⟩ := tested_kept s r
  have hslot := slot_congr khome
  have hlocating := execRoundReceptionEnd_locating hr htest hround hlast
  have hsearching : s.watch.state = .locating → (s.tested r).watch.state.searching = true := fun h => by
    rw [kwatch]
    show s.watch.state.searching = true
    rw [h]
    rfl
  have hraised : ∀ {t : State} {k details}, (s.tested r).Raised t k details → s.Raised t k details := fun h =>
    h.of_congr klink (by rw [kclock]) (by rw [kclock]) (by rw [kclock]) kconfig
  have hlocate : ∀ {l}, s.watch.locate = some l → (s.tested r).watch.locate = some l := fun h => h
  have hsuspects : (s.tested r).suspects = s.suspects := rfl
  have hended : violated = w.ended s.watch.score := rfl
  clear_value violated
  subst hended
  generalize hv : w.ended s.watch.score = v
  rcases hstates with hstate | hstate | hstate
  · rw [execRoundReceptionEnd_confirming hr htest hround hlast hstate, hv]
    rw [hstate]
    refine ⟨_, rfl, fun _ hfew => ?_, fun _ hmany => ?_, nofun, nofun, nofun, nofun, nofun⟩
    · rw [confirmOutcome_clear hfew, enterWatch_watch]
      exact ⟨rfl, rfl, (State.enterWatch_frame ..).1.trans khome⟩
    · obtain ⟨hflag, hstray, hnone, hsome⟩ := confirmOutcome_spec hlit hmany
      rw [hsuspects] at hstray hnone hsome
      simp only [hslot] at hsome
      refine ⟨hflag, fun h => hraised (hstray h), hnone, fun h => ?_⟩
      obtain ⟨hl, l, hl', hcands, hwaits, hgoes⟩ := hsome h
      refine ⟨hl, l, hl', hcands, hwaits, fun hclear hone => ?_, fun hclear hmore => ?_⟩
      · rw [hgoes hclear]
        exact if_pos hone
      · rw [hgoes hclear]
        exact if_neg (by
          have : 2 ≤ s.suspects.length := hmore
          omega)
  · rw [hlocating hstate, hv, hstate]
    refine ⟨_, rfl, nofun, nofun, fun l i g _ hl hcands hstage => ⟨fun hclean => ?_, fun hviolated => ?_⟩,
      fun l i g _ hl hcands hstage hclean => ?_, fun l i x hserial _ hl hstage hcands hviolated hheld => ?_, nofun, nofun⟩
    · rw [locateOutcome_check1 (hlocate hl) hcands hstage, if_pos hclean]
      obtain ⟨hkept, hnotest, hm, hwakes, hlink, hhome⟩ := check2_begins hlit l.cands
      refine ⟨hkept.trans (by rw [kwatch]; exact hstate), hnotest, hm, hwakes i, hlink, hhome⟩
    · rw [locateOutcome_check1 (hlocate hl) hcands hstage, if_neg (Nat.ne_of_gt hviolated)]
      obtain ⟨hforeign, hnone, hnotest, halert, hhome, hwakes⟩ := unlocated_spec hlit (some i)
      exact ⟨hforeign, hnone, hnotest, hraised halert, hhome, hwakes⟩
    · rw [locateOutcome_check2 (hlocate hl) hcands hstage, if_pos hclean]
      exact intermittent_spec (hsearching hstate)
    · rw [locateOutcome_check2 (hlocate hl) hcands hstage, if_neg (Nat.ne_of_gt hviolated)]
      obtain ⟨hbarred, hreason, hclear, hnone, hhistory, halert, hbars⟩ :=
        located_spec (s := s.tested r) hserial hheld (hsearching hstate)
      exact ⟨hbarred, hreason, hclear, hnone, hhistory, hraised halert, hbars⟩
  · rw [execRoundReceptionEnd_foreign hr htest hround hlast hstate, hv, hstate]
    refine ⟨_, rfl, nofun, nofun, nofun, nofun, nofun, fun _ hclean => ?_, fun _ hviolated => ?_⟩
    · rw [hclean]
      obtain ⟨hclear, hhistory, halert, hhome⟩ := retestOutcome_clear (s := s.tested r) (by rw [kwatch]; exact hstate)
      exact ⟨hclear, hhistory, hraised halert, hhome⟩
    · rw [retestOutcome_violated hviolated]
      exact ⟨by rw [kwatch]; exact hstate, rfl, rfl, rfl, rfl⟩

end Sys2Proof.Machine
end

section
/-! PROOFS. The steps of a locate and the periods of the watch (O25; R105, R110, R114, R115). -/

namespace Sys2Proof.Machine

-- One thread elaborates this section: the text as a whole is near the memory limit of the check.
set_option Elab.async false

/-! ### What the orders of the watch keep of it -/

/-- The watch's state, whether a retest is held, and the count of its test: what its orders do not write. -/
def Watch.standing (w : Watch) : WatchState × Bool × Option (Nat × Nat × Nat) :=
  (w.state, w.retestHeld, w.test.map fun t => (t.want, t.judged, t.violated))

namespace Watch

variable (w : Watch) (i : SlotId)

theorem settleCheck_standing : w.settleCheck.standing = w.standing := by
  unfold settleCheck
  split
  · rfl
  · split <;> rfl

theorem dropMember_standing : (w.dropMember i).standing = w.standing := by
  unfold dropMember
  split
  · rfl
  · exact settleCheck_standing _

theorem window_standing (n : Round) : (w.window n).standing = w.standing := by
  unfold window standing
  cases w.test with
  | none => rfl
  | some t =>
    dsimp only [Option.map_some]
    split <;> rfl

end Watch

/-- What leaves the watch's state, held retest and test count. -/
structure State.WatchStands (s t : State) : Prop where
  stands : t.watch.standing = s.watch.standing

namespace State.WatchStands

theorem refl (s : State) : s.WatchStands s := ⟨rfl⟩

section
variable {s t : State} (h : s.WatchStands t)
include h

theorem trans {u : State} (k : t.WatchStands u) : s.WatchStands u := ⟨k.stands.trans h.stands⟩

theorem of_watch {u : State} (hwatch : u.watch = t.watch := by simp) : s.WatchStands u :=
  ⟨(congrArg Watch.standing hwatch).trans h.stands⟩

theorem modWatch {f : Watch → Watch} (hf : ∀ w, (f w).standing = w.standing := by intro; rfl) :
    s.WatchStands (t.modWatch f) := ⟨(hf _).trans h.stands⟩

theorem foldl {α : Type} {f : State → α → State} (hf : ∀ (u : State) a, u.WatchStands (f u a)) (l : List α) :
    s.WatchStands (l.foldl f t) := by
  induction l generalizing t with
  | nil => exact h
  | cons a l ih => exact ih (h.trans (hf t a))

theorem forSlots (p : SlotId → Bool) {f : State → SlotId → State} (hf : ∀ (u : State) i, u.WatchStands (f u i)) :
    s.WatchStands (t.forSlots p f) := h.foldl hf _

theorem watchReport (i : SlotId) (seq : BitVec 8) (o : OrderOutcome) : s.WatchStands (t.watchReport i seq o) := by
  have hdone : ∀ (u : State) w, s.WatchStands u →
      s.WatchStands (u.modWatch fun v => ({ v with orders := v.orders.erase w }).settleCheck) := fun u w hu =>
    hu.modWatch fun _ => Watch.settleCheck_standing _
  have hdrop : s.WatchStands (t.dropMember i) := by
    unfold State.dropMember
    split
    · exact (h.of_watch (u := t.modSlot i fun r => { r with hushed := false }) rfl).modWatch fun w => w.dropMember_standing i
    · exact h
  unfold State.watchReport
  dsimp only
  split
  · exact h
  · split
    · exact hdone t _ h
    · exact hdone _ _ hdrop
    · exact hdone _ _ (h.of_watch rfl)
    · exact hdone _ _ (h.of_watch rfl)
    all_goals exact h

theorem report (e : OrderEntry) (o : OrderOutcome) : s.WatchStands (t.report e o) := by
  unfold State.report
  split
  · split
    · exact h.of_watch
    · exact h
  · exact h.of_watch
  · exact h.watchReport ..
  · exact h.watchReport ..
  · exact h.of_watch
  · exact h.of_watch
  all_goals exact h

theorem sendOrder (n : Round) (e : OrderEntry) : s.WatchStands (t.sendOrder n e) := by
  unfold State.sendOrder
  dsimp only
  split
  · exact h.of_watch
  · split <;> exact h.of_watch
  · split <;> exact h.of_watch
  · exact h.of_watch
  all_goals
    split
    · exact (h.of_watch (u := t.modTree (·.erase e)) rfl).report ..
    · exact h.of_watch

theorem fillSlots (n : Round) (es : List OrderEntry) (room : Nat) : s.WatchStands (State.fillSlots n es room t).1 := by
  induction es generalizing room t with
  | nil => exact h
  | cons e es ih =>
    cases room with
    | zero => exact h
    | succ room =>
      unfold State.fillSlots
      split
      · exact ih (h.sendOrder n e) _
      · exact ih ((h.of_watch (u := t.modTree (·.erase e)) rfl).report e .dropped) _

theorem offerWatchOrder (w : WatchOrder) : s.WatchStands (t.offerWatchOrder w) := by
  unfold State.offerWatchOrder
  dsimp only
  split
  · exact h
  · split
    · split <;> exact ⟨h.stands⟩
    · exact h.of_watch
    · exact h.of_watch
    · split <;> exact ⟨(Watch.settleCheck_standing _).trans h.stands⟩

theorem offerWatchOrders : s.WatchStands t.offerWatchOrders := h.foldl (fun u w => (refl u).offerWatchOrder w) _

theorem offerOwed (i : SlotId) : s.WatchStands (t.offerOwed i) := h.of_watch
theorem offerRoll : s.WatchStands t.offerRoll := h.of_watch
theorem offerEnrolment (i : SlotId) : s.WatchStands (t.offerEnrolment i) := h.of_watch
theorem offerWakeDue (i : SlotId) : s.WatchStands (t.offerWakeDue i) := h.of_watch
theorem offerRoster : s.WatchStands t.offerRoster := h.of_watch
theorem offerWaitingBeacon : s.WatchStands t.offerWaitingBeacon := h.of_watch

theorem roundOffers : s.WatchStands t.roundOffers := by
  unfold State.roundOffers
  exact ((((((h.forSlots _ fun u i => (refl u).offerOwed i).offerRoll).forSlots _ fun u i =>
    (refl u).offerEnrolment i).offerWatchOrders).forSlots _ fun u i => (refl u).offerWakeDue i).offerRoster).offerWaitingBeacon

theorem startLocate : s.WatchStands t.startLocate := by
  have hbegin : ∀ cands stage members, s.WatchStands (t.beginStage cands stage members) := fun cands stage members =>
    State.WatchStands.offerWatchOrders ⟨(Watch.settleCheck_standing _).trans h.stands⟩
  unfold State.startLocate
  split
  · split
    · rw [search_eq]
      exact hbegin ..
    · exact h
  · exact h

theorem composeRound (n : Round) : s.WatchStands (t.composeRound n) := by
  have hout : s.WatchStands (t.ordersOut n) := by
    unfold State.ordersOut
    have hend : s.WatchStands t.endTransmission := h.of_watch
    have hfilled := hend.fillSlots n (t.endTransmission.tree.candidates n) 4
    exact hfilled.of_watch ((State.passBindings_frame ..).2.2.1.trans rfl)
  rw [composeRound_eq]
  exact hout.of_watch

theorem buildPlan (n : Round) : s.WatchStands (t.buildPlan n) := by
  have hreserve : s.WatchStands (t.reserveWindow n (t.sched.promised n)).1 := by
    unfold State.reserveWindow
    split
    · exact h
    · split
      · exact ⟨(Watch.window_standing _ n).trans h.stands⟩
      · exact h
  unfold State.buildPlan
  split
  · dsimp only
    exact hreserve.of_watch
  · exact h

theorem composed : s.WatchStands t.composed := by
  unfold State.composed
  split
  · exact (h.composeRound _).buildPlan _
  · exact h

end

end State.WatchStands

/-- Neither the round of a boundary nor its offers change what stands of the watch. -/
theorem roundBoundary_watch (s : State) (offersFirst : Bool) (upsets : List TallyUpset) :
    ∃ t, exec (.roundBoundary offersFirst upsets) s = .next t ∧ (s.begun upsets).WatchStands t := by
  have hrefl := State.WatchStands.refl (s.begun upsets)
  cases offersFirst
  · exact ⟨_, execRoundBoundary_offersLast s upsets, ((hrefl.composed.roundOffers).of_watch (by simp)).startLocate⟩
  · exact ⟨_, execRoundBoundary_offersFirst s upsets, ((hrefl.roundOffers.composed).of_watch (by simp)).startLocate⟩

end Sys2Proof.Machine
end

section
/-! PROOFS. The steps of a locate and the periods of the watch (O25; R105, R110, R114, R115). -/

namespace Sys2Proof.Machine

-- One thread elaborates this section: the text as a whole is near the memory limit of the check.
set_option Elab.async false

/-! ### A step's result (R110) -/

theorem afterStep_none (s : State) : s.afterStep [] = s.unlocated none := rfl

theorem afterStep_some {s : State} {cands : List (SlotId × Gen)} (h : cands ≠ []) :
    s.afterStep cands = s.beginStage cands (searchStage cands) (searchMembers cands) := by
  unfold State.afterStep
  rw [if_neg (by simpa using h), search_eq]

theorem searchStage_eq (cands : List (SlotId × Gen)) :
    searchStage cands = if cands.length = 1 then .check1 else .step (searchMembers cands) := by
  unfold searchStage searchMembers
  by_cases h : cands.length = 1
  · rw [if_pos h, if_pos h]
  · rw [if_neg h, if_neg h, if_neg h]

theorem stepResult_eq (cands half : List (SlotId × Gen)) (violated : Nat) :
    stepResult cands half violated = if violated = 0 then half else cands.filter fun c => !half.contains c := by
  unfold stepResult
  by_cases h : violated = 0
  · rw [if_pos h, if_neg (by omega)]
  · rw [if_neg h, if_pos (by omega)]

/-! ### Held retests (R114) -/

theorem anyHushed_iff (s : State) : s.anyHushed = true ↔ ∃ i, (s.slot i).hushed = true := by
  unfold State.anyHushed
  rw [List.any_eq_true]
  exact ⟨fun ⟨i, _, h⟩ => ⟨i, h⟩, fun ⟨i, h⟩ => ⟨i, mem_allSlots i, h⟩⟩

theorem anyHushed_eq_false {s : State} (h : ∀ i, (s.slot i).hushed = false) : s.anyHushed = false := by
  rw [Bool.eq_false_iff, Ne, anyHushed_iff]
  rintro ⟨i, hi⟩
  rw [h i] at hi
  exact absurd hi Bool.false_ne_true

/-- A held retest at the counts of a boundary: begun where no slot is hushed. -/
theorem begun_retest (s : State) (upsets : List TallyUpset) (hheld : s.watch.retestHeld = true) :
    (s.begun upsets).watch.state = s.watch.state
      ∧ (s.anyHushed = true → (s.begun upsets).watch.retestHeld = true)
      ∧ (s.anyHushed = false → (s.begun upsets).watch.retestHeld = false
        ∧ (s.begun upsets).watch.test = some { want := 4, rounds := [], judged := 0, violated := 0 }) := by
  have hwatch : ((s.countRound.advanceTime).applyUpsets upsets).watch = s.watch.countSettle := by
    simp [State.countRound]
  have hhome : ((s.countRound.advanceTime).applyUpsets upsets).home = s.home := by
    simp [State.countRound]
  have hany : ((s.countRound.advanceTime).applyUpsets upsets).anyHushed = s.anyHushed := by
    unfold State.anyHushed
    simp only [slot_congr hhome]
  unfold State.begun
  generalize (s.countRound.advanceTime).applyUpsets upsets = u at *
  have hheld' : u.watch.retestHeld = true := by
    rw [hwatch]
    exact hheld
  unfold State.beginHeldRetest
  cases hhushed : s.anyHushed
  · rw [if_pos ⟨hheld', hany.trans hhushed⟩]
    refine ⟨?_, nofun, fun _ => ⟨rfl, rfl⟩⟩
    show u.watch.state = s.watch.state
    rw [hwatch]
    rfl
  · have hnot : ¬ (u.watch.retestHeld = true ∧ u.anyHushed = false) := fun h => by
      rw [hany, hhushed] at h
      exact absurd h.2 nofun
    rw [if_neg hnot]
    exact ⟨by rw [hwatch]; rfl, fun _ => hheld', nofun⟩

/-- A watch that stands as another has its state, its held retest, and a test of its count. -/
theorem test_of_standing {v w : Watch} (h : w.standing = v.standing) {n : Nat}
    (htest : v.test = some { want := n, rounds := [], judged := 0, violated := 0 }) :
    ∃ t, w.test = some t ∧ t.want = n ∧ t.judged = 0 ∧ t.violated = 0 := by
  have hcount : w.test.map (fun t => (t.want, t.judged, t.violated)) = some (n, 0, 0) := by
    have := congrArg (fun x => x.2.2) h
    simpa [Watch.standing, htest] using this
  obtain ⟨t, ht, hkept⟩ := Option.map_eq_some_iff.mp hcount
  obtain ⟨hwant, hrest⟩ := Prod.mk.inj hkept
  obtain ⟨hjudged, hviolated⟩ := Prod.mk.inj hrest
  exact ⟨t, ht, hwant, hjudged, hviolated⟩

/-! ### The periods (R105, R114) -/

section
variable {s : State}

theorem execAlertExpiry_due (hstate : s.watch.state = .alert) (hdue : 240000 ≤ (s.clock.round - s.watch.since).toNat) :
    exec .alertExpiry s = .next { s with
      watch := { s.watch with state := .clear, since := s.clock.round, retestHeld := false }
      sched := { s.sched with watchReq := none } } := by
  show execAlertExpiry s = _
  unfold execAlertExpiry
  have hboth : s.watch.state = .alert ∧ Config.minuteRounds ≤ since s.now s.watch.since := ⟨hstate, hdue⟩
  rw [if_pos hboth, enterWatch_quiet s (by rfl : WatchState.clear.searching = false)]
  have hhistory : (if s.watch.state.searching = true then [] else s.watch.history) = s.watch.history := by
    rw [hstate]
    rfl
  unfold State.modWatch State.modSched
  dsimp only
  rw [hhistory]

theorem execAlertExpiry_early (h : s.watch.state ≠ .alert ∨ (s.clock.round - s.watch.since).toNat < 240000) :
    exec .alertExpiry s = .next s := by
  show execAlertExpiry s = _
  unfold execAlertExpiry
  have hnot : ¬ (s.watch.state = .alert ∧ Config.minuteRounds ≤ since s.now s.watch.since) := fun hboth =>
    h.elim (· hboth.1) fun hearly => absurd hboth.2 (Nat.not_le.mpr hearly)
  rw [if_neg hnot]

theorem execForeignLightRetest_due (hstate : s.watch.state = .foreignLight) (htest : s.watch.test = none)
    (hheld : s.watch.retestHeld = false) (hdue : 120000 ≤ (s.clock.round - s.watch.since).toNat) :
    exec .foreignLightRetest s =
      .next (if s.anyHushed then s.modWatch fun w => { w with retestHeld := true } else s.openTest 4) := by
  show execForeignLightRetest s = _
  unfold execForeignLightRetest
  have hall : s.watch.state = .foreignLight ∧ s.watch.test = none ∧ s.watch.retestHeld = false
      ∧ Config.retestRounds ≤ since s.now s.watch.since := ⟨hstate, htest, hheld, hdue⟩
  rw [if_pos hall]

theorem execForeignLightRetest_early (h : s.watch.state ≠ .foreignLight
    ∨ (s.clock.round - s.watch.since).toNat < 120000 ∨ s.watch.retestHeld = true) :
    exec .foreignLightRetest s = .next s := by
  show execForeignLightRetest s = _
  unfold execForeignLightRetest
  have hnot : ¬ (s.watch.state = .foreignLight ∧ s.watch.test = none ∧ s.watch.retestHeld = false
      ∧ Config.retestRounds ≤ since s.now s.watch.since) := by
    rintro ⟨hstate, -, hfree, hdue⟩
    rcases h with h | h | h
    · exact h hstate
    · exact absurd hdue (Nat.not_le.mpr h)
    · rw [hfree] at h
      exact absurd h Bool.false_ne_true
  rw [if_neg hnot]

theorem execLocateOrdersSettled_open {l : Locate} (hlocate : s.watch.locate = some l) (hsettled : l.settle = some 0)
    (htest : s.watch.test = none) : exec .locateOrdersSettled s = .next (s.openTest 2) := by
  show execLocateOrdersSettled s = _
  unfold execLocateOrdersSettled
  rw [hlocate]
  dsimp only
  rw [if_pos ⟨hsettled, htest⟩]

end

/-- Settles O25: the steps of a locate, and the periods of ALERT and FOREIGN_LIGHT. -/
theorem locateStepsAndWatchPeriods : Obligations.LocateStepsAndWatchPeriods := by
  unfold Obligations.LocateStepsAndWatchPeriods
  refine ⟨⟨fun s l hlocate hsettled htest => execLocateOrdersSettled_open hlocate hsettled htest,
    ?_⟩, fun s =>
    ⟨execAlertExpiry_due, execAlertExpiry_early, fun hstate htest hheld hdue => ⟨fun hclear => ?_, fun hset => ?_⟩,
      execForeignLightRetest_early, fun offersFirst upsets hheld => ?_⟩⟩
  · intro s r w l half hr hstate htest hround hlast hlocate hstage violated left next
    have hlit : (s.tested r).tree.state = .lit := (lit_of_reception hr : s.tree.state = .lit)
    obtain ⟨kwatch, -, -, khome, -, -, -, -⟩ := tested_kept s r
    have hslot := slot_congr khome
    have hleft : stepResult l.cands half (w.ended s.watch.score) = left := stepResult_eq ..
    have hnext : searchMembers left = next := rfl
    rw [execRoundReceptionEnd_locating hr htest hround hlast hstate,
      locateOutcome_step (s := s.tested r) hlocate hstage, hleft]
    clear_value left
    refine ⟨_, rfl, fun hnone => ?_, fun hsome => ?_⟩
    · subst hnone
      rw [afterStep_none]
      obtain ⟨hforeign, hnolocate, -⟩ := unlocated_spec hlit none
      exact ⟨hforeign, hnolocate⟩
    · rw [afterStep_some hsome, hnext]
      have hoffered := beginStage_spec hlit left (searchStage_ne left) next
      have hhushes := fun c hc hclear => hushOrders_mem (s.tested r) (c := c) next hc hclear
      have hwakes := fun i hset hout => wakeOrders_mem (s.tested r) (i := i) next hset hout
      generalize (s.tested r).beginStage left (searchStage left) next = t at *
      refine ⟨?_, ⟨_, by rw [hoffered.watch], rfl, searchStage_eq left⟩, fun c hc hclear => ?_, fun i hset hout => ?_, hoffered.accepted,
        hoffered.hushed⟩
      · rw [hoffered.watch]
        exact hstate
      · exact hoffered.mem (List.mem_append_left _ (hhushes c hc hclear))
      · exact hoffered.mem (List.mem_append_right _ (hwakes i hset hout))
  · rw [execForeignLightRetest_due hstate htest hheld hdue, anyHushed_eq_false hclear]
    rfl
  · rw [execForeignLightRetest_due hstate htest hheld hdue, (anyHushed_iff s).mpr hset]
    rfl
  · obtain ⟨t, hexec, hstands⟩ := roundBoundary_watch s offersFirst upsets
    obtain ⟨hstate, hset, hclear⟩ := begun_retest s upsets hheld
    have hwatch := hstands.stands
    have hretest : t.watch.retestHeld = (s.begun upsets).watch.retestHeld := congrArg (fun x => x.2.1) hwatch
    refine ⟨t, hexec, (congrArg (fun x => x.1) hwatch).trans hstate, fun hhushed => ?_, fun hnone => ?_⟩
    · rw [hretest]
      exact hset ((anyHushed_iff s).mpr hhushed)
    · obtain ⟨hfree, htest⟩ := hclear (anyHushed_eq_false hnone)
      exact ⟨hretest.trans hfree, test_of_standing hwatch htest⟩

end Sys2Proof.Machine
end

section
/-! PROOFS. The meter contexts: tallies read, credited and folded, and what stays of the meter (R120 to R124). -/

namespace Sys2Proof.Machine

-- One thread elaborates this section: the text as a whole is near the memory limit of the check.
set_option Elab.async false

/-! ### Operations on one context -/

/-- What an operation on the context of slot `i` keeps: the queue and counters of the meter, and every other context. -/
structure State.OnContext (i : SlotId) (s t : State) : Prop where
  meter : t.meter = { s.meter with ctx := t.meter.ctx, spill := t.meter.spill }
  ctx : ∀ j, j ≠ i → t.ctx j = s.ctx j
  spill : ∀ j, j ≠ i → t.spill j = s.spill j

namespace State.OnContext

variable {i : SlotId} {s t : State}

theorem refl (i : SlotId) (s : State) : s.OnContext i s := ⟨rfl, fun _ _ => rfl, fun _ _ => rfl⟩

section
variable (h : s.OnContext i t)
include h

theorem trans {u : State} (k : t.OnContext i u) : s.OnContext i u :=
  ⟨k.meter.trans (by rw [h.meter]), fun j hj => (k.ctx j hj).trans (h.ctx j hj),
    fun j hj => (k.spill j hj).trans (h.spill j hj)⟩

theorem of_meter {u : State} (hmeter : u.meter = t.meter := by simp) : s.OnContext i u :=
  h.trans ⟨by rw [hmeter], fun j _ => congrArg (fun m : Meter => m.ctx.get j) hmeter,
    fun j _ => congrArg (fun m : Meter => m.spill.get j) hmeter⟩

theorem modCtx (f : Context → Context) : s.OnContext i (t.modCtx i f) :=
  h.trans ⟨rfl, fun j hj => by rw [State.modCtx_ctx, if_neg hj], fun _ _ => rfl⟩

theorem modMarks (f : Marks → Marks) : s.OnContext i (t.modMarks i f) := h.modCtx _

theorem modTally (b : Band) (f : Tally → Tally) : s.OnContext i (t.modTally i b f) := h.modCtx _

theorem setOver (v : ByteCounts) : s.OnContext i (t.setOver i v) :=
  h.trans ⟨rfl, fun _ _ => rfl, fun _ hj => (Sys2Proof.Machine.setOver_spill ..).trans (if_neg hj)⟩

theorem checkTally (b : Band) : s.OnContext i (t.checkTally i b) := by
  unfold State.checkTally
  split
  · exact h
  · exact (h.modTally b _).modMarks _
  · exact (h.modTally b fun t => { t with counts := .zero, carries := .zero, damaged := true, upset := none }).of_meter rfl

theorem checkTallies : s.OnContext i (t.checkTallies i) := by
  unfold State.checkTallies
  generalize allBands = bs
  induction bs generalizing t with
  | nil => exact h
  | cons b bs ih => exact ih (h.checkTally b)

theorem credit (b : Band) (c : ByteCounts) : s.OnContext i (t.credit i b c) := by
  unfold State.credit
  exact ((h.checkTally b).modTally b _).modMarks _

theorem fold : s.OnContext i (t.fold i) := by
  unfold State.fold
  split
  · exact h
  · exact (h.credit ..).setOver _

theorem ensureOpen : s.OnContext i (t.ensureOpen i) := by
  unfold State.ensureOpen State.openContext
  split
  · exact h.modCtx _
  · exact h

theorem appendRecord (r : UsageRecord) : s.OnContext i (t.appendRecord r) := h.of_meter

theorem closeWithRecord (reason : CloseReason) : s.OnContext i (t.closeWithRecord i reason) :=
  State.OnContext.appendRecord (h.modCtx _) _

theorem owe (st : CtxState) : s.OnContext i (t.owe i st) := (h.modCtx _).modMarks _

end

end State.OnContext

/-! ### Tallies read (R123) -/

/-- A tally as a read leaves it. -/
def Tally.checked (t : Tally) : Tally :=
  match t.upset with
  | none => t
  | some .single => { t with upset := none }
  | some .double => { counts := .zero, carries := .zero, damaged := true, upset := none }

theorem checked_of_none {t : Tally} (h : t.upset = none) : t.checked = t := by
  unfold Tally.checked
  rw [h]

theorem checked_of_single {t : Tally} (h : t.upset = some .single) : t.checked = { t with upset := none } := by
  unfold Tally.checked
  rw [h]

theorem checked_of_double {t : Tally} (h : t.upset = some .double) :
    t.checked = { counts := .zero, carries := .zero, damaged := true, upset := none } := by
  unfold Tally.checked
  rw [h]

section
variable (s : State) (i j : SlotId) (b : Band)

theorem checkTally_of_none {s : State} {i : SlotId} {b : Band} (h : (s.tally i b).upset = none) : s.checkTally i b = s := by
  unfold State.checkTally
  rw [h]

theorem checkTally_of_single {s : State} {i : SlotId} {b : Band} (h : (s.tally i b).upset = some .single) :
    s.checkTally i b = (s.modTally i b fun t => { t with upset := none }).modMarks i fun m => { m with repaired := true } := by
  unfold State.checkTally
  rw [h]

theorem checkTally_of_double {s : State} {i : SlotId} {b : Band} (h : (s.tally i b).upset = some .double) :
    s.checkTally i b =
      (s.modTally i b fun t => { t with counts := .zero, carries := .zero, damaged := true, upset := none }).raise
        .tallyDamaged (be 1 i.val ++ [(s.slot i).gen] ++ be 1 b.val) := by
  unfold State.checkTally
  rw [h]

theorem raise_tally (k : AlertKind) (details : List Byte) : (s.raise k details).tally j b = s.tally j b := rfl

theorem raise_ctx (k : AlertKind) (details : List Byte) : (s.raise k details).ctx j = s.ctx j := rfl

theorem modTally_state (f : Tally → Tally) : ((s.modTally i b f).ctx j).state = (s.ctx j).state := by
  rw [modTally_ctx]
  split <;> rfl

theorem modTally_marks (f : Tally → Tally) : ((s.modTally i b f).ctx j).marks = (s.ctx j).marks := by
  rw [modTally_ctx]
  split <;> rfl

theorem checkTally_tally (c : Band) :
    (s.checkTally i b).tally j c = if j = i ∧ c = b then (s.tally j c).checked else s.tally j c := by
  have hhere : j = i ∧ c = b → s.tally j c = s.tally i b := fun ⟨hj, hc⟩ => by rw [hj, hc]
  rcases hupset : (s.tally i b).upset with _ | _ | _
  · rw [checkTally_of_none hupset]
    split
    · next h => rw [hhere h, checked_of_none hupset]
    · rfl
  · rw [checkTally_of_single hupset, modMarks_tally, modTally_tally]
    split
    · next h => rw [hhere h, checked_of_single hupset]
    · rfl
  · rw [checkTally_of_double hupset, raise_tally, modTally_tally]
    split
    · next h => rw [hhere h, checked_of_double hupset]
    · rfl

theorem checkTally_state : ((s.checkTally i b).ctx j).state = (s.ctx j).state := by
  rcases hupset : (s.tally i b).upset with _ | _ | _
  · rw [checkTally_of_none hupset]
  · rw [checkTally_of_single hupset, modMarks_state, modTally_state]
  · rw [checkTally_of_double hupset, raise_ctx, modTally_state]

/-- A read never clears the repaired mark, and sets it for a single error. -/
theorem checkTally_repaired :
    (((s.checkTally i b).ctx i).marks.repaired = true ↔
      (s.ctx i).marks.repaired = true ∨ (s.tally i b).upset = some .single) := by
  rcases hupset : (s.tally i b).upset with _ | _ | _
  · rw [checkTally_of_none hupset]
    simp
  · rw [checkTally_of_single hupset, modMarks_ctx, if_pos rfl]
    simp
  · rw [checkTally_of_double hupset]
    rw [raise_ctx, modTally_marks]
    simp

/-- A read never clears the flag of TALLY_DAMAGED, and sets it for a double error. -/
theorem checkTally_damaged (h : s.link.flags.getLsbD 11 = true ∨ (s.tally i b).upset = some .double) :
    (s.checkTally i b).link.flags.getLsbD 11 = true := by
  have hraised : ∀ (u : State) d, (u.raise .tallyDamaged d).link.flags.getLsbD 11 = true := fun u d =>
    (raised_raise u .tallyDamaged d).flag_set (by decide)
  rcases hupset : (s.tally i b).upset with _ | _ | _
  · rw [checkTally_of_none hupset]
    exact h.resolve_right (by rw [hupset]; exact nofun)
  · rw [checkTally_of_single hupset]
    exact h.resolve_right (by rw [hupset]; exact nofun)
  · rw [checkTally_of_double hupset]
    exact hraised ..

/-- Reads of several bands of a slot, each once. -/
theorem foldl_checkTally_tally (bs : List Band) (hnodup : bs.Nodup) (c : Band) :
    (bs.foldl (fun s b => s.checkTally i b) s).tally j c =
      if j = i ∧ c ∈ bs then (s.tally j c).checked else s.tally j c := by
  induction bs generalizing s with
  | nil => exact (if_neg fun h => List.not_mem_nil h.2).symm
  | cons b bs ih =>
    obtain ⟨hb, hnodup⟩ := List.nodup_cons.mp hnodup
    rw [List.foldl_cons, ih (s.checkTally i b) hnodup, checkTally_tally]
    by_cases hj : j = i
    · by_cases hc : c = b
      · subst hc
        rw [if_neg fun h => hb h.2, if_pos ⟨hj, rfl⟩, if_pos ⟨hj, List.mem_cons_self ..⟩]
      · rw [if_neg (fun h => hc h.2 : ¬ (j = i ∧ c = b))]
        simp [hj, hc]
    · simp [hj]

theorem mem_allBands (b : Band) : b ∈ allBands := by
  revert b
  decide

theorem checkTallies_tally (c : Band) :
    (s.checkTallies i).tally j c = if j = i then (s.tally j c).checked else s.tally j c := by
  unfold State.checkTallies
  rw [foldl_checkTally_tally s i j allBands (by decide) c]
  simp [mem_allBands]

theorem checkTallies_state : ((s.checkTallies i).ctx j).state = (s.ctx j).state := by
  unfold State.checkTallies
  exact foldl_keeps (fun u : State => (u.ctx j).state) (fun s b => s.checkTally i b) (fun u b => checkTally_state u i j b) _ s

/-- A slot whose tallies hold no error. -/
def State.Sound (s : State) (i : SlotId) : Prop := ∀ b, (s.tally i b).upset = none

theorem checkTallies_of_sound {s : State} {i : SlotId} (h : s.Sound i) : s.checkTallies i = s := by
  have hall : ∀ bs : List Band, bs.foldl (fun s b => s.checkTally i b) s = s := fun bs => by
    induction bs with
    | nil => rfl
    | cons b bs ih => rw [List.foldl_cons, checkTally_of_none (h b), ih]
  exact hall allBands

theorem checkTallies_sound : (s.checkTallies i).Sound i := fun b => by
  rw [checkTallies_tally, if_pos rfl]
  unfold Tally.checked
  split
  · assumption
  · rfl
  · rfl

theorem foldl_checkTally_reaches {P : State → Prop} {Q : Tally → Prop} {i : SlotId} (c : Band)
    (hstay : ∀ u b, P u → P (u.checkTally i b)) (hturn : ∀ u : State, Q (u.tally i c) → P (u.checkTally i c))
    (bs : List Band) (hc : c ∈ bs) (s : State) (hQ : Q (s.tally i c)) : P (bs.foldl (fun s b => s.checkTally i b) s) := by
  have hkeep : ∀ (bs : List Band) (u : State), P u → P (bs.foldl (fun s b => s.checkTally i b) u) := fun bs => by
    induction bs with
    | nil => exact fun _ h => h
    | cons b bs ih => exact fun u h => ih _ (hstay u b h)
  induction bs generalizing s with
  | nil => exact absurd hc List.not_mem_nil
  | cons b bs ih =>
    rw [List.foldl_cons]
    by_cases hb : b = c
    · subst hb
      exact hkeep bs _ (hturn s hQ)
    · refine ih ((List.mem_cons.mp hc).resolve_left (Ne.symm hb)) _ ?_
      rw [checkTally_tally, if_neg fun h => hb h.2.symm]
      exact hQ

/-- A single error anywhere in a slot leaves it marked repaired. -/
theorem checkTallies_repaired {s : State} {i : SlotId} {b : Band} (h : (s.tally i b).upset = some .single) :
    ((s.checkTallies i).ctx i).marks.repaired = true := by
  unfold State.checkTallies
  exact foldl_checkTally_reaches (P := fun u => (u.ctx i).marks.repaired = true) (Q := fun t => t.upset = some .single) b
    (fun u c hu => (checkTally_repaired u i c).mpr (.inl hu)) (fun u hu => (checkTally_repaired u i b).mpr (.inr hu))
    allBands (mem_allBands b) s h

/-- A double error anywhere in a slot raises TALLY_DAMAGED. -/
theorem checkTallies_damaged {s : State} {i : SlotId} {b : Band} (h : (s.tally i b).upset = some .double) :
    (s.checkTallies i).link.flags.getLsbD 11 = true := by
  unfold State.checkTallies
  exact foldl_checkTally_reaches (P := fun u => u.link.flags.getLsbD 11 = true) (Q := fun t => t.upset = some .double) b
    (fun u c hu => checkTally_damaged u i c (.inl hu)) (fun u hu => checkTally_damaged u i b (.inr hu))
    allBands (mem_allBands b) s h

theorem checkTallies_flag (h : s.link.flags.getLsbD 11 = true) : (s.checkTallies i).link.flags.getLsbD 11 = true := by
  unfold State.checkTallies
  exact foldl_invariant (I := fun u => u.link.flags.getLsbD 11 = true) (f := fun s b => s.checkTally i b) (fun u b hu => checkTally_damaged u i b (.inl hu)) allBands h

end

end Sys2Proof.Machine
end

section
/-! PROOFS. The scrub pass and the consumption of meter updates (O36, O38; R121, R123, R124). -/

namespace Sys2Proof.Machine

-- One thread elaborates this section: the text as a whole is near the memory limit of the check.
set_option Elab.async false

namespace State.OnContext

variable {i : SlotId} {s t : State} (h : s.OnContext i t)
include h

theorem queue : t.meter.queue = s.meter.queue := by rw [h.meter]
theorem taken : t.meter.taken = s.meter.taken := by rw [h.meter]
theorem consumed : t.meter.consumed = s.meter.consumed := by rw [h.meter]
theorem band : t.meter.band = s.meter.band := by rw [h.meter]
theorem nextBoundary : t.meter.nextBoundary = s.meter.nextBoundary := by rw [h.meter]
theorem scrubCount : t.meter.scrubCount = s.meter.scrubCount := by rw [h.meter]

end State.OnContext

/-! ### The scrub pass (R124) -/

/-- What a turn of a slot brings about and no turn undoes holds after all of them. -/
theorem forSlots_reaches {β : Type} {g : State → SlotId → β} {P : State → Prop} {p : SlotId → Bool}
    {f : State → SlotId → State} {s : State} {i : SlotId} (hi : p i = true) (hstay : ∀ u j, P u → P (f u j))
    (hother : ∀ u j, j ≠ i → g (f u j) i = g u i) (hturn : ∀ u, g u i = g s i → P (f u i)) : P (s.forSlots p f) := by
  obtain ⟨pre, post, hsplit⟩ := List.append_of_mem (List.mem_filter.mpr ⟨mem_allSlots i, hi⟩)
  have hnodup : (pre ++ i :: post).Nodup := hsplit ▸ (List.nodup_finRange 128).filter p
  have hpre : i ∉ pre := fun h => (List.nodup_append.mp hnodup).2.2 i h i List.mem_cons_self rfl
  unfold State.forSlots
  rw [hsplit, List.foldl_append, List.foldl_cons]
  exact foldl_invariant hstay post (hturn _ (foldl_keeps_other (I := fun _ => True) (fun _ _ _ => trivial)
    (fun u j _ hj => hother u j hj) hpre trivial))

/-- Settles O38: the scrub pass. -/
theorem scrubPassRepairs : Obligations.ScrubPassRepairs := by
  unfold Obligations.ScrubPassRepairs
  refine fun s => ⟨fun hearly => ?_, fun hdue => ?_⟩
  · show execScrubPass s = _
    unfold execScrubPass
    exact if_neg (Nat.not_le.mpr hearly)
  · have hexec : exec .scrubPass s = .next (({ s with meter := { s.meter with
        scrubCount := s.meter.scrubCount % 4000 } } : State).forSlots (fun i => (s.ctx i).state.scrubbed)
          State.checkTallies) := by
      show execScrubPass s = _
      unfold execScrubPass
      exact if_pos hdue
    generalize hu : ({ s with meter := { s.meter with scrubCount := s.meter.scrubCount % 4000 } } : State) = u at hexec
    have hctx : ∀ i, u.ctx i = s.ctx i := fun i => by rw [← hu]; rfl
    have htally : ∀ i b, u.tally i b = s.tally i b := fun i b => by rw [← hu]; rfl
    have hmeter : u.meter.queue = s.meter.queue ∧ u.meter.scrubCount = s.meter.scrubCount % 4000 := by
      rw [← hu]
      exact ⟨rfl, rfl⟩
    have hread : ∀ (v : State) j, v.OnContext j (v.checkTallies j) := fun v j => (State.OnContext.refl j v).checkTallies
    have hother : ∀ {i : SlotId} (v : State) j, j ≠ i → (v.checkTallies j).ctx i = v.ctx i := fun v j hj =>
      (hread v j).ctx _ (Ne.symm hj)
    have hmeter' : (u.forSlots (fun i => (s.ctx i).state.scrubbed) State.checkTallies).meter.queue = u.meter.queue
        ∧ (u.forSlots (fun i => (s.ctx i).state.scrubbed) State.checkTallies).meter.scrubCount = u.meter.scrubCount :=
      ⟨foldl_keeps (·.meter.queue) State.checkTallies (fun v j => (hread v j).queue) _ u,
        foldl_keeps (·.meter.scrubCount) State.checkTallies (fun v j => (hread v j).scrubCount) _ u⟩
    refine ⟨_, hexec, ?_, hmeter'.1.trans hmeter.1, hmeter'.2.trans hmeter.2, fun i hidle => ?_, fun i b hscrubbed => ?_⟩
    · exact State.ext_blocks (by simp [← hu]) (by simp [← hu]) (by simp [← hu]) (by simp [← hu]) (by simp [← hu])
        (by simp [← hu]) rfl (by simp [← hu]) rfl (by simp [← hu]) (by simp [← hu]) (by simp [← hu]) (by simp [← hu])
    · refine (forSlots_keeps_other (fun (u : State) i => u.ctx i) (fun v j hj => hother v j hj) ?_ u).trans (hctx i)
      rcases hidle with h | h <;> rw [h] <;> rfl
    · have hp : (s.ctx i).state.scrubbed = true := by
        rcases hscrubbed with h | h | h <;> rw [h] <;> rfl
      obtain ⟨v, -, hv, hturn⟩ := forSlots_turn (g := fun (u : State) i => u.ctx i) (I := fun _ => True)
        (p := fun i => (s.ctx i).state.scrubbed) (f := State.checkTallies) (s := u) (i := i) hp trivial (fun _ _ _ => trivial)
        fun v j _ hj => hother v j hj
      have hvtally : v.tally i b = s.tally i b :=
        (congrArg (fun c : Context => c.tallies.get b) hv).trans (htally i b)
      have hafter : (u.forSlots (fun i => (s.ctx i).state.scrubbed) State.checkTallies).tally i b =
          (s.tally i b).checked := by
        refine (congrArg (fun c : Context => c.tallies.get b) hturn).trans ?_
        rw [← hvtally]
        exact (checkTallies_tally v i i b).trans (if_pos rfl)
      refine ⟨fun h => hafter.trans (checked_of_none h), fun h => ⟨hafter.trans (checked_of_single h), ?_⟩,
        fun h => ⟨hafter.trans (checked_of_double h), ?_⟩⟩
      · refine (congrArg (fun c : Context => c.marks.repaired) hturn).trans ?_
        exact checkTallies_repaired (b := b) (by rw [hvtally, h])
      · refine forSlots_reaches (g := fun (u : State) i => u.ctx i) (P := fun u => u.link.flags.getLsbD 11 = true) hp
          (fun w j hw => checkTallies_flag w j hw) (fun w j hj => hother w j hj) fun w hw => checkTallies_damaged (b := b) ?_
        have : w.tally i b = s.tally i b := (congrArg (fun c : Context => c.tallies.get b) hw).trans (htally i b)
        rw [this, h]

/-! ### Counts credited (R121) -/

/-- Two sets of counts added. -/
def ByteCounts.plus (a b : ByteCounts) : ByteCounts :=
  { upAssured := a.upAssured + b.upAssured, upSurplus := a.upSurplus + b.upSurplus
    down := a.down + b.down, dropped := a.dropped + b.dropped }

/-- Counts cut at the most that a count can be. -/
def ByteCounts.cut (a : ByteCounts) : ByteCounts :=
  { upAssured := min a.upAssured 1099511627775, upSurplus := min a.upSurplus 1099511627775
    down := min a.down 1099511627775, dropped := min a.dropped 1099511627775 }

namespace ByteCounts

variable (a b c : ByteCounts)

theorem plus_zero : a.plus ByteCounts.zero = a := rfl

theorem add_fst : (a.add b).1 = (a.plus b).cut := rfl

theorem cut_ne_iff : a.cut ≠ a ↔ 1099511627775 < a.upAssured ∨ 1099511627775 < a.upSurplus ∨ 1099511627775 < a.down
    ∨ 1099511627775 < a.dropped := by
  obtain ⟨w, x, y, z⟩ := a
  simp only [cut, ne_eq, ByteCounts.mk.injEq]
  omega

theorem add_snd : (a.add b).2 = true ↔ (a.plus b).cut ≠ a.plus b := by
  rw [cut_ne_iff]
  simp only [add, satAdd, plus, Bool.or_eq_true, decide_eq_true_iff, or_assoc]
  rfl

theorem cut_plus : (a.cut.plus b).cut = (a.plus b).cut := by
  simp only [cut, plus, ByteCounts.mk.injEq]
  omega

/-- Adding in two steps saturates where adding at once does. -/
theorem cut_plus_ne_iff : (a.cut ≠ a ∨ (a.cut.plus b).cut ≠ a.cut.plus b) ↔ (a.plus b).cut ≠ a.plus b := by
  rw [cut_ne_iff, cut_ne_iff, cut_ne_iff]
  simp only [cut, plus]
  omega

end ByteCounts

section
variable {s : State} {i : SlotId} {b : Band}

/-- Counts credited to a tally without an error. -/
theorem credit_of_sound (h : (s.tally i b).upset = none) (c : ByteCounts) :
    s.credit i b c = (s.modTally i b fun t => { t with counts := ((s.tally i b).counts.add c).1 }).modMarks i
      (·.saturate ((s.tally i b).counts.add c).2) := by
  unfold State.credit
  rw [checkTally_of_none h]

theorem credit_tally (h : (s.tally i b).upset = none) (c : ByteCounts) (k : Band) :
    (s.credit i b c).tally i k =
      if k = b then { s.tally i b with counts := ((s.tally i b).counts.plus c).cut } else s.tally i k := by
  rw [credit_of_sound h, modMarks_tally, modTally_tally]
  by_cases hk : k = b
  · rw [if_pos ⟨rfl, hk⟩, if_pos hk, hk, ByteCounts.add_fst]
  · rw [if_neg fun hboth => hk hboth.2, if_neg hk]

theorem credit_saturated (h : (s.tally i b).upset = none) (c : ByteCounts) :
    ((s.credit i b c).ctx i).marks.saturated = true ↔
      (s.ctx i).marks.saturated = true ∨ ((s.tally i b).counts.plus c).cut ≠ (s.tally i b).counts.plus c := by
  rw [credit_of_sound h, modMarks_ctx, if_pos rfl, modTally_marks, ← ByteCounts.add_snd]
  exact Bool.or_eq_true_iff

theorem credit_link (h : (s.tally i b).upset = none) (c : ByteCounts) :
    (s.credit i b c).link = s.link ∧ (s.credit i b c).meter.spill = s.meter.spill
      ∧ (s.credit i b c).meter.band = s.meter.band := by
  rw [credit_of_sound h]
  exact ⟨rfl, rfl, rfl⟩

theorem fold_of_zero (h : s.spill i = ByteCounts.zero) : s.fold i = s := if_pos h

theorem fold_of_spill (h : s.spill i ≠ ByteCounts.zero) :
    s.fold i = (s.credit i s.meter.band (s.spill i)).setOver i .zero := if_neg h

end

end Sys2Proof.Machine
end

section
/-! PROOFS. The consumption of meter updates (O36; R121). -/

namespace Sys2Proof.Machine

-- One thread elaborates this section: the text as a whole is near the memory limit of the check.
set_option Elab.async false

/-! ### An update consumed -/

/-- The part with the oldest update taken off the meter queue. -/
def State.updateTaken (s : State) (rest : List MeterUpdate) : State :=
  s.modMeter fun m => { m with queue := rest, consumed := m.consumed + 1 }

theorem execMeterUpdateConsume_of {s : State} {u : MeterUpdate} {rest : List MeterUpdate} (h : s.meter.queue = u :: rest) :
    exec .meterUpdateConsume s = .next ((s.updateTaken rest).creditUpdate u) := by
  show execMeterUpdateConsume s = _
  unfold execMeterUpdateConsume
  rw [h]
  rfl

theorem creditUpdate_onContext (s : State) (u : MeterUpdate) : s.OnContext u.slot (s.creditUpdate u) := by
  have hrefl := State.OnContext.refl u.slot s
  unfold State.creditUpdate
  split
  · exact hrefl
  · exact (hrefl.ensureOpen.credit ..).fold

theorem updateDiscarded_iff (s : State) (u : MeterUpdate) : s.updateDiscarded u = true ↔
    (s.slot u.slot).gen ≠ u.gen ∨ (s.ctx u.slot).state = .finalOwed
      ∨ (s.ctx u.slot).state = .none ∧ (s.slot u.slot).metered = false := by
  unfold State.updateDiscarded
  simp [or_assoc]

/-- Whether an update's counts reach a tally: its own band's, and the current band's when the accumulator is folded. -/
def State.reaches (s : State) (i : SlotId) (own b : Band) : Prop := b = own ∨ (s.spill i ≠ ByteCounts.zero ∧ b = s.meter.band)

/-- What a tally holds, unsaturated, once a credit and the accumulator came to it. -/
def State.credited (s : State) (i : SlotId) (own : Band) (c : ByteCounts) (b : Band) : ByteCounts :=
  (if b = own then ((s.tally i b).counts.plus c) else (s.tally i b).counts).plus
    (if s.spill i ≠ ByteCounts.zero ∧ b = s.meter.band then s.spill i else ByteCounts.zero)

section
variable {s : State} {i : SlotId} {own : Band} (c : ByteCounts) (hown : (s.tally i own).upset = none)
include hown

/-- A credit with no overflow accumulated. -/
theorem creditFold_of_zero (hzero : s.spill i = ByteCounts.zero) :
    let t := (s.credit i own c).fold i
    t.link = s.link ∧ t.spill i = ByteCounts.zero
      ∧ (∀ b, s.reaches i own b → t.tally i b = { s.tally i b with counts := (s.credited i own c b).cut })
      ∧ (∀ b, ¬ s.reaches i own b → t.tally i b = s.tally i b)
      ∧ ((t.ctx i).marks.saturated = true ↔ (s.ctx i).marks.saturated = true
        ∨ ∃ b, s.reaches i own b ∧ (s.credited i own c b).cut ≠ s.credited i own c b) := by
  obtain ⟨hlink, hspill, -⟩ := credit_link hown c
  have hspilled : (s.credit i own c).spill i = ByteCounts.zero := (congrArg (fun v : Vector ByteCounts 128 => v.get i) hspill).trans hzero
  have hreaches : ∀ b, s.reaches i own b ↔ b = own := fun b => by
    unfold State.reaches
    simp [hzero]
  have hcredited : s.credited i own c own = (s.tally i own).counts.plus c := by
    unfold State.credited
    rw [if_pos rfl, if_neg fun h => h.1 hzero]
    rfl
  dsimp only
  rw [fold_of_zero hspilled]
  simp only [hreaches]
  refine ⟨hlink, hspilled, fun b hb => ?_, fun b hb => ?_, ?_⟩
  · rw [credit_tally hown, if_pos hb, hb, hcredited]
  · rw [credit_tally hown, if_neg hb]
  · rw [credit_saturated hown, exists_eq_left, hcredited]

/-- A credit with overflow accumulated, which is folded into the current band after it. -/
theorem creditFold_of_spill (hspill : s.spill i ≠ ByteCounts.zero) (hband : (s.tally i s.meter.band).upset = none) :
    let t := (s.credit i own c).fold i
    t.link = s.link ∧ t.spill i = ByteCounts.zero
      ∧ (∀ b, s.reaches i own b → t.tally i b = { s.tally i b with counts := (s.credited i own c b).cut })
      ∧ (∀ b, ¬ s.reaches i own b → t.tally i b = s.tally i b)
      ∧ ((t.ctx i).marks.saturated = true ↔ (s.ctx i).marks.saturated = true
        ∨ ∃ b, s.reaches i own b ∧ (s.credited i own c b).cut ≠ s.credited i own c b) := by
  obtain ⟨hlink, hspills, hband'⟩ := credit_link hown c
  have htally := credit_tally hown c
  have hsaturated := credit_saturated hown c
  have hspilled : (s.credit i own c).spill i = s.spill i := congrArg (fun v : Vector ByteCounts 128 => v.get i) hspills
  have hreaches : ∀ b, s.reaches i own b ↔ b = own ∨ b = s.meter.band := fun b => by
    unfold State.reaches
    simp [hspill]
  generalize s.credit i own c = v at *
  have hbandSound : (v.tally i v.meter.band).upset = none := by
    rw [hband', htally]
    split
    · exact hown
    · exact hband
  obtain ⟨hlink', -, -⟩ := credit_link hbandSound (v.spill i)
  have hend := credit_tally hbandSound (v.spill i)
  have hsaturated' := credit_saturated hbandSound (v.spill i)
  dsimp only
  rw [fold_of_spill (by rwa [hspilled])]
  simp only [hreaches]
  rw [hspilled, hband'] at *
  refine ⟨hlink'.trans hlink, (setOver_spill ..).trans (if_pos rfl), fun b hb => ?_, fun b hb => ?_, ?_⟩
  · rw [setOver_tally, hend]
    by_cases hcurrent : b = s.meter.band
    · rw [if_pos hcurrent, htally]
      by_cases hsame : b = own
      · have hone : s.meter.band = own := hcurrent.symm.trans hsame
        rw [if_pos hone, hsame]
        unfold State.credited
        rw [if_pos rfl, if_pos ⟨hspill, hone.symm⟩]
        dsimp only
        rw [ByteCounts.cut_plus ((s.tally i own).counts.plus c)]
      · have htwo : s.meter.band ≠ own := fun h => hsame (hcurrent.trans h)
        rw [if_neg htwo]
        unfold State.credited
        rw [if_neg hsame, if_pos ⟨hspill, hcurrent⟩, hcurrent]
    · have hsame := hb.resolve_right hcurrent
      rw [if_neg hcurrent, htally, if_pos hsame]
      unfold State.credited
      rw [if_pos hsame, if_neg fun h => hcurrent h.2, hsame]
      rfl
  · obtain ⟨hsame, hcurrent⟩ := not_or.mp hb
    rw [setOver_tally, hend, if_neg hcurrent, htally, if_neg hsame]
  · rw [setOver_ctx, hsaturated', hsaturated, htally, or_assoc]
    refine or_congr_right ?_
    by_cases hone : s.meter.band = own
    · have hcredited : s.credited i own c own = ((s.tally i own).counts.plus c).plus (s.spill i) := by
        unfold State.credited
        rw [if_pos rfl, if_pos ⟨hspill, hone.symm⟩]
      rw [if_pos hone, hone]
      simp only [or_self, exists_eq_left, hcredited]
      exact ByteCounts.cut_plus_ne_iff ..
    · have hcredited : s.credited i own c own = (s.tally i own).counts.plus c := by
        unfold State.credited
        rw [if_pos rfl, if_neg fun h => hone h.2.symm]
        rfl
      have hfolded : s.credited i own c s.meter.band = (s.tally i s.meter.band).counts.plus (s.spill i) := by
        unfold State.credited
        rw [if_neg hone, if_pos ⟨hspill, rfl⟩]
      rw [if_neg hone]
      simp only [or_and_right, exists_or, exists_eq_left, hcredited, hfolded]

end

/-- Settles O36: the oldest meter update consumed. -/
theorem meterUpdateConsumed : Obligations.MeterUpdateConsumed := by
  unfold Obligations.MeterUpdateConsumed
  intro s u rest hqueue i gone credit plus most cut folds sum
  have honly := creditUpdate_onContext (s.updateTaken rest) u
  have hcredit : credit = updateCounts u.kind u.bytes u.assured := by
    show (match u.kind with
      | .up => _
      | .down => _
      | .drop => _) = _
    cases u.kind <;> rfl
  refine ⟨_, execMeterUpdateConsume_of hqueue, honly.queue, honly.consumed, honly.taken, ?_, fun hgone => ?_,
    fun hkept hopened hown hband => ?_⟩
  · exact State.ext_blocks (by simp [State.updateTaken]) (by simp [State.updateTaken]) (by simp [State.updateTaken])
      (by simp [State.updateTaken]) (by simp [State.updateTaken]) (by simp [State.updateTaken]) rfl
      (by simp [State.updateTaken]) rfl (by simp [State.updateTaken]) (by simp [State.updateTaken])
      (by simp [State.updateTaken]) (by simp [State.updateTaken])
  · unfold State.creditUpdate
    rw [if_pos ((updateDiscarded_iff (s.updateTaken rest) u).mpr hgone)]
    rfl
  · have hturn : (s.updateTaken rest).creditUpdate u = ((s.updateTaken rest).credit i u.band credit).fold i := by
      unfold State.creditUpdate
      rw [if_neg (mt (updateDiscarded_iff (s.updateTaken rest) u).mp hkept), ensureOpen_of_some (by exact hopened), hcredit]
    have hothers : ∀ j, j ≠ i → ((s.updateTaken rest).creditUpdate u).ctx j = s.ctx j
        ∧ ((s.updateTaken rest).creditUpdate u).spill j = s.spill j := fun j hj => ⟨honly.ctx j hj, honly.spill j hj⟩
    rw [hturn] at hothers ⊢
    by_cases hfolds : s.spill i = ByteCounts.zero
    · obtain ⟨hlink, hspill, hreached, hleft, hsaturated⟩ :=
        creditFold_of_zero (s := s.updateTaken rest) (i := i) credit hown hfolds
      exact ⟨hlink, hspill, hothers, hreached, fun b hb hb' => hleft b (not_or.mpr ⟨hb, hb'⟩), hsaturated⟩
    · obtain ⟨hlink, hspill, hreached, hleft, hsaturated⟩ :=
        creditFold_of_spill (s := s.updateTaken rest) (i := i) credit hown hfolds (hband hfolds)
      exact ⟨hlink, hspill, hothers, hreached, fun b hb hb' => hleft b (not_or.mpr ⟨hb, hb'⟩), hsaturated⟩

end Sys2Proof.Machine
end

section
/-! PROOFS. Closes: the context and the journal after a record, an owed close, and a drain that completes (O37; R126, R130,
R132, R134, R140, R141). -/

namespace Sys2Proof.Machine

-- One thread elaborates this section: the text as a whole is near the memory limit of the check.
set_option Elab.async false

/-! ### A record taken by the journal (R140, R141) -/

theorem hasFree_iff (j : Journal) : j.hasFree = true ↔ j.held < 512 := decide_eq_true_iff

namespace Journal

variable (j : Journal) (r : UsageRecord)

/-- A record with the number and the run mark that the journal gives it (R140). -/
def entry : UsageRecord := { r with seq := j.append, runMark := j.runMark }

theorem take_records : (j.take r).1.records = j.records ++ [j.entry r] := rfl

theorem take_append : (j.take r).1.append = j.append + 1 := rfl

theorem take_nearFull : (j.take r).1.nearFull = (j.nearFull || decide (j.held = 447)) := by
  show (j.nearFull || (j.held + 1 == 448 && !j.nearFull)) = _
  cases j.nearFull <;> simp [beq_eq_decide]

theorem take_crosses_iff : (j.take r).2 = true ↔ j.held = 447 ∧ j.nearFull = false := by
  show (j.held + 1 == 448 && !j.nearFull) = true ↔ _
  simp

/-- What a record taken leaves of the journal. -/
theorem take_kept : (j.take r).1.oldest = j.oldest ∧ (j.take r).1.publish = j.publish ∧ (j.take r).1.runMark = j.runMark
    ∧ (j.take r).1.acks = j.acks := ⟨rfl, rfl, rfl, rfl⟩

theorem take_held (h : j.held < 512) : (j.take r).1.held = j.held + 1 := by
  unfold held at h ⊢
  obtain ⟨holdest, -⟩ := j.take_kept r
  rw [take_append, holdest]
  bv_omega

end Journal

section
variable (s : State) (i : SlotId) (reason : CloseReason)

theorem appendRecord_of_full {s : State} (r : UsageRecord) (h : 512 ≤ s.journal.held) : s.appendRecord r = s := by
  unfold State.appendRecord
  exact if_neg fun hfree => absurd ((hasFree_iff _).mp hfree) (Nat.not_lt.mpr h)

theorem appendRecord_journal {s : State} (r : UsageRecord) (h : s.journal.held < 512) :
    (s.appendRecord r).journal = (s.journal.take r).1 := by
  unfold State.appendRecord
  rw [if_pos ((hasFree_iff _).mpr h)]
  dsimp only
  split <;> rfl

theorem appendRecord_ctx (r : UsageRecord) (j : SlotId) : (s.appendRecord r).ctx j = s.ctx j := by
  simp only [State.ctx, State.appendRecord_frame]

/-- The append that brings the held count to 448 with the near-full mark clear raises JOURNAL_NEAR_FULL. -/
theorem appendRecord_raised {s : State} (r : UsageRecord) (hheld : s.journal.held = 447) (hclear : s.journal.nearFull = false) :
    s.Raised (s.appendRecord r) .journalNearFull (be 2 448 ++ be 4 s.journal.oldest.toNat) := by
  have hroom : s.journal.held < 512 := by omega
  have hafter : (s.journal.take r).1.held = 448 := (s.journal.take_held r hroom).trans (by rw [hheld])
  unfold State.appendRecord
  rw [if_pos ((hasFree_iff _).mpr hroom)]
  dsimp only
  rw [if_pos ((s.journal.take_crosses_iff r).mpr ⟨hheld, hclear⟩), State.modJournal_journal, hafter]
  exact (raised_raise _ _ _).of_congr rfl rfl rfl rfl rfl

theorem appendRecord_link {s : State} (r : UsageRecord) (h : s.journal.held ≠ 447 ∨ s.journal.nearFull = true) :
    (s.appendRecord r).link = s.link := by
  unfold State.appendRecord
  split
  · dsimp only
    rw [if_neg fun hcross => ?_]
    · rfl
    · obtain ⟨hheld, hclear⟩ := (s.journal.take_crosses_iff r).mp hcross
      exact h.elim (· hheld) fun hmark => by rw [hclear] at hmark; cases hmark
  · rfl

/-! ### A close that gives a record (R126, R134) -/

theorem closeWithRecord_journal {s : State} (h : s.journal.held < 512) :
    (s.closeWithRecord i reason).journal = (s.journal.take (s.recordOf i reason)).1 := by
  unfold State.closeWithRecord
  exact appendRecord_journal _ h

theorem closeWithRecord_raised {s : State} (hheld : s.journal.held = 447) (hclear : s.journal.nearFull = false) :
    s.Raised (s.closeWithRecord i reason) .journalNearFull (be 2 448 ++ be 4 s.journal.oldest.toNat) := by
  unfold State.closeWithRecord
  exact (appendRecord_raised (s := s.afterRecord i reason.isFinal) _ hheld hclear).of_congr rfl rfl rfl rfl rfl

theorem closeWithRecord_link {s : State} (h : s.journal.held ≠ 447 ∨ s.journal.nearFull = true) :
    (s.closeWithRecord i reason).link = s.link := by
  unfold State.closeWithRecord
  exact appendRecord_link _ h

/-- The context of a slot after its record. -/
theorem closeWithRecord_ctx : (s.closeWithRecord i reason).ctx i = { s.ctx i with
    tallies := Vector.ofFn fun b : Band => closedTally (s.pricesOf i b) reason.isFinal (s.tally i b)
    periodStart := periodEnd (s.ctx i).periodStart s.clock.time
    marks := { Marks.clear with provisional := s.clock.state != .set } } := by
  unfold State.closeWithRecord State.afterRecord
  rw [appendRecord_ctx, modCtx_ctx_self]
  rfl

theorem closeWithRecord_tally (b : Band) :
    (s.closeWithRecord i reason).tally i b = closedTally (s.pricesOf i b) reason.isFinal (s.tally i b) := by
  unfold State.tally
  rw [closeWithRecord_ctx]
  simp [Vector.get]
  rfl

/-- A record leaves the context's state as it was, its period starting anew where the record stops, its counts 0 and its
overdue mark clear. -/
theorem closeWithRecord_kept : ((s.closeWithRecord i reason).ctx i).state = (s.ctx i).state
    ∧ ((s.closeWithRecord i reason).ctx i).periodStart = (s.recordOf i reason).stop
    ∧ ((s.closeWithRecord i reason).ctx i).marks.overdue = false
    ∧ ∀ b, ((s.closeWithRecord i reason).tally i b).counts = ByteCounts.zero := by
  refine ⟨?_, ?_, ?_, fun b => ?_⟩
  · rw [closeWithRecord_ctx]
  · rw [closeWithRecord_ctx]
    rfl
  · rw [closeWithRecord_ctx]
    rfl
  · rw [closeWithRecord_tally]
    rfl

/-- A record of a context whose close was overdue says so. -/
theorem recordOf_overdue (h : (s.ctx i).marks.overdue = true) : (s.recordOf i reason).flags.getLsbD 6 = true := by
  have hbit : ∀ a b c d e f g : Bool, (BitVec.ofNat 16 (bitsOf [a, b, c, d, e, f, true, g])).getLsbD 6 = true := by decide
  unfold State.recordOf recordFlags
  dsimp only
  rw [show ((s.ctx i).marks.saturate (s.anyClamped i reason.isFinal)).overdue = true from h]
  exact hbit ..

/-! ### Closes that wait for an entry (R130) -/

theorem anyOwed_iff : s.anyOwed = true ↔ ∃ j, (s.ctx j).state = .owed ∨ (s.ctx j).state = .finalOwed := by
  have hstate : ∀ c : CtxState, c.isOwed = true ↔ c = .owed ∨ c = .finalOwed := fun c => by cases c <;> decide
  unfold State.anyOwed
  rw [List.any_eq_true]
  exact ⟨fun ⟨j, _, h⟩ => ⟨j, (hstate _).mp h⟩, fun ⟨j, h⟩ => ⟨j, mem_allSlots j, (hstate _).mpr h⟩⟩

theorem entryAtOnce_iff : s.entryAtOnce = true ↔
    s.journal.held < 512 ∧ ∀ j, (s.ctx j).state ≠ .owed ∧ (s.ctx j).state ≠ .finalOwed := by
  unfold State.entryAtOnce
  rw [Bool.and_eq_true, hasFree_iff, Bool.not_eq_true', ← Bool.not_eq_true, anyOwed_iff]
  simp only [not_exists, not_or, ne_eq]

theorem owe_ctx (st : CtxState) : (s.owe i st).ctx i =
    { s.ctx i with state := st, marks := { (s.ctx i).marks with overdue := true } } := by
  unfold State.owe
  rw [modMarks_ctx, if_pos rfl, modCtx_ctx_self]

end

/-! ### Reads before a close (R123) -/

section
variable (s : State) (i j : SlotId) (b : Band)

/-- What a close reads of a context besides its tallies and marks. -/
structure Context.SameClose (c d : Context) : Prop where
  state : d.state = c.state
  closeReason : d.closeReason = c.closeReason
  periodStart : d.periodStart = c.periodStart
  drainMark : d.drainMark = c.drainMark
  overdue : d.marks.overdue = c.marks.overdue

namespace Context.SameClose

theorem refl (c : Context) : c.SameClose c := ⟨rfl, rfl, rfl, rfl, rfl⟩

theorem trans {c d e : Context} (h : c.SameClose d) (k : d.SameClose e) : c.SameClose e :=
  ⟨k.state.trans h.state, k.closeReason.trans h.closeReason, k.periodStart.trans h.periodStart,
    k.drainMark.trans h.drainMark, k.overdue.trans h.overdue⟩

end Context.SameClose

theorem modTally_sameClose (f : Tally → Tally) : (s.ctx j).SameClose ((s.modTally i b f).ctx j) := by
  rw [modTally_ctx]
  split
  · exact ⟨rfl, rfl, rfl, rfl, rfl⟩
  · exact .refl _

theorem modMarks_sameClose {f : Marks → Marks} (hf : ∀ m, (f m).overdue = m.overdue) :
    (s.ctx j).SameClose ((s.modMarks i f).ctx j) := by
  rw [modMarks_ctx]
  split
  · exact ⟨rfl, rfl, rfl, rfl, hf _⟩
  · exact .refl _

theorem checkTally_sameClose : (s.ctx j).SameClose ((s.checkTally i b).ctx j) := by
  rcases hupset : (s.tally i b).upset with _ | _ | _
  · rw [checkTally_of_none hupset]
    exact .refl _
  · rw [checkTally_of_single hupset]
    exact (modTally_sameClose ..).trans (modMarks_sameClose _ _ _ fun _ => rfl)
  · rw [checkTally_of_double hupset, raise_ctx]
    exact modTally_sameClose ..

theorem checkTallies_sameClose : (s.ctx j).SameClose ((s.checkTallies i).ctx j) := by
  unfold State.checkTallies
  exact foldl_invariant (I := fun u => (s.ctx j).SameClose (u.ctx j)) (f := fun s b => s.checkTally i b)
    (fun u b hu => hu.trans (checkTally_sameClose u i j b)) allBands (.refl _)

theorem fold_sameClose : (s.ctx j).SameClose ((s.fold i).ctx j) := by
  unfold State.fold State.credit
  split
  · exact .refl _
  · rw [setOver_ctx]
    exact ((checkTally_sameClose ..).trans (modTally_sameClose ..)).trans (modMarks_sameClose _ _ _ fun _ => rfl)

end

/-- A slot's accumulator folded and its tallies read, as every close begins. -/
def State.readForClose (s : State) (i : SlotId) : State := (s.fold i).checkTallies i

section
variable (s : State) (i j : SlotId)

theorem readForClose_sameClose : (s.ctx j).SameClose ((s.readForClose i).ctx j) :=
  (fold_sameClose s i j).trans (checkTallies_sameClose (s.fold i) i j)

theorem readForClose_onContext : s.OnContext i (s.readForClose i) := (State.OnContext.refl i s).fold.checkTallies

/-- The accumulator and the tallies of a slot with nothing to fold or to repair stay as they are. -/
theorem readForClose_of_quiet {s : State} {i : SlotId} (hspill : s.spill i = ByteCounts.zero) (hsound : s.Sound i) :
    s.readForClose i = s := by
  unfold State.readForClose
  rw [fold_of_zero hspill, checkTallies_of_sound hsound]

theorem readForClose_kept : (s.readForClose i).home = s.home ∧ (s.readForClose i).journal = s.journal
    ∧ (s.readForClose i).clock = s.clock ∧ (s.readForClose i).config = s.config
    ∧ (s.readForClose i).pending = s.pending := by
  unfold State.readForClose
  simp

end

/-! ### The final close of a drained context (R132, R33, R34) -/

theorem drainReached_of {consumed mark : Seq} (h : 0 ≤ (consumed - mark).toInt) : drainReached consumed mark = true := by
  have hnot : ¬ 0 < (mark - consumed).toInt := by
    rw [show mark - consumed = -(consumed - mark) by ring, BitVec.toInt_neg]
    have hlt := (consumed - mark).toInt_lt
    generalize (consumed - mark).toInt = d at *
    simp only [Int.bmod_def]
    omega
  unfold drainReached later
  rw [decide_eq_false hnot]
  rfl

/-- The part after a final record, before the manager frees the slot. -/
def State.closedOut (s : State) (i : SlotId) (reason : CloseReason) : State :=
  ((s.closeWithRecord i reason).modCtx i Context.toNone).setOver i .zero

theorem finishClose_closing {s : State} {i : SlotId} {reason : CloseReason} (hreason : (s.ctx i).closeReason = some reason)
    (hclosing : (s.slot i).state = .closing) : s.finishClose i = (s.closedOut i reason).freeSlot i := by
  unfold State.finishClose
  rw [hreason]
  dsimp only [Option.getD_some]
  refine if_pos ?_
  rw [slot_congr (s := s) (by simp)]
  exact hclosing

/-- A final record of a CLOSING slot ends its context and frees it. -/
theorem finishClose_ends {s : State} {i : SlotId} {reason : CloseReason} (hreason : (s.ctx i).closeReason = some reason)
    (hclosing : (s.slot i).state = .closing) :
    ((s.finishClose i).ctx i).state = .none ∧ (s.finishClose i).spill i = ByteCounts.zero
      ∧ (s.finishClose i).slot i = (s.slot i).freed
      ∧ (s.finishClose i).journal = (s.closeWithRecord i reason).journal := by
  have hctx : ((s.closedOut i reason).ctx i).state = .none := by
    unfold State.closedOut
    rw [setOver_ctx, modCtx_ctx_self]
    rfl
  have hspill : (s.closedOut i reason).spill i = ByteCounts.zero := (setOver_spill ..).trans (if_pos rfl)
  have hslot : (s.closedOut i reason).slot i = s.slot i := slot_congr (by simp [State.closedOut]) i
  have hjournal : (s.closedOut i reason).journal = (s.closeWithRecord i reason).journal := rfl
  rw [finishClose_closing hreason hclosing]
  have hmeter := freeSlot_meter (s.closedOut i reason) i
  refine ⟨?_, ?_, ?_, ?_⟩
  · unfold State.ctx at hctx ⊢
    rw [hmeter]
    exact hctx
  · unfold State.spill at hspill ⊢
    rw [hmeter]
    exact hspill
  · rw [freeSlot_slot_self, hslot]
  · rw [← hjournal]
    simp

theorem finishClose_kept (s : State) (i : SlotId) : (s.finishClose i).clock = s.clock
    ∧ (s.finishClose i).config = s.config ∧ (s.finishClose i).pending = s.pending := by simp

/-- Settles O37: a drain that completes. -/
theorem drainCompletes : Obligations.DrainCompletes := by
  unfold Obligations.DrainCompletes
  intro s i x reason hstate hmark hreason hclosing hserial held
  have hexec : exec (.drainComplete i) s = .next (if (s.readForClose i).entryAtOnce then (s.readForClose i).finishClose i
      else (s.readForClose i).owe i .finalOwed) := by
    show execDrainComplete i s = _
    unfold execDrainComplete
    exact if_pos ⟨hstate, drainReached_of hmark⟩
  obtain ⟨hhome, hjournal, hclock, hconfig, hpending⟩ := readForClose_kept s i
  have hsame := readForClose_sameClose s i
  generalize s.readForClose i = u at *
  have hslot : u.slot i = s.slot i := slot_congr hhome i
  have hentry : u.entryAtOnce = true ↔
      held < 512 ∧ ∀ j, (s.ctx j).state ≠ .owed ∧ (s.ctx j).state ≠ .finalOwed := by
    rw [entryAtOnce_iff, hjournal]
    exact and_congr_right fun _ => forall_congr' fun j => by rw [(hsame j).state]
  refine ⟨_, hexec, ?_, ?_, ?_, fun hroom hnone => ?_, fun hfull => ?_⟩
  · split <;> simp [hclock]
  · split <;> simp [hconfig]
  · split <;> simp [hpending]
  · rw [if_pos (hentry.mpr ⟨hroom, hnone⟩)]
    have hroom' : u.journal.held < 512 := by rw [hjournal]; exact hroom
    obtain ⟨hend, hspill, hfreed, hrecord⟩ := finishClose_ends ((hsame i).closeReason.trans hreason) (by rw [hslot, hclosing])
    rw [closeWithRecord_journal i reason hroom'] at hrecord
    rw [hslot] at hfreed
    refine ⟨hend, hspill, by rw [hfreed]; rfl, by rw [hfreed]; rfl, by rw [hfreed]; rfl, ?_, ?_,
      u.journal.entry (u.recordOf i reason), ?_, ?_, ?_, ?_, rfl, ?_, rfl, ?_⟩
    · rw [hrecord, Journal.take_append, hjournal]
    · rw [hrecord, Journal.take_nearFull, hjournal]
      rfl
    · rw [hrecord, Journal.take_records, hjournal]
    · show u.journal.append = _
      rw [hjournal]
    · show u.journal.runMark = _
      rw [hjournal]
    · show (u.slot i).serial.getD 0 = x
      rw [hslot, hserial]
      rfl
    · show (u.slot i).gen = _
      rw [hslot]
    · exact (hsame i).periodStart
  · rw [if_neg fun h => absurd (hentry.mp h).1 (Nat.not_lt.mpr hfull)]
    rw [owe_ctx]
    exact ⟨rfl, rfl, hjournal, hhome⟩

end Sys2Proof.Machine
end

section
/-! PROOFS. Acknowledgements, owed closes served and the ack timer (O42; R130, R144, R145, R147, R149). -/

namespace Sys2Proof.Machine

-- One thread elaborates this section: the text as a whole is near the memory limit of the check.
set_option Elab.async false

/-! ### Turns of no slot and of one slot -/

theorem forSlots_none {s : State} {p : SlotId → Bool} {f : State → SlotId → State} (h : ∀ j, p j = false) :
    s.forSlots p f = s := by
  unfold State.forSlots
  rw [List.filter_eq_nil_iff.mpr fun j _ => by simp [h j]]
  rfl

theorem forSlots_one {s : State} {p : SlotId → Bool} {f : State → SlotId → State} {i : SlotId} (hi : p i = true)
    (hother : ∀ j, j ≠ i → p j = false) : s.forSlots p f = f s i := by
  have honly : allSlots.filter p = [i] := by
    refine List.perm_singleton.mp ((List.perm_ext_iff_of_nodup ((List.nodup_finRange 128).filter p)
      (List.nodup_singleton i)).mpr fun j => ?_)
    rw [List.mem_filter, List.mem_singleton]
    refine ⟨fun h => by_contra fun hj => ?_, fun h => ⟨mem_allSlots j, by rw [h, hi]⟩⟩
    rw [hother j hj] at h
    cases h.2
  unfold State.forSlots
  rw [honly]
  rfl

/-! ### An acknowledgement (R144, R145) -/

theorem takesAck_iff (s : State) (a : AckFrame) : s.takesAck a = true ↔
    a.source = BitVec.ofNat 8 s.config.collector ∧ a.dest = s.station ∧ a.runMark = s.journal.runMark := by
  unfold State.takesAck
  simp [and_assoc]

namespace Journal

variable {j : Journal} {q : Seq}

theorem ackFrees_eq_zero (h : (q - j.oldest).toInt < 0 ∨ j.sent = 0) : j.ackFrees q = 0 := by
  unfold ackFrees
  dsimp only
  split
  · rfl
  · next hd => rw [h.resolve_left hd, Nat.min_zero]

theorem ackFrees_of_sent (h : 0 ≤ (q - j.oldest).toInt) : j.ackFrees q = min ((q - j.oldest).toInt.toNat + 1) j.sent := by
  unfold ackFrees
  exact if_neg (Int.not_lt.mpr h)

/-- The journal once its oldest `k` entries are free. -/
theorem free_eq (j : Journal) (k : Nat) : j.free k = { j with
    records := j.records.drop k
    oldest := j.oldest + BitVec.ofNat 32 k
    ackTimer := if j.publish = j.oldest + BitVec.ofNat 32 k then none else some 0
    nearFull := j.nearFull && decide (448 ≤ (j.append - (j.oldest + BitVec.ofNat 32 k)).toNat) } := by
  have hsent : (j.publish - (j.oldest + BitVec.ofNat 32 k)).toNat = 0 ↔ j.publish = j.oldest + BitVec.ofNat 32 k := by
    generalize j.oldest + BitVec.ofNat 32 k = o
    bv_omega
  unfold free sent held
  dsimp only
  simp only [hsent]
  rfl

end Journal

section
variable {s : State} {a : AckFrame} {rest : List AckFrame} (hacks : s.journal.acks = a :: rest)
include hacks

theorem execUsageAck_of_next : exec .usageAck s =
    .next (if (s.modJournal fun j => { j with acks := rest }).takesAck a then
      (s.modJournal fun j => { j with acks := rest }).acknowledge a.seq
      else s.modJournal fun j => { j with acks := rest }) := by
  show execUsageAck s = _
  unfold execUsageAck
  rw [hacks]

theorem execUsageAck_stale (h : ¬ (a.source = BitVec.ofNat 8 s.config.collector ∧ a.dest = s.station
      ∧ a.runMark = s.journal.runMark) ∨ (a.seq - s.journal.oldest).toInt < 0 ∨ s.journal.sent = 0) :
    exec .usageAck s = .next (s.modJournal fun j => { j with acks := rest }) := by
  rw [execUsageAck_of_next hacks]
  split
  · next htaken =>
    unfold State.acknowledge
    exact congrArg _ (if_pos (Journal.ackFrees_eq_zero (j := (s.modJournal fun j => { j with acks := rest }).journal)
      (h.resolve_left (not_not.mpr ((takesAck_iff _ a).mp htaken)))))
  · rfl

theorem execUsageAck_taken (hmine : a.source = BitVec.ofNat 8 s.config.collector ∧ a.dest = s.station
      ∧ a.runMark = s.journal.runMark) (hd : 0 ≤ (a.seq - s.journal.oldest).toInt) (hsent : 0 < s.journal.sent) :
    exec .usageAck s = .next (s.modJournal fun j => Journal.free { j with acks := rest }
      (min ((a.seq - s.journal.oldest).toInt.toNat + 1) s.journal.sent)).entriesFreed := by
  have htaken : (s.modJournal fun j => { j with acks := rest }).takesAck a = true := (takesAck_iff _ a).mpr hmine
  rw [execUsageAck_of_next hacks, if_pos htaken]
  have hfrees : (s.modJournal fun j => { j with acks := rest }).journal.ackFrees a.seq =
      min ((a.seq - s.journal.oldest).toInt.toNat + 1) s.journal.sent := Journal.ackFrees_of_sent hd
  unfold State.acknowledge
  dsimp only
  rw [hfrees, if_neg (by omega)]
  rfl

end

/-! ### An owed close served (R130, R149) -/

theorem isOwed_iff (c : CtxState) : c.isOwed = true ↔ c = .owed ∨ c = .finalOwed := by cases c <;> decide

theorem checkTallies_kept (s : State) (i : SlotId) : (s.checkTallies i).home = s.home
    ∧ (s.checkTallies i).journal = s.journal ∧ (s.checkTallies i).clock = s.clock := by simp

section
variable {s : State} {i : SlotId}

theorem serveClose_owed (hroom : s.journal.held < 512) (hstate : (s.ctx i).state = .owed) :
    s.serveClose i = ((s.checkTallies i).closeWithRecord i .interval).modCtx i fun c => { c with state := .opened } := by
  unfold State.serveClose
  rw [if_pos ((hasFree_iff _).mpr hroom), hstate]

theorem serveClose_finalOwed (hroom : s.journal.held < 512) (hstate : (s.ctx i).state = .finalOwed) :
    s.serveClose i = (s.checkTallies i).finishClose i := by
  unfold State.serveClose
  rw [if_pos ((hasFree_iff _).mpr hroom), hstate]

/-- The reason of the record that serves an owed close. -/
def Context.owedReason (c : Context) : CloseReason := if c.state = .owed then .interval else c.closeReason.getD .deroll

theorem finishClose_journal (s : State) (i : SlotId) : (s.finishClose i).journal =
    (s.closeWithRecord i ((s.ctx i).closeReason.getD .deroll)).journal := by
  have hfree : ∀ u : State, (u.freeSlot i).journal = u.journal := fun u => by simp
  unfold State.finishClose
  dsimp only
  split
  · exact hfree _
  · rfl

/-- The journal after an owed close was served. -/
theorem serveClose_journal (hroom : s.journal.held < 512) (howed : (s.ctx i).state = .owed ∨ (s.ctx i).state = .finalOwed) :
    (s.serveClose i).journal = (s.journal.take ((s.checkTallies i).recordOf i (s.ctx i).owedReason)).1 := by
  obtain ⟨-, hjournal, -⟩ := checkTallies_kept s i
  have hreason := (checkTallies_sameClose s i i).closeReason
  have howedServe := serveClose_owed (i := i) hroom
  have hfinalServe := serveClose_finalOwed (i := i) hroom
  generalize s.checkTallies i = u at *
  rw [← hjournal] at hroom ⊢
  unfold Context.owedReason
  rcases howed with hstate | hstate
  · rw [howedServe hstate, if_pos hstate]
    exact closeWithRecord_journal i .interval hroom
  · rw [hfinalServe hstate, if_neg (by simp [hstate]), finishClose_journal, hreason]
    exact closeWithRecord_journal i _ hroom

/-- An OWED context served is OPEN, its new period starting where the record stops. -/
theorem serveClose_reopened (hroom : s.journal.held < 512) (hstate : (s.ctx i).state = .owed) :
    ((s.serveClose i).ctx i).state = .opened
      ∧ ((s.serveClose i).ctx i).periodStart = ((s.checkTallies i).recordOf i .interval).stop
      ∧ ((s.serveClose i).ctx i).marks.overdue = false ∧ (∀ b, ((s.serveClose i).tally i b).counts = ByteCounts.zero)
      ∧ (s.serveClose i).home = s.home := by
  obtain ⟨hhome, -⟩ := checkTallies_kept s i
  rw [serveClose_owed hroom hstate]
  generalize s.checkTallies i = u at *
  obtain ⟨-, hstart, hoverdue, hzero⟩ := closeWithRecord_kept u i .interval
  have hctx := modCtx_ctx_self (u.closeWithRecord i .interval) i fun c => { c with state := .opened }
  refine ⟨by rw [hctx], by rw [hctx]; exact hstart, by rw [hctx]; exact hoverdue, fun b => ?_, by simp [hhome]⟩
  unfold State.tally at hzero ⊢
  rw [hctx]
  exact hzero b

end

/-- What an acknowledgement that frees entries does with the one close owed. -/
theorem ackServesClose {s : State} {a : AckFrame} {rest : List AckFrame} (hacks : s.journal.acks = a :: rest)
    (hmine : a.source = BitVec.ofNat 8 s.config.collector ∧ a.dest = s.station ∧ a.runMark = s.journal.runMark)
    (hd : 0 ≤ (a.seq - s.journal.oldest).toInt) (hsent : 0 < s.journal.sent) (i : SlotId)
    (hothers : ∀ j, j ≠ i → (s.ctx j).state ≠ .owed ∧ (s.ctx j).state ≠ .finalOwed)
    (howed : (s.ctx i).state = .owed ∨ (s.ctx i).state = .finalOwed) (hoverdue : (s.ctx i).marks.overdue = true) :
    let k := min ((a.seq - s.journal.oldest).toInt.toNat + 1) s.journal.sent
    (s.journal.append - (s.journal.oldest + BitVec.ofNat 32 k)).toNat < 512 →
    ∃ t r, exec .usageAck s = .next t
      ∧ t.journal.acks = rest ∧ t.journal.oldest = s.journal.oldest + BitVec.ofNat 32 k
      ∧ t.journal.publish = s.journal.publish ∧ t.journal.append = s.journal.append + 1
      ∧ t.journal.records = s.journal.records.drop k ++ [r] ∧ r.seq = s.journal.append
      ∧ r.runMark = s.journal.runMark ∧ r.slot = i ∧ r.gen = (s.slot i).gen ∧ r.start = (s.ctx i).periodStart
      ∧ r.flags.getLsbD 6 = true
      ∧ ((s.ctx i).state = .owed →
        r.reason = .interval ∧ (t.ctx i).state = .opened ∧ (t.ctx i).periodStart = r.stop
          ∧ (t.ctx i).marks.overdue = false ∧ (∀ b, (t.tally i b).counts = ByteCounts.zero) ∧ t.home = s.home)
      ∧ (∀ reason, (s.ctx i).state = .finalOwed → (s.ctx i).closeReason = some reason →
        (s.slot i).state = .closing →
        r.reason = reason ∧ (t.ctx i).state = .none ∧ t.spill i = ByteCounts.zero ∧ (t.slot i).state = .free
          ∧ (t.slot i).serial = none ∧ (t.slot i).gen = (s.slot i).gen) := by
  intro k hroom
  have hexec := execUsageAck_taken hacks hmine hd hsent
  rw [show min ((a.seq - s.journal.oldest).toInt.toNat + 1) s.journal.sent = k from rfl] at hexec
  generalize hu : (s.modJournal fun j => Journal.free { j with acks := rest } k) = u at hexec
  have hhome : u.home = s.home := by rw [← hu]; rfl
  have hctx : ∀ j, u.ctx j = s.ctx j := fun j => by rw [← hu]; rfl
  have hjournal : u.journal = Journal.free { s.journal with acks := rest } k := by rw [← hu]; rfl
  rw [Journal.free_eq] at hjournal
  have hheld : u.journal.held < 512 := by rw [hjournal]; exact hroom
  have hserved : u.entriesFreed = u.serveClose i := by
    unfold State.entriesFreed
    refine forSlots_one ((isOwed_iff _).mpr (by rwa [hctx])) fun j hj => ?_
    rw [← Bool.not_eq_true, isOwed_iff, hctx, not_or]
    exact hothers j hj
  rw [hserved] at hexec
  have hrecord := serveClose_journal hheld (by rwa [hctx] : (u.ctx i).state = .owed ∨ (u.ctx i).state = .finalOwed)
  obtain ⟨hhome', hjournal', -⟩ := checkTallies_kept u i
  have hsame := checkTallies_sameClose u i i
  have hslot : (u.checkTallies i).slot i = s.slot i := slot_congr (hhome'.trans hhome) i
  have hreopened := serveClose_reopened (i := i) hheld
  have hfinalServe := serveClose_finalOwed (i := i) hheld
  rw [hctx] at hsame hrecord hreopened hfinalServe
  generalize u.checkTallies i = v at *
  obtain ⟨holdestKept, hpublishKept, -, hacksKept⟩ := u.journal.take_kept (v.recordOf i (s.ctx i).owedReason)
  refine ⟨_, u.journal.entry (v.recordOf i (s.ctx i).owedReason), hexec, ?_, ?_, ?_, ?_, ?_, ?_, ?_, rfl,
    ?_, ?_, ?_, fun hstate => ?_, fun reason hstate hreason hclosing => ?_⟩
  · rw [hrecord, hacksKept, hjournal]
  · rw [hrecord, holdestKept, hjournal]
  · rw [hrecord, hpublishKept, hjournal]
  · rw [hrecord, Journal.take_append, hjournal]
  · rw [hrecord, Journal.take_records, hjournal]
  · show u.journal.append = _
    rw [hjournal]
  · show u.journal.runMark = _
    rw [hjournal]
  · show (v.slot i).gen = _
    rw [hslot]
  · exact hsame.periodStart
  · exact recordOf_overdue _ _ _ (hsame.overdue.trans hoverdue)
  · obtain ⟨hopen, hstart, hover, hzero, hhomes⟩ := hreopened hstate
    have hinterval : (s.ctx i).owedReason = .interval := if_pos hstate
    rw [hinterval]
    exact ⟨rfl, hopen, hstart, hover, hzero, hhomes.trans hhome⟩
  · have hfinal : (s.ctx i).owedReason = reason := by
      unfold Context.owedReason
      rw [if_neg (by simp [hstate]), hreason]
      rfl
    rw [hfinalServe hstate, hfinal]
    obtain ⟨hnone, hspill, hfreed, -⟩ := finishClose_ends (hsame.closeReason.trans hreason)
      (by rw [hslot, hclosing])
    rw [hslot] at hfreed
    exact ⟨rfl, hnone, hspill, by rw [hfreed]; rfl, by rw [hfreed]; rfl, by rw [hfreed]; rfl⟩

/-- Settles O42: acknowledgements, the closes they serve, and the ack timer. -/
theorem acknowledgementsAndGoBack : Obligations.AcknowledgementsAndGoBack := by
  unfold Obligations.AcknowledgementsAndGoBack
  refine ⟨fun s a rest hacks => ?_, fun s k htimer => ⟨fun hdue hsent => ?_, fun hearly => ?_⟩⟩
  · intro mine d sent
    refine ⟨fun hstale => execUsageAck_stale hacks hstale, fun hmine hd hsent hnone => ?_,
      fun i hmine hd hsent hothers howed hoverdue => ackServesClose hacks hmine hd hsent i hothers howed hoverdue⟩
    have hnobody : (s.modJournal fun j => Journal.free { j with acks := rest } (min (d.toNat + 1) sent)).entriesFreed =
        s.modJournal fun j => Journal.free { j with acks := rest } (min (d.toNat + 1) sent) := by
      unfold State.entriesFreed
      refine forSlots_none fun j => ?_
      rw [← Bool.not_eq_true, isOwed_iff, not_or]
      exact hnone j
    refine (execUsageAck_taken hacks hmine hd hsent).trans (congrArg _ (hnobody.trans ?_))
    exact congrArg (fun j => { s with journal := j }) (Journal.free_eq { s.journal with acks := rest } _)
  · have hpositive : 0 < s.journal.sent := by
      unfold Journal.sent
      bv_omega
    show execAckTimeout s = _
    unfold execAckTimeout
    rw [htimer]
    exact congrArg _ (if_pos ⟨hdue, hpositive⟩)
  · show execAckTimeout s = _
    unfold execAckTimeout
    rw [htimer]
    exact congrArg _ (if_neg fun h => absurd h.1 (Nat.not_le.mpr hearly))

end Sys2Proof.Machine
end

section
/-! PROOFS. The turn of one slot in an interval round, and what every round keeps (for O39; R128 to R130). -/

namespace Sys2Proof.Machine

-- One thread elaborates this section: the text as a whole is near the memory limit of the check.
set_option Elab.async false

/-! ### Lines (R134) -/

/-- Whether an interval close of a slot has a line to write. -/
def State.hasLines (s : State) (i : SlotId) : Bool := !(s.lineBands i false).isEmpty

theorem hasLine_iff (p : Prices) (t : Tally) : hasLine p false t = true ↔ t.counts ≠ ByteCounts.zero ∨ t.damaged = true := by
  simp [hasLine, roundsUp]

theorem hasLines_iff (s : State) (i : SlotId) :
    s.hasLines i = true ↔ ∃ k, (s.tally i k).counts ≠ ByteCounts.zero ∨ (s.tally i k).damaged = true := by
  unfold State.hasLines State.lineBands
  rw [Bool.not_eq_true', ← Bool.not_eq_true, List.isEmpty_iff, List.filter_eq_nil_iff]
  simp only [hasLine_iff, mem_allBands, true_imp_iff, not_forall, not_not]

theorem lineBands_isEmpty (s : State) (i : SlotId) : (s.lineBands i false).isEmpty = !s.hasLines i := by
  unfold State.hasLines
  rw [Bool.not_not]

theorem hasLines_congr {s u : State} {i : SlotId} (hctx : u.ctx i = s.ctx i) : u.hasLines i = s.hasLines i := by
  refine Bool.eq_iff_iff.mpr ?_
  rw [hasLines_iff, hasLines_iff]
  unfold State.tally
  rw [hctx]

/-! ### One slot (R129) -/

/-- The part once a slot's period has started anew without a record. -/
def State.restartPeriod (s : State) (i : SlotId) : State :=
  s.modCtx i fun c => { c with periodStart := s.clock.time }

section
variable {s : State} {i : SlotId}

theorem intervalClose_other (h : (s.ctx i).state ≠ .opened) : s.intervalClose i = s := if_neg h

theorem intervalClose_eq (h : (s.ctx i).state = .opened) :
    s.intervalClose i =
      if (s.readForClose i).hasLines i then
        if (s.readForClose i).entryAtOnce then (s.readForClose i).closeWithRecord i .interval
        else (s.readForClose i).owe i .owed
      else (s.readForClose i).restartPeriod i := by
  unfold State.intervalClose
  rw [if_pos h]
  dsimp only
  rw [show (s.fold i).checkTallies i = s.readForClose i from rfl, lineBands_isEmpty]
  cases (s.readForClose i).hasLines i <;> rfl

theorem intervalClose_idle (h : (s.ctx i).state = .opened) (hlines : (s.readForClose i).hasLines i = false) :
    s.intervalClose i = (s.readForClose i).restartPeriod i := by
  rw [intervalClose_eq h, hlines]
  rfl

theorem intervalClose_recorded (h : (s.ctx i).state = .opened) (hlines : (s.readForClose i).hasLines i = true)
    (hentry : (s.readForClose i).entryAtOnce = true) :
    s.intervalClose i = (s.readForClose i).closeWithRecord i .interval := by
  rw [intervalClose_eq h, if_pos hlines, if_pos hentry]

theorem intervalClose_owed (h : (s.ctx i).state = .opened) (hlines : (s.readForClose i).hasLines i = true)
    (hentry : (s.readForClose i).entryAtOnce = false) : s.intervalClose i = (s.readForClose i).owe i .owed := by
  rw [intervalClose_eq h, if_pos hlines, hentry]
  rfl

theorem restartPeriod_ctx (s : State) (i : SlotId) :
    (s.restartPeriod i).ctx i = { s.ctx i with periodStart := s.clock.time } := modCtx_ctx_self ..

theorem intervalClose_onContext (s : State) (i : SlotId) : s.OnContext i (s.intervalClose i) := by
  by_cases h : (s.ctx i).state = .opened
  · have hread := readForClose_onContext s i
    rw [intervalClose_eq h]
    generalize s.readForClose i = u at *
    split
    · split
      · exact hread.closeWithRecord _
      · exact hread.owe _
    · exact hread.modCtx _
  · rw [intervalClose_other h]
    exact .refl i s

/-- Appending keeps where the journal starts and is published. -/
theorem appendRecord_kept (s : State) (r : UsageRecord) :
    (s.appendRecord r).journal.oldest = s.journal.oldest ∧ (s.appendRecord r).journal.publish = s.journal.publish := by
  rcases Nat.lt_or_ge s.journal.held 512 with hroom | hfull
  · rw [appendRecord_journal r hroom]
    exact ⟨rfl, rfl⟩
  · rw [appendRecord_of_full r hfull]
    exact ⟨rfl, rfl⟩

theorem intervalClose_journal_kept (s : State) (i : SlotId) :
    (s.intervalClose i).journal.oldest = s.journal.oldest ∧ (s.intervalClose i).journal.publish = s.journal.publish := by
  by_cases h : (s.ctx i).state = .opened
  · obtain ⟨-, hjournal, -⟩ := readForClose_kept s i
    rw [intervalClose_eq h, ← hjournal]
    generalize s.readForClose i = u
    split
    · split
      · exact appendRecord_kept (u.afterRecord i _) _
      · exact ⟨rfl, rfl⟩
    · exact ⟨rfl, rfl⟩
  · rw [intervalClose_other h]
    exact ⟨rfl, rfl⟩

/-- Without an entry at once no turn changes the journal. -/
theorem intervalClose_journal_of_none (h : s.entryAtOnce = false) : (s.intervalClose i).journal = s.journal := by
  by_cases hopen : (s.ctx i).state = .opened
  · obtain ⟨-, hjournal, -⟩ := readForClose_kept s i
    have hsame := readForClose_sameClose s i
    have hentry : (s.readForClose i).entryAtOnce = false := by
      rw [← h]
      refine Bool.eq_iff_iff.mpr ?_
      rw [entryAtOnce_iff, entryAtOnce_iff, hjournal]
      exact and_congr_right fun _ => forall_congr' fun j => by rw [(hsame j).state]
    rw [intervalClose_eq hopen, ← hjournal, hentry]
    generalize s.readForClose i = u
    split <;> rfl
  · rw [intervalClose_other hopen]

/-- A context whose close is owed stays as it is in an interval round. -/
theorem intervalClose_ctx_owed {j : SlotId} (h : (s.ctx j).state ≠ .opened) : (s.intervalClose i).ctx j = s.ctx j := by
  by_cases hj : j = i
  · rw [intervalClose_other (hj ▸ h)]
  · exact (intervalClose_onContext s i).ctx j hj

theorem intervalClose_entryAtOnce (h : s.entryAtOnce = false) : (s.intervalClose i).entryAtOnce = false := by
  have hjournal := intervalClose_journal_of_none (i := i) h
  rw [← Bool.not_eq_true, entryAtOnce_iff] at h ⊢
  rw [hjournal]
  refine fun hafter => h ⟨hafter.1, fun j => ?_⟩
  by_cases hopen : (s.ctx j).state = .opened
  · rw [hopen]
    exact ⟨nofun, nofun⟩
  · rw [← intervalClose_ctx_owed (i := i) hopen]
    exact hafter.2 j

end

/-! ### The round (R128) -/

/-- The part after the OPEN contexts of an interval round had their turns. -/
def State.intervalTurns (s : State) : State := s.forSlots (fun i => (s.ctx i).state == .opened) State.intervalClose

theorem intervalTurns_state (s : State) :
    s.intervalTurns = { s with meter := s.intervalTurns.meter, journal := s.intervalTurns.journal
                               link := s.intervalTurns.link } := by
  unfold State.intervalTurns
  exact State.ext_blocks

theorem intervalTurns_kept (s : State) : s.intervalTurns.meter.queue = s.meter.queue
    ∧ s.intervalTurns.journal.oldest = s.journal.oldest ∧ s.intervalTurns.journal.publish = s.journal.publish := by
  unfold State.intervalTurns State.forSlots
  exact ⟨foldl_keeps (·.meter.queue) State.intervalClose (fun u i => (intervalClose_onContext u i).queue) _ s,
    foldl_keeps (·.journal.oldest) State.intervalClose (fun u i => (intervalClose_journal_kept u i).1) _ s,
    foldl_keeps (·.journal.publish) State.intervalClose (fun u i => (intervalClose_journal_kept u i).2) _ s⟩

section
variable {s : State} {i : SlotId}

theorem intervalTurns_other (h : (s.ctx i).state ≠ .opened) : s.intervalTurns.ctx i = s.ctx i := by
  unfold State.intervalTurns
  exact forSlots_keeps_other (fun u : State => u.ctx) (fun u j hj => (intervalClose_onContext u j).ctx i (Ne.symm hj))
    (by simpa using h) s

/-- The turn of an OPEN slot finds its context and accumulator as the round found them. -/
theorem intervalTurns_turn {I : State → Prop} (h : (s.ctx i).state = .opened) (hs : I s)
    (hI : ∀ u j, I u → I (u.intervalClose j)) :
    ∃ u : State, I u ∧ u.clock = s.clock ∧ u.ctx i = s.ctx i ∧ u.spill i = s.spill i
      ∧ s.intervalTurns.ctx i = (u.intervalClose i).ctx i := by
  obtain ⟨u, ⟨hu, hclock⟩, hsame, hturn⟩ := forSlots_turn (g := fun (u : State) i => (u.ctx i, u.spill i))
    (I := fun u => I u ∧ u.clock = s.clock) (p := fun i => (s.ctx i).state == .opened) (f := State.intervalClose) (s := s)
    (i := i) (by simpa using h) ⟨hs, rfl⟩ (fun u j hu => ⟨hI u j hu.1, by simpa using hu.2⟩)
    (fun u j _ hj => Prod.ext ((intervalClose_onContext u j).ctx i (Ne.symm hj))
      ((intervalClose_onContext u j).spill i (Ne.symm hj)))
  exact ⟨u, hu, hclock, congrArg Prod.fst hsame, congrArg Prod.snd hsame, congrArg Prod.fst hturn⟩

theorem sound_congr {u : State} (hctx : u.ctx i = s.ctx i) (h : s.Sound i) : u.Sound i := fun k => by
  unfold State.tally
  rw [hctx]
  exact h k

theorem intervalTurns_idle (h : (s.ctx i).state = .opened) (hspill : s.spill i = ByteCounts.zero) (hsound : s.Sound i)
    (hlines : s.hasLines i = false) : s.intervalTurns.ctx i = { s.ctx i with periodStart := s.clock.time } := by
  obtain ⟨u, -, hclock, hctx, hspills, hturn⟩ := intervalTurns_turn (I := fun _ => True) h trivial fun _ _ _ => trivial
  have hquiet := readForClose_of_quiet (s := u) (i := i) (by rw [hspills, hspill]) (sound_congr hctx hsound)
  rw [hturn, intervalClose_idle (by rw [hctx, h]) (by rw [hquiet, hasLines_congr hctx, hlines]), hquiet, restartPeriod_ctx,
    hctx, hclock]

/-- With no entry at once, the journal stays and every quiet OPEN context with lines is OWED. -/
theorem intervalTurns_blocked (hentry : s.entryAtOnce = false) : s.intervalTurns.journal = s.journal
    ∧ ((s.ctx i).state = .opened → s.hasLines i = true → s.spill i = ByteCounts.zero → s.Sound i →
      s.intervalTurns.ctx i = { s.ctx i with state := .owed, marks := { (s.ctx i).marks with overdue := true } }) := by
  refine ⟨?_, fun h hlines hspill hsound => ?_⟩
  · unfold State.intervalTurns State.forSlots
    exact (foldl_invariant (I := fun u => u.entryAtOnce = false ∧ u.journal = s.journal) (f := State.intervalClose)
      (fun u j hu => ⟨intervalClose_entryAtOnce hu.1, (intervalClose_journal_of_none hu.1).trans hu.2⟩) _
      ⟨hentry, rfl⟩).2
  · obtain ⟨u, hnone, -, hctx, hspills, hturn⟩ := intervalTurns_turn (I := fun u => u.entryAtOnce = false) h hentry
      fun u j hu => intervalClose_entryAtOnce hu
    have hquiet := readForClose_of_quiet (s := u) (i := i) (by rw [hspills, hspill]) (sound_congr hctx hsound)
    rw [hturn, intervalClose_owed (by rw [hctx, h]) (by rw [hquiet, hasLines_congr hctx, hlines]) (by rw [hquiet, hnone]),
      hquiet, owe_ctx, hctx]

theorem execIntervalRound_early {b : Nat} (hb : s.meter.nextBoundary = some b) (h : s.clock.time.toNat < b) :
    exec .intervalRound s = .next s := by
  show execIntervalRound s = _
  unfold execIntervalRound State.intervalDue
  rw [hb]
  exact if_neg (by simpa using h)

theorem execIntervalRound_due {b : Nat} (hb : s.meter.nextBoundary = some b) (h : b ≤ s.clock.time.toNat) :
    exec .intervalRound s = .next (s.intervalTurns.modMeter fun m =>
      { m with nextBoundary := some (boundaryAfter s.config s.clock.time) }) := by
  have hdue : s.intervalDue = true := by
    unfold State.intervalDue
    rw [hb]
    exact decide_eq_true h
  have hstate := intervalTurns_state s
  have hclock : s.intervalTurns.clock = s.clock := by rw [hstate]
  have hconfig : s.intervalTurns.config = s.config := by rw [hstate]
  rw [← hclock, ← hconfig]
  show execIntervalRound s = _
  unfold execIntervalRound
  exact if_pos hdue

end

end Sys2Proof.Machine
end

section
/-! PROOFS. An interval round with no close owed (O39; R128 to R130, R140, R141). -/

namespace Sys2Proof.Machine

-- One thread elaborates this section: the text as a whole is near the memory limit of the check.
set_option Elab.async false

/-! ### Several records taken in a row (R140, R141) -/

namespace Journal

/-- The journal after records taken in order. -/
def takeAll (j : Journal) (rs : List UsageRecord) : Journal := rs.foldl (fun j r => (j.take r).1) j

variable (j : Journal) (rs : List UsageRecord) (r : UsageRecord)

theorem takeAll_concat : j.takeAll (rs ++ [r]) = ((j.takeAll rs).take r).1 := List.foldl_concat ..

/-- What the records taken are in the journal: numbered from A on, under the run mark. -/
def entries : List UsageRecord :=
  rs.mapIdx fun k r => { r with seq := j.append + BitVec.ofNat 32 k, runMark := j.runMark }

theorem takeAll_kept : (j.takeAll rs).oldest = j.oldest ∧ (j.takeAll rs).runMark = j.runMark := by
  induction rs using List.reverseRecOn with
  | nil => exact ⟨rfl, rfl⟩
  | append_singleton rs r ih => rwa [takeAll_concat]

theorem takeAll_append : (j.takeAll rs).append = j.append + BitVec.ofNat 32 rs.length := by
  induction rs using List.reverseRecOn with
  | nil => exact (BitVec.add_zero _).symm
  | append_singleton rs r ih =>
    rw [takeAll_concat, take_append, ih, List.length_append, List.length_singleton, BitVec.ofNat_add, ← BitVec.add_assoc]
    rfl

theorem takeAll_records : (j.takeAll rs).records = j.records ++ j.entries rs := by
  induction rs using List.reverseRecOn with
  | nil => exact (List.append_nil _).symm
  | append_singleton rs r ih =>
    have hentries : j.entries (rs ++ [r]) = j.entries rs ++ [(j.takeAll rs).entry r] := by
      unfold entries entry
      rw [List.mapIdx_append, takeAll_append, (j.takeAll_kept rs).2]
      simp
    rw [takeAll_concat, take_records, ih, hentries, List.append_assoc]

theorem takeAll_held (h : j.held + rs.length ≤ 512 ∨ rs = []) : (j.takeAll rs).held = j.held + rs.length := by
  rcases h with h | h
  · unfold held at h ⊢
    rw [takeAll_append, (j.takeAll_kept rs).1]
    generalize rs.length = n at *
    bv_omega
  · rw [h]
    rfl

/-- The near-full mark is set by the record that brings the held count to 448. -/
theorem takeAll_nearFull (h : j.held + rs.length ≤ 512 ∨ rs = []) : (j.takeAll rs).nearFull =
    (j.nearFull || decide (j.held < 448 ∧ 448 ≤ j.held + rs.length)) := by
  induction rs using List.reverseRecOn with
  | nil =>
    rw [decide_eq_false (by simp), Bool.or_false]
    rfl
  | append_singleton rs r ih =>
    have hroom : j.held + (rs.length + 1) ≤ 512 := by
      simpa using h
    rw [takeAll_concat, take_nearFull, ih (.inl (by omega)), j.takeAll_held rs (.inl (by omega)), List.length_append,
      List.length_singleton, Bool.or_assoc, ← Bool.decide_or]
    exact congrArg _ (decide_eq_decide.mpr (by omega))

end Journal

/-! ### The turns of a round with no close owed -/

/-- What a close reads of a slot, where another state agrees. -/
theorem recordOf_congr {s u : State} {i : SlotId} (reason : CloseReason) (hhome : u.home = s.home)
    (hclock : u.clock = s.clock) (hconfig : u.config = s.config) (hctx : u.ctx i = s.ctx i) :
    u.recordOf i reason = s.recordOf i reason := by
  have hslot : u.slot i = s.slot i := slot_congr hhome i
  simp only [State.recordOf, State.lineBands, State.anyClamped, State.pricesOf, State.tally, hslot, hctx, hclock, hconfig,
    UsageRecord.mk.injEq, true_and]
  refine ⟨?_, List.map_congr_left fun b _ => ?_⟩
  · congr 1
    refine congrArg (List.any · _) (List.map_congr_left fun b _ => ?_)
    simp only [State.lineOf, State.pricesOf, State.tally, hslot, hctx, hconfig]
  · simp only [State.lineOf, State.pricesOf, State.tally, hslot, hctx, hconfig]

theorem closeWithRecord_ctx_congr {s u : State} {i : SlotId} (reason : CloseReason) (hhome : u.home = s.home)
    (hclock : u.clock = s.clock) (hconfig : u.config = s.config) (hctx : u.ctx i = s.ctx i) :
    (u.closeWithRecord i reason).ctx i = (s.closeWithRecord i reason).ctx i := by
  have hslot : u.slot i = s.slot i := slot_congr hhome i
  simp only [closeWithRecord_ctx, State.pricesOf, State.tally, hslot, hctx, hclock, hconfig]

/-- How far a round has come: of the slots that have had their turn, those with lines, in order, of which as many as the
journal had room for were recorded and the others are OWED. -/
structure State.RoundRun (s : State) (seen due : List SlotId) (u : State) : Prop where
  same : u.home = s.home ∧ u.clock = s.clock ∧ u.config = s.config
  subset : ∀ i ∈ due, i ∈ seen
  journal : u.journal = s.journal.takeAll ((due.take (512 - s.journal.held)).map (s.recordOf · .interval))
  quiet : s.journal.nearFull = true ∨ 448 ≤ s.journal.held
    ∨ s.journal.held + (due.take (512 - s.journal.held)).length < 448 → u.link = s.link
  raised : s.journal.nearFull = false → s.journal.held < 448 →
    448 ≤ s.journal.held + (due.take (512 - s.journal.held)).length →
    s.Raised u .journalNearFull (be 2 448 ++ be 4 s.journal.oldest.toNat)
  taken : ∀ i ∈ due.take (512 - s.journal.held), u.ctx i = (s.closeWithRecord i .interval).ctx i
  dropped : ∀ i ∈ due.drop (512 - s.journal.held), u.ctx i = (s.owe i .owed).ctx i
  unseen : ∀ i, i ∉ seen → u.ctx i = s.ctx i ∧ u.spill i = s.spill i
  state : ∀ i, i ∉ due.drop (512 - s.journal.held) → (u.ctx i).state = (s.ctx i).state

namespace State.RoundRun

variable {s u : State} {seen due : List SlotId} {i : SlotId}

theorem start (s : State) : s.RoundRun [] [] s where
  same := ⟨rfl, rfl, rfl⟩
  subset := fun _ h => h
  journal := by rw [List.take_nil]; rfl
  quiet := fun _ => rfl
  raised := fun _ hlow hhigh => by
    rw [List.take_nil, List.length_nil] at hhigh
    omega
  taken := fun _ h => by
    rw [List.take_nil] at h
    exact absurd h List.not_mem_nil
  dropped := fun _ h => by
    rw [List.drop_nil] at h
    exact absurd h List.not_mem_nil
  unseen := fun _ _ => ⟨rfl, rfl⟩
  state := fun _ _ => rfl

section
variable (h : s.RoundRun seen due u) (hi : i ∉ seen)
include h

/-- The held count so far. -/
theorem held : u.journal.held = s.journal.held + (due.take (512 - s.journal.held)).length := by
  rw [h.journal, Journal.takeAll_held, List.length_map]
  rw [List.length_map, List.length_take]
  by_cases hroom : s.journal.held ≤ 512
  · exact .inl (by omega)
  · refine .inr ?_
    rw [Nat.sub_eq_zero_of_le (by omega), List.take_zero]
    rfl

/-- There is an entry at once while the journal has room for all that were due so far. -/
theorem entryAtOnce_iff (hnone : ∀ j, (s.ctx j).state ≠ .owed ∧ (s.ctx j).state ≠ .finalOwed) :
    u.entryAtOnce = true ↔ due.length < 512 - s.journal.held := by
  rw [Sys2Proof.Machine.entryAtOnce_iff, h.held, List.length_take]
  refine ⟨fun hentry => by omega, fun hroom => ⟨by omega, fun j => ?_⟩⟩
  rw [h.state j (by rw [List.drop_eq_nil_of_le (by omega)]; exact List.not_mem_nil)]
  exact hnone j

include hi

theorem not_due : i ∉ due := fun hdue => hi (h.subset i hdue)

theorem ctx_eq : u.ctx i = s.ctx i := (h.unseen i hi).1

/-- A turn that writes the context of its slot only, and with no line, does not count. -/
theorem idle {f : Context → Context} (hf : ∀ c, (f c).state = c.state) :
    s.RoundRun (seen ++ [i]) due (u.modCtx i f) := by
  have hnot := h.not_due hi
  have hother : ∀ j, j ∈ due → (u.modCtx i f).ctx j = u.ctx j := fun j hj => by
    rw [State.modCtx_ctx, if_neg fun hji : j = i => hnot (hji ▸ hj)]
  exact {
    same := h.same
    subset := fun j hj => List.mem_append_left _ (h.subset j hj)
    journal := h.journal
    quiet := h.quiet
    raised := fun hclear hlow hhigh => (h.raised hclear hlow hhigh).congr_right rfl
    taken := fun j hj => (hother j (List.mem_of_mem_take hj)).trans (h.taken j hj)
    dropped := fun j hj => (hother j (List.mem_of_mem_drop hj)).trans (h.dropped j hj)
    unseen := fun j hj => by
      obtain ⟨hseen, hji⟩ := not_or.mp (mt List.mem_append.mpr hj)
      rw [State.modCtx_ctx, if_neg fun h : j = i => hji (List.mem_singleton.mpr h)]
      exact h.unseen j hseen
    state := fun j hj => by
      rw [State.modCtx_ctx]
      split
      · rw [hf]
        exact h.state j hj
      · exact h.state j hj }

/-- A turn that records its slot. -/
theorem recorded (hroom : due.length < 512 - s.journal.held) :
    s.RoundRun (seen ++ [i]) (due ++ [i]) (u.closeWithRecord i .interval) := by
  obtain ⟨hhome, hclock, hconfig⟩ := h.same
  have hnot := h.not_due hi
  have hheld := h.held
  have htake : due.take (512 - s.journal.held) = due := List.take_of_length_le (by omega)
  have htake' : (due ++ [i]).take (512 - s.journal.held) = due ++ [i] :=
    List.take_of_length_le (by rw [List.length_append, List.length_singleton]; omega)
  have hdrop : due.drop (512 - s.journal.held) = [] := List.drop_eq_nil_of_le (by omega)
  have hdrop' : (due ++ [i]).drop (512 - s.journal.held) = [] :=
    List.drop_eq_nil_of_le (by rw [List.length_append, List.length_singleton]; omega)
  have hlength : (due ++ [i]).length = due.length + 1 := by simp
  have honly := (State.OnContext.refl i u).closeWithRecord .interval
  have hctx := h.ctx_eq hi
  have hnear : u.journal.nearFull = true ↔ s.journal.nearFull = true
      ∨ (s.journal.held < 448 ∧ 448 ≤ s.journal.held + due.length) := by
    rw [h.journal, Journal.takeAll_nearFull _ _ (.inl (by rw [List.length_map, htake]; omega)), List.length_map, htake]
    simp
  rw [htake] at hheld
  have hquiet := h.quiet
  have hraised := h.raised
  rw [htake] at hquiet hraised
  refine ⟨by simp [hhome, hclock, hconfig], fun j hj => ?_, ?_, fun hcase => ?_, fun hclear hlow hhigh => ?_,
    fun j hj => ?_, fun j hj => ?_, fun j hj => ?_, fun j _ => ?_⟩
  · exact (List.mem_append.mp hj).elim (fun hj => List.mem_append_left _ (h.subset j hj)) (List.mem_append_right _)
  · rw [closeWithRecord_journal i .interval (by omega), htake', List.map_append, List.map_singleton, Journal.takeAll_concat,
      recordOf_congr .interval hhome hclock hconfig hctx, h.journal, htake]
  · rw [htake', hlength] at hcase
    have hlower : s.journal.nearFull = true ∨ 448 ≤ s.journal.held ∨ s.journal.held + due.length < 448 :=
      hcase.imp_right (Or.imp_right (by omega))
    have hpassed : u.journal.held ≠ 447 ∨ u.journal.nearFull = true := by
      rw [hnear, hheld]
      rcases hcase with hcase | hcase
      · exact .inr (.inl hcase)
      · exact .inl (by omega)
    rw [closeWithRecord_link i .interval hpassed, hquiet hlower]
  · rw [htake', hlength] at hhigh
    rcases Nat.lt_or_ge (s.journal.held + due.length) 448 with hbelow | habove
    · have hclear' : u.journal.nearFull = false := by
        rw [← Bool.not_eq_true, hnear, hclear]
        simp only [Bool.false_eq_true, false_or]
        omega
      have holdest : u.journal.oldest = s.journal.oldest := by rw [h.journal, (Journal.takeAll_kept ..).1]
      have hafter := closeWithRecord_raised (s := u) i .interval (by omega) hclear'
      rw [holdest] at hafter
      exact hafter.of_congr (hquiet (.inr (.inr hbelow))) (by rw [hclock]) (by rw [hclock]) (by rw [hclock]) hconfig
    · refine (hraised hclear hlow habove).congr_right (closeWithRecord_link i .interval (.inr (hnear.mpr (.inr ⟨hlow, habove⟩))))
  · rw [htake'] at hj
    rcases List.mem_append.mp hj with hj | hj
    · rw [honly.ctx j fun hji => hnot (hji ▸ hj)]
      exact h.taken j (by rwa [htake])
    · rw [List.mem_singleton.mp hj]
      exact closeWithRecord_ctx_congr .interval hhome hclock hconfig hctx
  · rw [hdrop'] at hj
    exact absurd hj List.not_mem_nil
  · obtain ⟨hseen, hji⟩ := not_or.mp (mt List.mem_append.mpr hj)
    have hne : j ≠ i := fun h => hji (List.mem_singleton.mpr h)
    rw [honly.ctx j hne, honly.spill j hne]
    exact h.unseen j hseen
  · have hstate := h.state j (by rw [hdrop]; exact List.not_mem_nil)
    by_cases hji : j = i
    · subst hji
      rw [(closeWithRecord_kept ..).1, hstate]
    · rw [honly.ctx j hji, hstate]

/-- A turn whose close waits. -/
theorem owed (hfull : 512 - s.journal.held ≤ due.length) : s.RoundRun (seen ++ [i]) (due ++ [i]) (u.owe i .owed) := by
  obtain ⟨hhome, hclock, hconfig⟩ := h.same
  have hnot := h.not_due hi
  have htake : (due ++ [i]).take (512 - s.journal.held) = due.take (512 - s.journal.held) :=
    List.take_append_of_le_length hfull
  have hdrop : (due ++ [i]).drop (512 - s.journal.held) = due.drop (512 - s.journal.held) ++ [i] :=
    List.drop_append_of_le_length hfull
  have honly := (State.OnContext.refl i u).owe .owed
  refine ⟨h.same, fun j hj => ?_, ?_, fun hcase => ?_, fun hclear hlow hhigh => ?_, fun j hj => ?_, fun j hj => ?_,
    fun j hj => ?_, fun j hj => ?_⟩
  · exact (List.mem_append.mp hj).elim (fun hj => List.mem_append_left _ (h.subset j hj)) (List.mem_append_right _)
  · rw [htake]
    exact h.journal
  · rw [htake] at hcase
    exact h.quiet hcase
  · rw [htake] at hhigh
    exact (h.raised hclear hlow hhigh).congr_right rfl
  · rw [htake] at hj
    rw [honly.ctx j fun hji => hnot (hji ▸ List.mem_of_mem_take hj)]
    exact h.taken j hj
  · rw [hdrop] at hj
    rcases List.mem_append.mp hj with hj | hj
    · rw [honly.ctx j fun hji => hnot (hji ▸ List.mem_of_mem_drop hj)]
      exact h.dropped j hj
    · rw [List.mem_singleton.mp hj, owe_ctx, owe_ctx, h.ctx_eq hi]
  · obtain ⟨hseen, hji⟩ := not_or.mp (mt List.mem_append.mpr hj)
    have hne : j ≠ i := fun h => hji (List.mem_singleton.mpr h)
    rw [honly.ctx j hne, honly.spill j hne]
    exact h.unseen j hseen
  · rw [hdrop] at hj
    obtain ⟨hj, hji⟩ := not_or.mp (mt List.mem_append.mpr hj)
    rw [honly.ctx j fun h => hji (List.mem_singleton.mpr h)]
    exact h.state j hj

end

/-- The turn of a quiet OPEN slot. -/
theorem turn (h : s.RoundRun seen due u) (hi : i ∉ seen)
    (hnone : ∀ j, (s.ctx j).state ≠ .owed ∧ (s.ctx j).state ≠ .finalOwed) (hopen : (s.ctx i).state = .opened)
    (hspill : s.spill i = ByteCounts.zero) (hsound : s.Sound i) :
    s.RoundRun (seen ++ [i]) (due ++ [i].filter s.hasLines) (u.intervalClose i) := by
  obtain ⟨hctx, hspills⟩ := h.unseen i hi
  have hquiet := readForClose_of_quiet (s := u) (i := i) (by rw [hspills, hspill]) (sound_congr hctx hsound)
  have hopen' : (u.ctx i).state = .opened := by rw [hctx, hopen]
  have hlines' : (u.readForClose i).hasLines i = s.hasLines i := by rw [hquiet, hasLines_congr hctx]
  have hentry := h.entryAtOnce_iff hnone
  cases hlines : s.hasLines i with
  | false =>
    rw [intervalClose_idle hopen' (hlines'.trans hlines), hquiet, List.filter_cons_of_neg (by simp [hlines]), List.filter_nil,
      List.append_nil]
    exact h.idle hi fun _ => rfl
  | true =>
    rw [List.filter_cons_of_pos (by simp [hlines]), List.filter_nil]
    cases hroom : u.entryAtOnce with
    | true =>
      rw [intervalClose_recorded hopen' (hlines'.trans hlines) (by rw [hquiet, hroom]), hquiet]
      exact h.recorded hi (hentry.mp hroom)
    | false =>
      rw [intervalClose_owed hopen' (hlines'.trans hlines) (by rw [hquiet, hroom]), hquiet]
      exact h.owed hi (Nat.not_lt.mp fun hlt => by rw [hentry.mpr hlt] at hroom; cases hroom)

/-- The turns of distinct quiet OPEN slots. -/
theorem turns (hnone : ∀ j, (s.ctx j).state ≠ .owed ∧ (s.ctx j).state ≠ .finalOwed) (l : List SlotId) (hnodup : l.Nodup)
    (hquiet : ∀ i ∈ l, (s.ctx i).state = .opened ∧ s.spill i = ByteCounts.zero ∧ s.Sound i) :
    s.RoundRun l (l.filter s.hasLines) (l.foldl State.intervalClose s) := by
  induction l using List.reverseRecOn with
  | nil => exact start s
  | append_singleton l i ih =>
    obtain ⟨hl, -, hdisjoint⟩ := List.nodup_append.mp hnodup
    obtain ⟨hopen, hspill, hsound⟩ := hquiet i (List.mem_append_right _ (List.mem_singleton_self i))
    rw [List.foldl_concat, List.filter_append]
    exact (ih hl fun j hj => hquiet j (List.mem_append_left _ hj)).turn
      (fun h => hdisjoint i h i (List.mem_singleton_self i) rfl) hnone hopen hspill hsound

end State.RoundRun

/-- A round over quiet OPEN slots with no close owed. -/
theorem intervalTurns_run {s : State} (hnone : ∀ j, (s.ctx j).state ≠ .owed ∧ (s.ctx j).state ≠ .finalOwed)
    (hquiet : ∀ i, (s.ctx i).state = .opened → s.spill i = ByteCounts.zero ∧ s.Sound i) {due : List SlotId}
    (hsorted : due.Pairwise (· < ·)) (hdue : ∀ i, i ∈ due ↔ (s.ctx i).state = .opened ∧ s.hasLines i = true) :
    ∃ seen, s.RoundRun seen due s.intervalTurns := by
  have horder : (allSlots.filter fun i => (s.ctx i).state == .opened).Pairwise (· < ·) :=
    (List.pairwise_lt_finRange 128).filter _
  have hrun := State.RoundRun.turns hnone (allSlots.filter fun i => (s.ctx i).state == .opened)
    ((List.nodup_finRange 128).filter _) fun i hi => by
      have hopen : (s.ctx i).state = .opened := by simpa [mem_allSlots] using hi
      exact ⟨hopen, hquiet i hopen⟩
  have hlist : (allSlots.filter fun i => (s.ctx i).state == .opened).filter s.hasLines = due := by
    refine List.Perm.eq_of_pairwise' (horder.filter _) hsorted
      ((List.perm_ext_iff_of_nodup ((horder.filter _).imp ne_of_lt) (hsorted.imp ne_of_lt)).mpr fun i => ?_)
    rw [hdue]
    simp [mem_allSlots, and_comm]
  rw [hlist] at hrun
  exact ⟨_, hrun⟩

end Sys2Proof.Machine
end

section
/-! PROOFS. The interval round (O39; R128 to R130, R140, R141). -/

namespace Sys2Proof.Machine

-- One thread elaborates this section: the text as a whole is near the memory limit of the check.
set_option Elab.async false

/-! ### The records of a round -/

section
variable (j : Journal) (rs : List UsageRecord)

theorem entries_slot : (j.entries rs).map (·.slot) = rs.map (·.slot) := by
  refine List.ext_getElem? fun k => ?_
  unfold Journal.entries
  simp only [List.getElem?_map, List.getElem?_mapIdx, Option.map_map]
  rfl

theorem entries_get {k : Nat} {r : UsageRecord} (h : (j.entries rs)[k]? = some r) :
    ∃ q ∈ rs, r = { q with seq := j.append + BitVec.ofNat 32 k, runMark := j.runMark } := by
  unfold Journal.entries at h
  rw [List.getElem?_mapIdx] at h
  obtain ⟨q, hq, hr⟩ := Option.map_eq_some_iff.mp h
  exact ⟨q, List.mem_of_getElem? hq, hr.symm⟩

end

namespace State.RoundRun

variable {s t : State} {seen due : List SlotId} (h : s.RoundRun seen due t)
include h

/-- The records of a round: one for each slot taken, in order. -/
theorem records : ∃ rs, t.journal.records = s.journal.records ++ rs
    ∧ rs.map (·.slot) = due.take (512 - s.journal.held)
    ∧ ∀ (k : Nat) (r : UsageRecord), rs[k]? = some r →
      r.seq = s.journal.append + BitVec.ofNat 32 k ∧ r.runMark = s.journal.runMark ∧ r.reason = .interval
        ∧ r.gen = (s.slot r.slot).gen ∧ r.start = (s.ctx r.slot).periodStart
        ∧ (t.ctx r.slot).periodStart = r.stop := by
  refine ⟨_, by rw [h.journal]; exact Journal.takeAll_records .., ?_, fun k r hr => ?_⟩
  · rw [entries_slot, List.map_map]
    exact List.map_id _
  · obtain ⟨q, hq, hrq⟩ := entries_get _ _ hr
    obtain ⟨i, hi, hqi⟩ := List.mem_map.mp hq
    subst hrq hqi
    refine ⟨rfl, rfl, rfl, rfl, rfl, ?_⟩
    show (t.ctx i).periodStart = _
    rw [h.taken i hi]
    exact (closeWithRecord_kept s i .interval).2.1

/-- Every slot taken stays OPEN with nothing counted. -/
theorem taken_open (hopen : ∀ i ∈ due, (s.ctx i).state = .opened) (i : SlotId)
    (hi : i ∈ due.take (512 - s.journal.held)) :
    (t.ctx i).state = .opened ∧ ∀ k, (t.tally i k).counts = ByteCounts.zero := by
  obtain ⟨hstate, -, -, hzero⟩ := closeWithRecord_kept s i .interval
  have hctx := h.taken i hi
  refine ⟨by rw [hctx, hstate, hopen i (List.mem_of_mem_take hi)], fun k => ?_⟩
  have hk := hzero k
  unfold State.tally at hk ⊢
  rwa [hctx]

end State.RoundRun

/-- Settles O39: an interval round. -/
theorem intervalRoundRuns : Obligations.IntervalRoundRuns := by
  unfold Obligations.IntervalRoundRuns
  refine fun s b hb => ⟨execIntervalRound_early hb, fun hdue => ?_⟩
  intro step held quiet lines owed noneOwed
  have hlines : ∀ i, lines i ↔ (s.ctx i).state = .opened ∧ s.hasLines i = true := fun i =>
    and_congr_right fun _ => (hasLines_iff s i).symm
  have hstate := intervalTurns_state s
  obtain ⟨hqueue, holdest, hpublish⟩ := intervalTurns_kept s
  have hblocked : 512 ≤ held ∨ ¬ noneOwed → s.entryAtOnce = false := fun h => by
    rw [← Bool.not_eq_true, entryAtOnce_iff]
    exact fun hentry => h.elim (Nat.not_le.mpr hentry.1) fun hnot => hnot hentry.2
  have hexec := execIntervalRound_due hb hdue
  have hother := fun i => intervalTurns_other (s := s) (i := i)
  have hidle := fun i => intervalTurns_idle (s := s) (i := i)
  have howed := fun i => intervalTurns_blocked (s := s) (i := i)
  have hrun := fun hnone hquiet due => intervalTurns_run (s := s) (due := due) hnone hquiet
  generalize s.intervalTurns = u at *
  generalize ht : (u.modMeter fun m => { m with nextBoundary := some (boundaryAfter s.config s.clock.time) }) = t at hexec
  have hctx : ∀ i, t.ctx i = u.ctx i := fun i => by rw [← ht]; rfl
  have htally : ∀ i k, t.tally i k = u.tally i k := fun i k => by rw [← ht]; rfl
  have hjournal : t.journal = u.journal := by rw [← ht]; rfl
  have hlink : t.link = u.link := by rw [← ht]; rfl
  refine ⟨t, hexec, by rw [← ht]; rfl, ?_, by rw [← ht]; exact hqueue, by rw [hjournal, holdest], by rw [hjournal, hpublish],
    fun i h => by rw [hctx, hother i h], fun i hopen hq hnot => ?_, fun h => ⟨?_, fun i hl hq => ?_⟩,
    fun hnone hquiet due hsorted hmem => ?_⟩
  · rw [← ht]
    unfold State.modMeter
    rw [hstate]
  · rw [hctx, hidle i hopen hq.1 hq.2 (Bool.eq_false_iff.mpr fun h => hnot ((hlines i).mpr ⟨hopen, h⟩))]
  · rw [hjournal]
    exact (howed 0 (hblocked h)).1
  · obtain ⟨hopen, hline⟩ := (hlines i).mp hl
    rw [hctx, (howed i (hblocked h)).2 hopen hline hq.1 hq.2]
  · intro taken
    obtain ⟨seen, hround⟩ := hrun hnone hquiet due hsorted fun i => (hmem i).trans (hlines i)
    have hopen : ∀ i ∈ due, (s.ctx i).state = .opened := fun i hi => ((hmem i).mp hi).1
    have htook : taken = due.take (512 - s.journal.held) := rfl
    have hheldIs : held = s.journal.held := rfl
    clear_value taken held
    subst htook hheldIs
    have hnear : u.journal.nearFull = (s.journal.nearFull
        || decide (s.journal.held < 448 ∧ 448 ≤ s.journal.held + (due.take (512 - s.journal.held)).length)) := by
      have hlength := List.length_take (i := 512 - s.journal.held) (l := due)
      rw [hround.journal, Journal.takeAll_nearFull, List.length_map]
      rw [List.length_map, List.map_eq_nil_iff, ← List.length_eq_zero_iff]
      omega
    have hrecords := hround.records
    simp only [hjournal, hctx, htally, hlink]
    refine ⟨?_, hrecords, fun i hi => hround.taken_open hopen i hi, fun i hi => (hround.dropped i hi).trans (owe_ctx ..),
      fun hclear hlow hhigh => ⟨?_, (hround.raised hclear hlow hhigh).congr_right hlink⟩, fun hcase => ⟨?_, hround.quiet hcase⟩⟩
    · rw [hround.journal, Journal.takeAll_append, List.length_map]
    · rw [hnear, decide_eq_true ⟨hlow, hhigh⟩, Bool.or_true]
    · rw [hnear]
      rcases hcase with hmark | hcase
      · rw [hmark, Bool.true_or]
      · rw [decide_eq_false (by omega), Bool.or_false]

end Sys2Proof.Machine
end

section
/-! PROOFS. PROVISION of a held serial with another profile (O31; R42, R54, R131). -/

namespace Sys2Proof.Machine

-- One thread elaborates this section: the text as a whole is near the memory limit of the check.
set_option Elab.async false

/-! ### REPLY frames stay where they are when an alert is raised (R159) -/

theorem sendAlert_backReplies (l : Link) {m : Message} (husage : m.isUsage = false) :
    (l.sendAlert m).backReplies = l.backReplies := by
  rcases Nat.lt_or_ge l.queue.length Config.queueFrames with hroom | hfull
  · rw [sendAlert_of_room husage hroom]
  · rw [sendAlert_of_full hfull]
    rfl

theorem raise_backReplies (s : State) (k : AlertKind) (details : List Byte) :
    (s.raise k details).link.backReplies = s.link.backReplies := by
  rw [raise_link]
  split
  · exact sendAlert_backReplies _ rfl
  · rfl

section
variable (s : State) (i : SlotId)

theorem checkTally_backReplies (b : Band) : (s.checkTally i b).link.backReplies = s.link.backReplies := by
  rcases hupset : (s.tally i b).upset with _ | _ | _
  · rw [checkTally_of_none hupset]
  · rw [checkTally_of_single hupset]
    rfl
  · rw [checkTally_of_double hupset, raise_backReplies]
    rfl

theorem readForClose_backReplies : (s.readForClose i).link.backReplies = s.link.backReplies := by
  have hfold : (s.fold i).link.backReplies = s.link.backReplies := by
    unfold State.fold State.credit
    split
    · rfl
    · exact checkTally_backReplies s i _
  unfold State.readForClose State.checkTallies
  rw [← hfold]
  exact foldl_keeps (·.link.backReplies) (fun s b => s.checkTally i b) (fun u b => checkTally_backReplies u i b) _ _

theorem closeWithRecord_backReplies (reason : CloseReason) :
    (s.closeWithRecord i reason).link.backReplies = s.link.backReplies := by
  unfold State.closeWithRecord State.appendRecord
  split
  · dsimp only
    split
    · exact raise_backReplies ..
    · rfl
  · rfl

end

/-! ### A profile close (R131) -/

section
variable {s : State} {i : SlotId}

theorem profileClose_nothing (h : (s.ctx i).state = .none ∨ (s.ctx i).state = .draining ∨ (s.ctx i).state = .finalOwed) :
    s.profileClose i (s.slot i).gen = (s, true) := by
  unfold State.profileClose
  rw [if_pos rfl]
  rcases h with h | h | h <;> rw [h]

theorem profileClose_refused
    (h : (s.ctx i).state = .owed ∨ ((s.ctx i).state = .opened ∧ s.anyOwed = true)) :
    s.profileClose i (s.slot i).gen = (s, false) := by
  unfold State.profileClose
  rw [if_pos rfl]
  rcases h with h | ⟨h, howed⟩ <;> rw [h]
  exact if_pos howed

theorem profileClose_opened (h : (s.ctx i).state = .opened) (hnone : s.anyOwed = false) :
    s.profileClose i (s.slot i).gen =
      if (s.readForClose i).hasLines i then
        if (s.readForClose i).journal.hasFree then ((s.readForClose i).closeWithRecord i .profile, true)
        else (s.readForClose i, false)
      else ((s.readForClose i).restartPeriod i, true) := by
  unfold State.profileClose
  rw [if_pos rfl, h, hnone]
  dsimp only
  rw [if_neg Bool.false_ne_true, show (s.fold i).checkTallies i = s.readForClose i from rfl, lineBands_isEmpty]
  generalize s.readForClose i = v
  cases v.hasLines i with
  | false => rfl
  | true => rw [if_neg (by decide), if_pos rfl]

theorem restartPeriod_onContext (s : State) (i : SlotId) : s.OnContext i (s.restartPeriod i) :=
  (State.OnContext.refl i s).modCtx _

theorem profileClose_backReplies (s : State) (i : SlotId) :
    (s.profileClose i (s.slot i).gen).1.link.backReplies = s.link.backReplies := by
  by_cases hopen : (s.ctx i).state = .opened
  · cases howed : s.anyOwed with
    | true => rw [profileClose_refused (.inr ⟨hopen, howed⟩)]
    | false =>
      have hread := readForClose_backReplies s i
      rw [profileClose_opened hopen howed]
      generalize s.readForClose i = u at *
      split
      · split
        · exact (closeWithRecord_backReplies u i .profile).trans hread
        · exact hread
      · exact hread
  · by_cases howed : (s.ctx i).state = .owed
    · rw [profileClose_refused (.inl howed)]
    · rw [profileClose_nothing]
      cases hstate : (s.ctx i).state <;> simp_all

theorem anyOwed_eq_false (h : ∀ j, (s.ctx j).state ≠ .owed ∧ (s.ctx j).state ≠ .finalOwed) : s.anyOwed = false := by
  rw [← Bool.not_eq_true, anyOwed_iff]
  exact fun ⟨j, hj⟩ => hj.elim (h j).1 (h j).2

end

/-! ### PROVISION of a held serial (R42) -/

section
variable {s : State} {c : RxCommand} {i : SlotId} {o e : ProvisionEntry}

theorem provisionKnown_held (hholder : s.holder e.serial = some i) (hstate : (s.slot i).state ≠ .closing)
    (hprofile : o.profile ≠ e.profile) : s.provisionKnown c o e = s.changeHeld c i e := by
  unfold State.provisionKnown
  rw [hholder]
  exact if_neg (not_or.mpr ⟨hstate, hprofile⟩)

theorem changeHeld_atOnce (h : (s.slot i).tariff = some (s.profileOf e.profile).tariff) :
    s.changeHeld c i e = ((s.writeEntry e).changeProfile i e.profile).answerCode c .done :=
  if_neg fun hasks => hasks.2 h

/-- The request for a profile close that a command leads to, with the answer it got. -/
def ProfileClose.asked (c : RxCommand) (e : ProvisionEntry) (i : SlotId) (g : Gen) (closed : Bool) : ProfileClose :=
  { command := c, serial := e.serial, profile := e.profile, tag := e.tag, slot := i, gen := g, closed := closed }

theorem changeHeld_asks (h : (s.slot i).tariff ≠ some (s.profileOf e.profile).tariff) (henrolled : (s.slot i).enrolled = true) :
    s.changeHeld c i e = (s.profileClose i (s.slot i).gen).1.modEnrol fun k =>
      { k with closes := k.closes ++ [.asked c e i (s.slot i).gen (s.profileClose i (s.slot i).gen).2] } :=
  if_pos ⟨henrolled, h⟩

end

/-- What a profile close does with the meter, the journal and the transmit queue, and the answer it gives. -/
theorem profileClose_outcomes (s : State) (i : SlotId) :
    let t := (s.profileClose i (s.slot i).gen).1
    let closed := (s.profileClose i (s.slot i).gen).2
    let quiet := s.spill i = ByteCounts.zero ∧ s.Sound i
    let noneOwed := ∀ j, (s.ctx j).state ≠ .owed ∧ (s.ctx j).state ≠ .finalOwed
    ((s.ctx i).state = .owed ∨ ((s.ctx i).state = .opened ∧ ¬ noneOwed)
        ∨ ((s.ctx i).state = .opened ∧ quiet ∧ s.hasLines i = true ∧ 512 ≤ s.journal.held) →
      t = s ∧ closed = false)
      ∧ ((s.ctx i).state = .none ∨ (s.ctx i).state = .draining ∨ (s.ctx i).state = .finalOwed → t = s ∧ closed = true)
      ∧ ((s.ctx i).state = .opened → noneOwed → quiet → s.hasLines i = false → t = s.restartPeriod i ∧ closed = true)
      ∧ ((s.ctx i).state = .opened → noneOwed → quiet → s.hasLines i = true → s.journal.held < 512 →
        t = s.closeWithRecord i .profile ∧ closed = true) := by
  intro t closed quiet noneOwed
  have howed : ¬ noneOwed → s.anyOwed = true := fun hnot => by
    by_contra hno
    exact hnot fun j => ⟨fun h => hno ((anyOwed_iff s).mpr ⟨j, .inl h⟩), fun h => hno ((anyOwed_iff s).mpr ⟨j, .inr h⟩)⟩
  have hopened : (s.ctx i).state = .opened → noneOwed → quiet → s.profileClose i (s.slot i).gen =
      if s.hasLines i then
        if s.journal.hasFree then (s.closeWithRecord i .profile, true) else (s, false)
      else (s.restartPeriod i, true) := fun hopen hnone hquiet => by
    rw [profileClose_opened hopen (anyOwed_eq_false hnone), readForClose_of_quiet hquiet.1 hquiet.2]
  have hpair : ∀ p : State × Bool, s.profileClose i (s.slot i).gen = p → t = p.1 ∧ closed = p.2 := fun p hp =>
    ⟨congrArg Prod.fst hp, congrArg Prod.snd hp⟩
  refine ⟨fun h => ?_, fun h => hpair _ (profileClose_nothing h), fun hopen hnone hquiet hlines => ?_,
    fun hopen hnone hquiet hlines hroom => ?_⟩
  · by_cases hnone : noneOwed
    · rcases h with h | ⟨-, hnot⟩ | ⟨hopen, hquiet, hlines, hfull⟩
      · exact hpair _ (profileClose_refused (.inl h))
      · exact absurd hnone hnot
      · refine hpair (s, false) ((hopened hopen hnone hquiet).trans ?_)
        rw [if_pos hlines, if_neg fun hfree => absurd ((hasFree_iff _).mp hfree) (Nat.not_lt.mpr hfull)]
    · refine hpair _ (profileClose_refused ?_)
      rcases h with h | ⟨hopen, -⟩ | ⟨hopen, -⟩
      · exact .inl h
      · exact .inr ⟨hopen, howed hnone⟩
      · exact .inr ⟨hopen, howed hnone⟩
  · refine hpair (s.restartPeriod i, true) ((hopened hopen hnone hquiet).trans ?_)
    rw [hlines]
    rfl
  · refine hpair (s.closeWithRecord i .profile, true) ((hopened hopen hnone hquiet).trans ?_)
    rw [if_pos hlines, if_pos ((hasFree_iff _).mpr hroom)]

/-- Settles O31: PROVISION of a held serial with another profile. -/
theorem provisionChangesHeldSlot : Obligations.ProvisionChangesHeldSlot := by
  unfold Obligations.ProvisionChangesHeldSlot
  intro s c i o hd x profile tag hprofile htagLow htagHigh htag hcloses hentry hchange hholder hstate f a e
  have hgood : ¬ (s.modLink (·.without c)).badProvision c := by
    rintro (h | h | h | ⟨k, hk, hkt, hks⟩)
    · exact absurd hprofile (by omega)
    · exact absurd (h ▸ htagLow : 1 ≤ 0) (by decide)
    · exact absurd h (Nat.not_lt.mpr htagHigh)
    · exact hks (htag k hk hkt)
  have hexec : exec .provision s = .next ((s.modLink (·.without c)).changeHeld c i e) := by
    have hsome : (s.modLink (·.without c)).entryOf c.serial = some o := hentry
    rw [execProvision_taken hd, provisionBy_open (s := s.modLink (·.without c)) hgood hcloses hprofile, hsome]
    exact congrArg _ (provisionKnown_held hholder hstate fun h => hchange (congrArg Fin.val h))
  refine ⟨_, hexec, fun htariff => ?_, fun htariff henrolled => ?_⟩
  · rw [changeHeld_atOnce (s := s.modLink (·.without c)) (i := i) (e := e) htariff]
    have hself := changeProfile_slot_self ((s.modLink (·.without c)).writeEntry e) i e.profile
    have hother := fun j hj => changeProfile_slot_other (s := (s.modLink (·.without c)).writeEntry e) (i := i) (j := j)
      (p := e.profile) hj
    rw [changeProfile_state]
    refine ⟨hself.trans ?_, rfl, answerCode_answered (by rfl) c .done, rfl, fun hkept j hj => hother j hj hkept⟩
    exact congrArg (fun y => ({ s.slot i with
      profile := some ⟨profile, hprofile⟩, ceiling := f.ceiling, tariff := y, assured := a
      short := decide (a < f.assured) } : SlotRecord)) htariff.symm
  · intro held asked quiet lines noneOwed
    rw [changeHeld_asks (s := s.modLink (·.without c)) (i := i) (e := e) htariff henrolled]
    obtain ⟨hrefused, hnothing, hrestart, hrecord⟩ := profileClose_outcomes (s.modLink (·.without c)) i
    have hframe := State.profileClose_frame (s.modLink (·.without c)) i (s.slot i).gen
    have hback := profileClose_backReplies (s.modLink (·.without c)) i
    have hlines : (s.modLink (·.without c)).hasLines i = true ↔ lines := hasLines_iff _ i
    have hclosesNow : (s.modLink (·.without c)).enrol.closes = [] := hcloses
    rw [show ((s.modLink (·.without c)).slot i).gen = (s.slot i).gen from rfl] at *
    generalize ht : (s.modLink (·.without c)).profileClose i (s.slot i).gen = p at *
    obtain ⟨t, closed⟩ := p
    have hasked : (t.modEnrol fun k => { k with closes := k.closes ++ [.asked c e i (s.slot i).gen closed] }).enrol.closes =
        asked closed := by
      show t.enrol.closes ++ _ = _
      rw [hframe.2.2.1, hclosesNow]
      rfl
    refine ⟨hframe.2.1, ?_, hback, fun h => ?_, fun h => ?_, fun hopen hnone hquiet hnot => ?_,
      fun hopen hnone hquiet hline hroom => ?_⟩
    · show t.enrol.provision = _
      rw [hframe.2.2.1]
      rfl
    · obtain ⟨rfl, rfl⟩ := hrefused (h.imp_right (Or.imp_right fun ⟨hopen, hquiet, hline, hfull⟩ =>
        ⟨hopen, hquiet, hlines.mpr hline, hfull⟩))
      exact ⟨rfl, rfl, rfl, hasked⟩
    · obtain ⟨rfl, rfl⟩ := hnothing h
      exact ⟨rfl, rfl, rfl, hasked⟩
    · obtain ⟨rfl, rfl⟩ := hrestart hopen hnone hquiet (Bool.eq_false_iff.mpr fun h => hnot (hlines.mp h))
      exact ⟨restartPeriod_ctx (s.modLink (·.without c)) i,
        fun j hj => (restartPeriod_onContext (s.modLink (·.without c)) i).ctx j hj, rfl, hasked⟩
    · obtain ⟨rfl, rfl⟩ := hrecord hopen hnone hquiet (hlines.mpr hline) hroom
      have hjournal := closeWithRecord_journal (s := s.modLink (·.without c)) i .profile hroom
      obtain ⟨hopened, hstart, -, hzero⟩ := closeWithRecord_kept (s.modLink (·.without c)) i .profile
      refine ⟨hopened.trans hopen, hzero, hasked, ?_, s.journal.entry ((s.modLink (·.without c)).recordOf i .profile), ?_, rfl,
        rfl, rfl, rfl, hstart⟩
      · exact (congrArg Journal.append hjournal).trans rfl
      · exact (congrArg Journal.records hjournal).trans rfl

end Sys2Proof.Machine
end

section
/-! PROOFS. Collisions, frames sent and the backlog (O49; R143, R147, R156, R157, R159, R191). -/

namespace Sys2Proof.Machine

-- One thread elaborates this section: the text as a whole is near the memory limit of the check.
set_option Elab.async false

/-! ### The backlog offered when an entry is free (R159) -/

section
variable {l : Link}

theorem drainAlerts_of_full (ms : List Message) (h : 16 ≤ l.queue.length) :
    Link.drainAlerts ms l = { l with backAlerts := ms } := by
  cases ms with
  | nil => rfl
  | cons m ms =>
    unfold Link.drainAlerts
    rw [offer_of_full h]

theorem drainReplies_of_full (ms : List Message) (h : 16 ≤ l.queue.length) :
    Link.drainReplies ms l = { l with backReplies := ms } := by
  cases ms with
  | nil => rfl
  | cons m ms =>
    unfold Link.drainReplies
    rw [offer_of_full h]

/-- No REPLY of the backlog moves while the queue is full. -/
theorem drainBacklog_of_alertsDone {l' : Link} (h : Link.drainAlerts l.backAlerts l = l') (hfull : 16 ≤ l'.queue.length) :
    l.drainBacklog = l' := by
  unfold Link.drainBacklog
  dsimp only
  rw [h, drainReplies_of_full _ hfull]
  split <;> rfl

theorem drainBacklog_of_full (h : 16 ≤ l.queue.length) : l.drainBacklog = l :=
  drainBacklog_of_alertsDone (drainAlerts_of_full _ h) h

theorem drainBacklog_of_empty (halerts : l.backAlerts = []) (hreplies : l.backReplies = []) : l.drainBacklog = l := by
  obtain ⟨⟩ := l
  dsimp only at halerts hreplies
  subst halerts hreplies
  rfl

variable (h : l.queue.length = 15)
include h

/-- The one entry free goes to the oldest backlog ALERT. -/
theorem drainBacklog_alert {m : Message} {rest : List Message} (halerts : l.backAlerts = m :: rest)
    (husage : m.isUsage = false) : l.drainBacklog = { l with
      queue := l.queue ++ [{ message := m, attempts := 0, age := l.nextAge }]
      nextAge := l.nextAge + 1, backAlerts := rest } := by
  have hfull : 16 ≤ (l.queue ++ [({ message := m, attempts := 0, age := l.nextAge } : TxEntry)]).length := by simp [h]
  refine drainBacklog_of_alertsDone ?_ hfull
  rw [halerts, Link.drainAlerts, offer_of_room husage (by rw [h]; decide)]
  exact drainAlerts_of_full rest hfull

/-- Without a backlog ALERT it goes to the oldest REPLY, whose command is then no longer in flight. -/
theorem drainBacklog_reply {m : Message} {rest : List Message} (halerts : l.backAlerts = [])
    (hreplies : l.backReplies = m :: rest) (husage : m.isUsage = false) : l.drainBacklog = { l with
      queue := l.queue ++ [{ message := m, attempts := 0, age := l.nextAge }]
      nextAge := l.nextAge + 1, backReplies := rest, inFlight := l.inFlight - 1 } := by
  have hfull : 16 ≤ (l.queue ++ [({ message := m, attempts := 0, age := l.nextAge } : TxEntry)]).length := by simp [h]
  have hnone : Link.drainAlerts l.backAlerts l = l := by
    rw [halerts]
    exact congrArg (fun b => { l with backAlerts := b }) halerts.symm
  unfold Link.drainBacklog
  dsimp only
  rw [hnone, if_pos (by rw [halerts]; rfl), hreplies, Link.drainReplies, offer_of_room husage (by rw [h]; decide)]
  exact drainReplies_of_full rest hfull

end

/-! ### A frame gone from the queue (R157) -/

/-- The link with a frame out of the queue and the silence counted afresh. -/
def Link.released (l : Link) (e : TxEntry) : Link :=
  { l with queue := l.queue.filter fun k => k.age ≠ e.age, phase := .idle, rival := none, silence := 0 }

theorem reportFrame_kept (s : State) (m : Message) (o : SendReport) :
    (s.reportFrame m o).link = s.link ∧ (s.reportFrame m o).roster = s.roster := by
  cases m <;> exact ⟨rfl, rfl⟩

section
variable (s : State) (e : TxEntry) (o : SendReport)

theorem releaseFrame_eq : s.releaseFrame e o = (s.modLink (·.released e)).reportFrame e.message o := by
  have hfilter : (fun k : TxEntry => k.age != e.age) = fun k => decide (k.age ≠ e.age) := funext fun k =>
    Bool.eq_iff_iff.mpr (by simp)
  unfold State.releaseFrame Link.released
  rw [hfilter]

theorem releaseFrame_kept : (s.releaseFrame e o).link = s.link.released e ∧ (s.releaseFrame e o).roster = s.roster := by
  rw [releaseFrame_eq]
  exact reportFrame_kept (s.modLink (·.released e)) e.message o

variable {s e o}

theorem removeFrame_link (h : s.link.rival = none) : (s.removeFrame e o).link = (s.link.released e).drainBacklog := by
  unfold State.removeFrame
  dsimp only
  rw [h]
  exact congrArg Link.drainBacklog (releaseFrame_kept s e o).1

theorem removeFrame_quiet (h : s.link.rival = none) (halerts : s.link.backAlerts = []) (hreplies : s.link.backReplies = []) :
    s.removeFrame e o = (s.modLink (·.released e)).reportFrame e.message o := by
  have hlink := (releaseFrame_kept s e o).1
  unfold State.removeFrame
  dsimp only
  rw [h, ← releaseFrame_eq]
  generalize s.releaseFrame e o = t at *
  refine congrArg (fun l => { t with link := l }) (drainBacklog_of_empty ?_ ?_) <;> rw [hlink] <;> assumption

/-- The roster's offers come first and fill the queue: the backlog waits. -/
theorem removeFrame_rosterFirst {b : PendingBar} {rest : List PendingBar} (h : s.link.rival = some .roundStart)
    (hbars : s.roster.bars = b :: rest) (hleft : (s.link.released e).queue.length = 15) :
    (s.removeFrame e o).roster.bars = rest
      ∧ (s.removeFrame e o).link = (s.link.released e).takes [.bar b.serial b.reason b.time] := by
  obtain ⟨hlink, hroster⟩ := releaseFrame_kept s e o
  unfold State.removeFrame
  dsimp only
  rw [h]
  generalize s.releaseFrame e o = t at *
  have hroom : t.link.room = 1 := by
    unfold Link.room
    rw [hlink, hleft]
  have hoffered := offerRoster_spec t
  have hframe : t.rosterFrames.take t.link.room = [.bar b.serial b.reason b.time] := by
    unfold State.rosterFrames
    rw [hroom, hroster, hbars]
    rfl
  have hfull : 16 ≤ t.offerRoster.link.queue.length := by
    rw [hoffered.link, hframe, takes_length, hlink, hleft]
    exact le_refl 16
  have hbeacon : t.offerRoster.offerWaitingBeacon.link = t.offerRoster.link
      ∧ t.offerRoster.offerWaitingBeacon.roster = t.offerRoster.roster := by
    by_cases hwaiting : t.offerRoster.clock.beacon = .waiting
    · rw [offerWaitingBeacon_of_full hwaiting hfull]
      exact ⟨rfl, rfl⟩
    · rw [offerWaitingBeacon_of_idle hwaiting]
      exact ⟨rfl, rfl⟩
  obtain ⟨hsameLink, hsameRoster⟩ := hbeacon
  have hbarsLeft := hoffered.bars
  rw [hroom, hroster, hbars] at hbarsLeft
  refine ⟨(congrArg Roster.bars hsameRoster).trans hbarsLeft, ?_⟩
  show t.offerRoster.offerWaitingBeacon.link.drainBacklog = _
  rw [hsameLink, drainBacklog_of_full hfull, hoffered.link, hframe, hlink]

end

/-! ### The commands of the transmitter (R156, R157) -/

section
variable {s : State} {e : TxEntry} (hphase : s.link.phase = .sending e.age)
  (hentry : s.link.queue.find? (·.age == e.age) = some e)
include hphase hentry

theorem sendingEntry_of : s.link.sendingEntry = some e := by
  unfold Link.sendingEntry
  rw [hphase]
  exact hentry

theorem execFrameSent_of_sending : exec .frameSent s = .next (s.removeFrame e .sent) := by
  show execFrameSent s = _
  unfold execFrameSent
  rw [sendingEntry_of hphase hentry]

theorem execCollision_backsOff (h : e.attempts < 15) : exec .collision s = .next ((s.modLink Link.stopAndJam).modLink fun l =>
    { l with
      queue := l.queue.map fun k => if k.age = e.age then { k with attempts := e.attempts + 1 } else k
      phase := .backoff ((l.station.toNat + 1) * 16 * (e.attempts + 1)), rival := none }) := by
  show execCollision s = _
  unfold execCollision
  rw [sendingEntry_of hphase hentry]
  exact if_neg (by omega)

theorem execCollision_abandons (h : 15 ≤ e.attempts) : exec .collision s =
    .next (((s.modLink Link.stopAndJam).modLink (·.setFlag sendAbandonedBit)).removeFrame e .abandoned) := by
  show execCollision s = _
  unfold execCollision
  rw [sendingEntry_of hphase hentry]
  exact if_pos (by omega)

end

theorem reportFrame_abandoned (s : State) (m : Message) : s.reportFrame m .abandoned = { s with
    clock := { s.clock with beacon := if m.isTime then .none else s.clock.beacon }
    journal := { s.journal with inHand := if m.isUsage then none else s.journal.inHand } } := by
  cases m <;> rfl

theorem setFlag_sendAbandoned :
    (fun l : Link => l.setFlag sendAbandonedBit) = fun l => { l with flags := l.flags ||| 0x2000 } := rfl

theorem reportSent_eq (j : Journal) (q : Seq) : j.reportSent q =
    if q = j.publish then { j with
      inHand := none, publish := j.publish + 1, ackTimer := if j.publish = j.oldest then some 0 else j.ackTimer }
    else { j with inHand := none } := by
  have hsent : j.sent = 0 ↔ j.publish = j.oldest := by
    unfold Journal.sent
    bv_omega
  unfold Journal.reportSent
  dsimp only
  rw [show ({ j with inHand := none } : Journal).sent = j.sent from rfl]
  simp only [hsent]

/-- Settles O49: collisions, frames sent, and the backlog. -/
theorem framesLeaveTheQueue : Obligations.FramesLeaveTheQueue := by
  unfold Obligations.FramesLeaveTheQueue
  refine ⟨fun s e hphase hentry => ?_, fun s e hphase hentry => ?_⟩
  · intro wire cut
    refine ⟨fun h => execCollision_backsOff hphase hentry h, fun h hrival halerts hreplies => ?_⟩
    rw [execCollision_abandons hphase hentry h]
    have hquiet := removeFrame_quiet (s := (s.modLink Link.stopAndJam).modLink (·.setFlag sendAbandonedBit)) (e := e)
      (o := .abandoned) hrival halerts hreplies
    rw [hquiet, reportFrame_abandoned, setFlag_sendAbandoned]
    refine congrArg Host.Outcome.next (State.ext_blocks rfl rfl rfl rfl rfl rfl rfl rfl ?_ rfl rfl rfl rfl)
    show ({ s.link.stopAndJam with
      queue := _, phase := _, rival := none, silence := 0, flags := s.link.flags ||| 0x2000 } : Link) = _
    rw [← hrival]
    rfl
  · intro left link
    have hexec := execFrameSent_of_sending hphase hentry
    have hleft : left = (s.link.released e).queue := rfl
    refine ⟨fun hrival halerts hreplies => ?_, fun hroom => ⟨fun m rest hrival halerts husage => ?_,
      fun m rest hrival halerts hreplies husage => ?_, fun b rest hrival hbars => ?_⟩⟩
    · rw [hexec, removeFrame_quiet hrival halerts hreplies]
      refine ⟨fun r hr => ⟨fun hseq => ?_, fun hseq => ?_⟩, fun st hst => ?_, fun husage htime => ?_⟩
      · rw [hr]
        show Host.Outcome.next { s.modLink (·.released e) with journal := s.journal.reportSent r.seq } = _
        rw [reportSent_eq, if_pos hseq]
        rfl
      · rw [hr]
        show Host.Outcome.next { s.modLink (·.released e) with journal := s.journal.reportSent r.seq } = _
        rw [reportSent_eq, if_neg hseq]
        rfl
      · rw [hst]
        rfl
      · cases hm : e.message with
        | usage r =>
          rw [hm] at husage
          cases husage
        | time st => exact absurd hm (htime st)
        | _ => rfl
    · exact ⟨_, hexec, (removeFrame_link hrival).trans (drainBacklog_alert (l := s.link.released e) hroom halerts husage)⟩
    · exact ⟨_, hexec, (removeFrame_link hrival).trans
        (drainBacklog_reply (l := s.link.released e) hroom halerts hreplies husage)⟩
    · obtain ⟨hrest, hlink⟩ := removeFrame_rosterFirst (o := .sent) hrival hbars (hleft ▸ hroom)
      exact ⟨_, hexec, hrest, hlink⟩

end Sys2Proof.Machine
end

section
/-! PROOFS. The manager's turns on TREE_RESTART: what closing and freeing slots keep (for O50; R31, R32, R37, R113). -/

namespace Sys2Proof.Machine

-- One thread elaborates this section: the text as a whole is near the memory limit of the check.
set_option Elab.async false

/-! ### Members of the search (R113) -/

theorem isMember_congr {w v : Watch} {i : SlotId} (h : v.locate = w.locate) : v.isMember i = w.isMember i := by
  unfold Watch.isMember
  rw [h]

theorem isMember_iff (w : Watch) (i : SlotId) : w.isMember i = true ↔ ∃ l, w.locate = some l ∧ ∃ c ∈ l.cands, c.1 = i := by
  unfold Watch.isMember
  cases w.locate with
  | none => simp
  | some l => simp

theorem isMember_settleCheck (w : Watch) (i : SlotId) : w.settleCheck.isMember i = w.isMember i := by
  unfold Watch.settleCheck
  cases hlocate : w.locate with
  | none => rfl
  | some l =>
    dsimp only
    split
    · unfold Watch.isMember
      rw [hlocate]
    · rfl

/-- A member that leaves the search leaves the others in it. -/
theorem isMember_dropMember (w : Watch) {i j : SlotId} (hj : j ≠ i) : (w.dropMember i).isMember j = w.isMember j := by
  unfold Watch.dropMember
  cases hlocate : w.locate with
  | none => rfl
  | some l =>
    dsimp only
    rw [isMember_settleCheck]
    unfold Watch.isMember
    rw [hlocate]
    dsimp only
    rw [List.any_filter]
    refine List.any_congr rfl fun c => ?_
    by_cases hc : c.1 = j
    · simp [hc, hj]
    · simp [hc]

section
variable (s : State) (i : SlotId) (f : SlotRecord → SlotRecord) {j : SlotId} (hj : j ≠ i)
include hj

theorem enter_isMember_other : (s.enter i f).watch.isMember j = s.watch.isMember j := by
  have hdrop : ∀ u : State, u.watch.locate = s.watch.locate → (u.dropMember i).watch.isMember j = s.watch.isMember j := by
    intro u hu
    unfold State.dropMember
    split
    · exact (isMember_dropMember u.watch hj).trans (isMember_congr hu)
    · exact isMember_congr hu
  rw [enter_watch_stage]
  unfold State.watchOnSlot
  cases (f (s.slot i)).state with
  | free => exact hdrop _ rfl
  | barred => exact hdrop _ rfl
  | closing => exact hdrop _ rfl
  | _ => rfl

theorem enter_hushed_other : ((s.enter i f).slot j).hushed = (s.slot j).hushed := by
  have htopUp : ∀ u : State, (u.topUp.slot j).hushed = (u.slot j).hushed := fun u =>
    foldl_keeps (fun u : State => (u.slot j).hushed) _ (fun u k => by
      unfold State.topUpSlot
      dsimp only
      split
      · rw [State.modSlot_slot]
        split <;> rfl
      · rfl) _ u
  have hself : (s.modSlot i f).slot i = f (s.slot i) := by simp [State.modSlot_slot]
  have hwatch : ∀ u : State, u.home = (s.modSlot i f).home → ∀ new, (u.watchOnSlot i new).slot j = s.slot j := by
    intro u hu new
    rw [watchOnSlot_slot, if_neg hj, slot_congr hu, State.modSlot_slot, if_neg hj]
  have hrest : ∀ u : State, (((u.meterOnSlot i (s.slot i).fresh (f (s.slot i)).state).rosterOnSlot i (s.slot i).fresh
      (f (s.slot i)).state).slot j) = u.slot j := fun u => slot_congr (by simp) j
  unfold State.enter State.announce
  rw [hself]
  dsimp only
  split
  · rw [htopUp, hrest, hwatch _ (beforeWatch_home ..)]
  · rw [hrest, hwatch _ (beforeWatch_home ..)]

end

/-! ### What the turn of another slot leaves -/

/-- What the turns of the other slots do not write: a slot's record but for A and the short flag, and its place in the
search. -/
def State.view (s : State) (i : SlotId) : SlotRecord × Bool × Bool := ((s.slot i).core, (s.slot i).hushed, s.watch.isMember i)

theorem view_congr {s t : State} (hhome : t.home = s.home) (hwatch : t.watch = s.watch) (i : SlotId) : t.view i = s.view i := by
  unfold State.view
  rw [slot_congr hhome, hwatch]

section
variable (s : State) (i : SlotId) {j : SlotId} (hj : j ≠ i)
include hj

theorem enter_view_other (f : SlotRecord → SlotRecord) : (s.enter i f).view j = s.view j := by
  unfold State.view
  rw [enter_core, if_neg hj, enter_hushed_other s i f hj, enter_isMember_other s i f hj]

theorem releaseHome_view_other : (s.releaseHome i).view j = s.view j := by
  unfold State.view
  rw [releaseHome_slot, if_neg hj, (State.releaseHome_frame ..).2.2.2.1]

theorem closeSlot_view_other (reason : CloseReason) : (s.closeSlot i reason).view j = s.view j := by
  rw [closeSlot_eq]
  exact (releaseHome_view_other (s.enter i (·.close reason)) i hj).trans (enter_view_other s i hj _)

theorem abandonAssignment_view_other : (s.abandonAssignment i).view j = s.view j := by
  obtain ⟨u, hfree, hu⟩ := freeSlot_eq s i
  unfold State.abandonAssignment
  rw [releaseHome_view_other _ _ hj, hfree, enter_view_other _ _ hj]
  exact view_congr (by rw [hu]) (by rw [hu]) j

theorem restartSlot_view_other : (s.restartSlot i).view j = s.view j := by
  unfold State.restartSlot
  split
  · rfl
  · rfl
  · split
    · exact closeSlot_view_other s i hj _
    · exact abandonAssignment_view_other s i hj
  all_goals exact closeSlot_view_other s i hj _

end

/-! ### The turn of one slot (R37) -/

section
variable {s : State} {i : SlotId}

theorem restartSlot_still (h : (s.slot i).state = .free ∨ (s.slot i).state = .closing) : s.restartSlot i = s := by
  unfold State.restartSlot
  rcases h with h | h <;> rw [h]

theorem fresh_iff (r : SlotRecord) : r.fresh = true ↔ r.state = .assigning ∧ r.rejoin = false := by simp [SlotRecord.fresh]

theorem restartSlot_fresh (h : (s.slot i).fresh = true) : s.restartSlot i = s.abandonAssignment i := by
  obtain ⟨hstate, hrejoin⟩ := (fresh_iff _).mp h
  unfold State.restartSlot
  rw [hstate]
  exact if_neg (by simp [hrejoin])

theorem restartSlot_metered (h : (s.slot i).metered = true) : s.restartSlot i = s.closeSlot i .restart := by
  unfold SlotRecord.metered at h
  unfold State.restartSlot
  cases hstate : (s.slot i).state with
  | assigning =>
    rw [hstate] at h
    exact if_pos h
  | free =>
    rw [hstate] at h
    cases h
  | closing =>
    rw [hstate] at h
    cases h
  | _ => rfl

/-- The three ways of a slot on TREE_RESTART. -/
theorem slot_cases (r : SlotRecord) : (r.state = .free ∨ r.state = .closing) ∨ r.fresh = true ∨ r.metered = true := by
  unfold SlotRecord.fresh SlotRecord.metered
  cases r.state <;> simp

end

/-! ### What every operation of TREE_RESTART keeps -/

/-- The blocks and fields that TREE_RESTART does not write, whatever the order (R37, R194). -/
structure State.RestartKeeps (s u : State) : Prop where
  meter : u.meter = s.meter
  journal : u.journal = s.journal
  link : u.link = s.link
  clock : u.clock = s.clock
  config : u.config = s.config
  pending : u.pending = s.pending
  provision : u.enrol.provision = s.enrol.provision
  strangers : u.enrol.strangers = s.enrol.strangers
  claims : u.roster.claims = s.roster.claims
  gen : ∀ i, (u.slot i).gen = (s.slot i).gen

namespace State.RestartKeeps

variable {s u : State}

theorem refl (s : State) : s.RestartKeeps s := ⟨rfl, rfl, rfl, rfl, rfl, rfl, rfl, rfl, rfl, fun _ => rfl⟩

theorem trans {t : State} (h : s.RestartKeeps u) (k : u.RestartKeeps t) : s.RestartKeeps t :=
  ⟨k.meter.trans h.meter, k.journal.trans h.journal, k.link.trans h.link, k.clock.trans h.clock, k.config.trans h.config,
    k.pending.trans h.pending, k.provision.trans h.provision, k.strangers.trans h.strangers, k.claims.trans h.claims,
    fun i => (k.gen i).trans (h.gen i)⟩

theorem closeSlot (s : State) (i : SlotId) (reason : CloseReason) : s.RestartKeeps (s.closeSlot i reason) where
  meter := closeSlot_meter s i reason
  journal := by simp
  link := by simp
  clock := by simp
  config := by simp
  pending := by simp
  provision := by rw [closeSlot_enrol]
  strangers := by rw [closeSlot_enrol]
  claims := by rw [closeSlot_roster, placeRelease_eq]
  gen := fun j => by
    rw [closeSlot_slot]
    split
    · next h => rw [h]; rfl
    · rfl

theorem freeSlot_claims (s : State) (i : SlotId) : (s.freeSlot i).roster.claims = s.roster.claims := by
  have hentered : ∀ u : State, (u.enter i SlotRecord.freed).roster = u.roster := fun u =>
    enter_roster u i _ (.inl (by simp [freed_state]))
  unfold State.freeSlot
  dsimp only
  rw [hentered]
  split
  · unfold State.quarantineLocal
    dsimp only [State.modRoster]
    split <;> rfl
  · rfl

theorem abandonAssignment (s : State) (i : SlotId) : s.RestartKeeps (s.abandonAssignment i) where
  meter := abandonAssignment_meter s i
  journal := by simp
  link := by simp
  clock := by simp
  config := by simp
  pending := by simp
  provision := by rw [abandonAssignment_enrol]
  strangers := by rw [abandonAssignment_enrol]
  claims := by
    unfold State.abandonAssignment
    rw [(State.releaseHome_frame ..).2.2.2.2.2.2.2.1]
    exact freeSlot_claims s i
  gen := fun j => by
    by_cases hj : j = i
    · rw [hj, abandonAssignment_slot_self]
      rfl
    · exact SlotRecord.gen_of_core (abandonAssignment_core_other s hj)

theorem restartSlot (s : State) (i : SlotId) : s.RestartKeeps (s.restartSlot i) := by
  rcases slot_cases (s.slot i) with h | h | h
  · rw [restartSlot_still h]
    exact refl s
  · rw [restartSlot_fresh h]
    exact abandonAssignment s i
  · rw [restartSlot_metered h]
    exact closeSlot s i _

theorem restartManager (s : State) : s.RestartKeeps s.restartManager :=
  foldl_invariant (I := s.RestartKeeps) (fun u i h => h.trans (restartSlot u i)) _ (refl s)

end State.RestartKeeps

/-! ### The lanes during the manager's turns (R31, R32) -/

/-- The tree port after the manager's turns: its own fields stand, ASSIGN, ECHO and HOLDOFF may have left the lanes, and
RELEASEs have joined the normal lane where the port takes them. -/
structure State.ManagerLanes (s u : State) : Prop where
  port : u.tree.port = s.tree.port
  down : u.down = { s.down with flushes := u.down.flushes }
  urgent : ∀ e ∈ u.tree.urgent, e ∈ s.tree.urgent
  normal : ∀ e ∈ u.tree.normal, e ∈ s.tree.normal ∨ (e.body = .release ∧ (s.tree.state = .lit ∨ s.tree.state = .dark))
  stays : ∀ e, e.body.isEnrolment = false → e ∈ s.tree.urgent ++ s.tree.normal → e ∈ u.tree.urgent ++ u.tree.normal

namespace State.ManagerLanes

variable {s u : State}

theorem of_same (htree : u.tree = s.tree) (hdown : u.down = s.down) : s.ManagerLanes u where
  port := by rw [htree]
  down := by rw [hdown]
  urgent := fun e he => htree ▸ he
  normal := fun e he => .inl (htree ▸ he)
  stays := fun e _ he => by rwa [htree]

theorem trans {t : State} (h : s.ManagerLanes u) (k : u.ManagerLanes t) : s.ManagerLanes t where
  port := k.port.trans h.port
  down := k.down.trans (by rw [h.down])
  urgent := fun e he => h.urgent e (k.urgent e he)
  normal := fun e he => (k.normal e he).elim (h.normal e) fun ⟨hbody, hopen⟩ => .inr ⟨hbody, by
    rwa [show u.tree.state = s.tree.state from (congrArg TreePort.state h.port :)] at hopen⟩
  stays := fun e hbody he => k.stays e hbody (h.stays e hbody he)

theorem enter (s : State) (i : SlotId) (f : SlotRecord → SlotRecord) (hnew : (f (s.slot i)).state ≠ .assigning) :
    s.ManagerLanes (s.enter i f) := by
  have hdown : (s.enter i f).down = { s.down with flushes := (s.enter i f).down.flushes } := by
    rw [enter_down, downOnSlot_down _ _ hnew]
    rfl
  have hport := enter_port s i f
  rcases enter_lanes s i f hnew with htree | htree
  · exact ⟨hport, hdown, fun e he => htree ▸ he, fun e he => .inl (htree ▸ he), fun e _ he => by rwa [htree]⟩
  · refine ⟨hport, hdown, fun e he => ?_, fun e he => ?_, fun e hbody he => ?_⟩
    · rw [htree] at he
      exact List.mem_of_mem_filter he
    · rw [htree] at he
      exact .inl (List.mem_of_mem_filter he)
    · have hkeep : (!(e.isFor i && e.body.isEnrolment)) = true := by rw [hbody, Bool.and_false]; rfl
      rw [htree]
      rcases List.mem_append.mp he with he | he
      · exact List.mem_append_left _ (List.mem_filter.mpr ⟨he, hkeep⟩)
      · exact List.mem_append_right _ (List.mem_filter.mpr ⟨he, hkeep⟩)

theorem releaseHome (s : State) (i : SlotId) : s.ManagerLanes (s.releaseHome i) := by
  have hdown : (s.releaseHome i).down = s.down := by simp
  rcases portState_cases s.tree.state with hclosed | hopen
  · refine of_same ?_ hdown
    unfold State.releaseHome
    rw [offerRelease_done (by exact hclosed)]
    rfl
  · rcases releaseHome_tree s i with htree | htree
    · exact of_same htree hdown
    · refine ⟨releaseHome_port s i, by rw [hdown], fun e he => ?_, fun e he => ?_, fun e _ he => ?_⟩
      · rw [htree] at he
        exact he
      · rw [htree, accept_normal] at he
        rcases List.mem_append.mp he with he | he
        · exact .inl he
        · rw [List.mem_singleton.mp he]
          exact .inr ⟨rfl, hopen⟩
      · rw [htree, accept_normal, ← List.append_assoc]
        exact List.mem_append_left _ he

theorem closeSlot (s : State) (i : SlotId) (reason : CloseReason) : s.ManagerLanes (s.closeSlot i reason) := by
  rw [closeSlot_eq]
  exact ((enter s i (·.close reason) nofun).trans (releaseHome _ i)).trans (of_same rfl rfl)

theorem abandonAssignment (s : State) (i : SlotId) : s.ManagerLanes (s.abandonAssignment i) := by
  obtain ⟨u, hfree, hu⟩ := freeSlot_eq s i
  unfold State.abandonAssignment
  rw [hfree]
  exact ((of_same (by rw [hu]) (by rw [hu])).trans (enter u i SlotRecord.freed (by simp [freed_state]))).trans
    (releaseHome _ i)

theorem restartSlot (s : State) (i : SlotId) : s.ManagerLanes (s.restartSlot i) := by
  rcases slot_cases (s.slot i) with h | h | h
  · rw [restartSlot_still h]
    exact of_same rfl rfl
  · rw [restartSlot_fresh h]
    exact abandonAssignment s i
  · rw [restartSlot_metered h]
    exact closeSlot s i _

theorem restartManager (s : State) : s.ManagerLanes s.restartManager :=
  foldl_invariant (I := s.ManagerLanes) (fun u i h => h.trans (restartSlot u i)) _ (of_same rfl rfl)

end State.ManagerLanes

end Sys2Proof.Machine
end

section
/-! PROOFS. The three parts of TREE_RESTART: the manager's turns, the watch's retreat and the order port (for O50; R1, R5, R37,
R90, R113, R118). -/

namespace Sys2Proof.Machine

-- One thread elaborates this section: the text as a whole is near the memory limit of the check.
set_option Elab.async false

/-! ### The slots after the manager's turns (R37) -/

section
variable {s : State} {i : SlotId}

/-- The turn of a slot that is held finds of it what the command found. -/
theorem restartManager_turn (h : (s.slot i).state ≠ .free) :
    ∃ u : State, u.view i = s.view i ∧ s.restartManager.view i = (u.restartSlot i).view i := by
  obtain ⟨u, -, hview, hturn⟩ := forSlots_turn (g := State.view) (I := fun _ => True)
    (p := fun i => (s.slot i).state != .free) (f := State.restartSlot) (s := s) (i := i) (by simpa using h) trivial
    (fun _ _ _ => trivial) (fun u j _ hj => restartSlot_view_other u j (Ne.symm hj))
  exact ⟨u, hview, hturn⟩

theorem view_core {u : State} (h : u.view i = s.view i) : (u.slot i).core = (s.slot i).core := congrArg Prod.fst h

theorem restartManager_still (h : (s.slot i).state = .free ∨ (s.slot i).state = .closing) :
    s.restartManager.view i = s.view i := by
  by_cases hfree : (s.slot i).state = .free
  · exact forSlots_keeps_other State.view (fun u j hj => restartSlot_view_other u j (Ne.symm hj)) (by simp [hfree]) s
  · obtain ⟨u, hview, hturn⟩ := restartManager_turn hfree
    have hstate : (u.slot i).state = .closing :=
      (SlotRecord.state_of_core (view_core hview)).trans (h.resolve_left hfree)
    rw [hturn, restartSlot_still (.inr hstate), hview]

/-- A new assignment is abandoned: its slot is FREE. -/
theorem restartManager_fresh (h : (s.slot i).fresh = true) :
    (s.restartManager.slot i).state = .free ∧ (s.restartManager.slot i).hushed = false := by
  obtain ⟨hstate, hrejoin⟩ := (fresh_iff _).mp h
  obtain ⟨u, hview, hturn⟩ := restartManager_turn (s := s) (i := i) (by simp [hstate])
  have hcore := view_core hview
  have hfresh : (u.slot i).fresh = true := (fresh_iff _).mpr
    ⟨(SlotRecord.state_of_core hcore).trans hstate, (SlotRecord.rejoin_of_core hcore).trans hrejoin⟩
  rw [restartSlot_fresh hfresh] at hturn
  have hslot := abandonAssignment_slot_self u i
  refine ⟨(SlotRecord.state_of_core (congrArg Prod.fst hturn)).trans ?_, (congrArg (·.2.1) hturn :).trans ?_⟩
  · rw [hslot]
    rfl
  · show ((u.abandonAssignment i).slot i).hushed = false
    rw [hslot]
    rfl

theorem metered_of_core {r k : SlotRecord} (h : r.core = k.core) : r.metered = k.metered := by
  unfold SlotRecord.metered
  rw [SlotRecord.state_of_core h, SlotRecord.rejoin_of_core h]

/-- A metered slot is CLOSING for RESTART; as a member of the search it loses its hushed flag. -/
theorem restartManager_metered (h : (s.slot i).metered = true) :
    (s.restartManager.slot i).state = .closing ∧ (s.restartManager.slot i).closeReason = some .restart
      ∧ (s.restartManager.slot i).serial = (s.slot i).serial ∧ (s.restartManager.slot i).wakeDue = (s.slot i).wakeDue
      ∧ (s.restartManager.slot i).hushed = ((s.slot i).hushed && !s.watch.isMember i) := by
  have hheld : (s.slot i).state ≠ .free := fun hfree => by
    unfold SlotRecord.metered at h
    rw [hfree] at h
    cases h
  obtain ⟨u, hview, hturn⟩ := restartManager_turn hheld
  have hcore := view_core hview
  rw [restartSlot_metered (by rw [metered_of_core hcore, h])] at hturn
  have hslot := closeSlot_slot_self u i .restart
  have hcore' := view_core hturn
  rw [hslot] at hcore'
  have hserial : (s.restartManager.slot i).serial = (u.slot i).serial := (SlotRecord.serial_of_core hcore' :)
  have hwake : (s.restartManager.slot i).wakeDue = (u.slot i).wakeDue := (SlotRecord.wakeDue_of_core hcore' :)
  refine ⟨SlotRecord.state_of_core hcore', SlotRecord.closeReason_of_core hcore',
    hserial.trans (SlotRecord.serial_of_core hcore), hwake.trans (SlotRecord.wakeDue_of_core hcore), (congrArg (·.2.1) hturn :).trans ?_⟩
  show ((u.closeSlot i .restart).slot i).hushed = _
  have hhushed : (u.slot i).hushed = (s.slot i).hushed := (congrArg (·.2.1) hview :)
  have hmember : u.watch.isMember i = s.watch.isMember i := (congrArg (·.2.2) hview :)
  rw [hslot, ← hhushed, ← hmember]

end

/-- With no search the manager's turns write of the watch the strike counts at most. -/
theorem restartManager_watch {s : State} (h : s.watch.locate = none) :
    s.restartManager.watch = { s.watch with counts := s.restartManager.watch.counts } := by
  have henter : ∀ (u : State) i f, u.watch = { s.watch with counts := u.watch.counts } →
      (u.enter i f).watch = { s.watch with counts := (u.enter i f).watch.counts } := fun u i f hu => by
    have hidle : u.watch.locate = none := (congrArg Watch.locate hu).trans h
    refine (enter_watch_idle u i f hidle).1.trans ?_
    rw [hu]
  have hclose : ∀ (u : State) i, u.watch = { s.watch with counts := u.watch.counts } →
      (u.closeSlot i .restart).watch = { s.watch with counts := (u.closeSlot i .restart).watch.counts } := fun u i hu => by
    have hsame : (u.closeSlot i .restart).watch = (u.enter i (·.close .restart)).watch := by
      rw [closeSlot_eq]
      exact (State.releaseHome_frame ..).2.2.2.1
    rw [hsame]
    exact henter u i _ hu
  refine foldl_invariant (I := fun u => u.watch = { s.watch with counts := u.watch.counts }) (f := State.restartSlot)
    (fun u i hu => ?_) _ rfl
  rcases slot_cases (u.slot i) with hstate | hstate | hstate
  · rw [restartSlot_still hstate]
    exact hu
  · rw [restartSlot_fresh hstate]
    obtain ⟨v, hfree, hv⟩ := freeSlot_eq u i
    have hsame : (u.abandonAssignment i).watch = (v.enter i SlotRecord.freed).watch := by
      unfold State.abandonAssignment
      rw [(State.releaseHome_frame ..).2.2.2.1, hfree]
    rw [hsame]
    exact henter v i _ (by rw [hv]; exact hu)
  · rw [restartSlot_metered hstate]
    exact hclose u i hu

/-! ### The slots and the watch, in either order (R37, R118, log entries 6 and 56) -/

/-- The manager's turns with the watch's retreat before or after them. -/
def State.restartHome (s : State) (o : RestartOrder) : State :=
  if o.watchFirst then s.watchRetreat.restartManager else s.restartManager.watchRetreat

/-- What TREE_RESTART makes of the slots and of the watch. -/
structure State.HomeRestarted (s : State) (o : RestartOrder) (u : State) : Prop where
  watch : u.watch.state = .clear ∧ u.watch.test = none ∧ u.watch.locate = none
  closed : ∀ i, (s.slot i).metered = true →
    (u.slot i).state = .closing ∧ (u.slot i).closeReason = some .restart ∧ (u.slot i).serial = (s.slot i).serial
  freed : ∀ i, (s.slot i).fresh = true ∨ (s.slot i).state = .free → (u.slot i).state = .free
  still : ∀ i, (s.slot i).state = .closing →
    (u.slot i).state = .closing ∧ (u.slot i).closeReason = (s.slot i).closeReason
  hushed : ∀ i, (u.slot i).hushed = false
  wakes : ∀ i, (s.slot i).state = .closing ∨ ((s.slot i).metered = true ∧ (o.watchFirst = true ∨ s.watch.isMember i = false)) →
    (u.slot i).wakeDue = ((s.slot i).wakeDue || (s.slot i).hushed)
  kept : ∀ i, o.watchFirst = false → (s.slot i).metered = true → s.watch.isMember i = true →
    (u.slot i).wakeDue = (s.slot i).wakeDue

section
variable (s : State)

theorem metered_unhush (r : SlotRecord) : r.unhush.metered = r.metered := rfl

theorem fresh_unhush (r : SlotRecord) : r.unhush.fresh = r.fresh := rfl

theorem watchFirst_restarted {o : RestartOrder} (ho : o.watchFirst = true) :
    s.HomeRestarted o s.watchRetreat.restartManager := by
  have hslot := watchRetreat_slot s
  have hwatch := watchRetreat_watch s
  have hidle : s.watchRetreat.watch.locate = none := by rw [hwatch]
  have hafter := restartManager_watch hidle
  have hmetered : ∀ i, (s.slot i).metered = true → (s.watchRetreat.slot i).metered = true := fun i h => by
    rw [hslot, metered_unhush, h]
  have hstill : ∀ i, (s.slot i).state = .free ∨ (s.slot i).state = .closing →
      s.watchRetreat.restartManager.view i = s.watchRetreat.view i := fun i h => restartManager_still (by rw [hslot]; exact h)
  have hcore : ∀ i, (s.slot i).state = .free ∨ (s.slot i).state = .closing →
      (s.watchRetreat.restartManager.slot i).core = (s.slot i).unhush.core := fun i h => by
    rw [view_core (hstill i h), hslot]
  refine ⟨by rw [hafter, hwatch]; exact ⟨rfl, rfl, rfl⟩, fun i h => ?_, fun i h => ?_, fun i h => ?_, fun i => ?_,
    fun i h => ?_, fun i hnot => ?_⟩
  · obtain ⟨hstate, hreason, hserial, -, -⟩ := restartManager_metered (hmetered i h)
    exact ⟨hstate, hreason, hserial.trans (by rw [hslot]; rfl)⟩
  · rcases h with h | h
    · exact (restartManager_fresh (by rw [hslot, fresh_unhush, h])).1
    · exact (SlotRecord.state_of_core (hcore i (.inl h))).trans h
  · exact ⟨(SlotRecord.state_of_core (hcore i (.inr h))).trans h, (SlotRecord.closeReason_of_core (hcore i (.inr h)) :)⟩
  · have hclear : (s.watchRetreat.slot i).hushed = false := by rw [hslot]; rfl
    rcases slot_cases (s.slot i) with h | h | h
    · exact (congrArg (·.2.1) (hstill i h) :).trans hclear
    · exact (restartManager_fresh (by rw [hslot, fresh_unhush, h])).2
    · rw [(restartManager_metered (hmetered i h)).2.2.2.2, hclear, Bool.false_and]
  · rcases h with h | ⟨h, -⟩
    · exact SlotRecord.wakeDue_of_core (hcore i (.inr h))
    · rw [(restartManager_metered (hmetered i h)).2.2.2.1, hslot]
      rfl
  · rw [ho] at hnot
    cases hnot

theorem managerFirst_restarted {o : RestartOrder} (ho : o.watchFirst = false) :
    s.HomeRestarted o s.restartManager.watchRetreat := by
  have hslot := watchRetreat_slot s.restartManager
  have hwatch := watchRetreat_watch s.restartManager
  have hstill : ∀ i, (s.slot i).state = .free ∨ (s.slot i).state = .closing →
      (s.restartManager.slot i).core = (s.slot i).core := fun i h => view_core (restartManager_still h)
  refine ⟨by rw [hwatch]; exact ⟨rfl, rfl, rfl⟩, fun i h => ?_, fun i h => ?_, fun i h => ?_, fun i => by rw [hslot]; rfl,
    fun i h => ?_, fun i _ h hmember => ?_⟩
  · obtain ⟨hstate, hreason, hserial, -, -⟩ := restartManager_metered h
    rw [hslot]
    exact ⟨hstate, hreason, hserial⟩
  · rw [hslot]
    rcases h with h | h
    · exact (restartManager_fresh h).1
    · exact (SlotRecord.state_of_core (hstill i (.inl h))).trans h
  · rw [hslot]
    exact ⟨(SlotRecord.state_of_core (hstill i (.inr h))).trans h, (SlotRecord.closeReason_of_core (hstill i (.inr h)) :)⟩
  · rw [hslot]
    show ((s.restartManager.slot i).wakeDue || (s.restartManager.slot i).hushed) = _
    rcases h with h | ⟨h, hmember⟩
    · have hview := restartManager_still (.inr h)
      rw [SlotRecord.wakeDue_of_core (view_core hview)]
      exact congrArg _ (congrArg (·.2.1) hview :)
    · obtain ⟨-, -, -, hwake, hhushed⟩ := restartManager_metered h
      rw [hwake, hhushed, hmember.resolve_left (by simp [ho]), Bool.not_false, Bool.and_true]
  · obtain ⟨-, -, -, hwake, hhushed⟩ := restartManager_metered h
    rw [hslot]
    show ((s.restartManager.slot i).wakeDue || (s.restartManager.slot i).hushed) = _
    rw [hwake, hhushed, hmember, Bool.not_true, Bool.and_false, Bool.or_false]

theorem restartHome_restarted (o : RestartOrder) : s.HomeRestarted o (s.restartHome o) := by
  unfold State.restartHome
  cases ho : o.watchFirst with
  | true => exact watchFirst_restarted s ho
  | false => exact managerFirst_restarted s ho

theorem watchRetreat_keeps : s.RestartKeeps s.watchRetreat :=
  ⟨by simp, by simp, by simp, by simp, by simp, by simp, by simp, by simp, by simp, fun i => by rw [watchRetreat_slot]; rfl⟩

theorem restartHome_keeps (o : RestartOrder) : s.RestartKeeps (s.restartHome o) := by
  unfold State.restartHome
  split
  · exact (watchRetreat_keeps s).trans (.restartManager _)
  · exact (State.RestartKeeps.restartManager s).trans (watchRetreat_keeps _)

theorem watchRetreat_lanes : s.ManagerLanes s.watchRetreat := .of_same (watchRetreat_tree s) (by simp)

theorem restartHome_lanes (o : RestartOrder) : s.ManagerLanes (s.restartHome o) := by
  unfold State.restartHome
  split
  · exact (watchRetreat_lanes s).trans (.restartManager _)
  · exact (State.ManagerLanes.restartManager s).trans (watchRetreat_lanes _)

/-- Slots that are FREE or CLOSING keep their release-pending flag. -/
theorem restartHome_releasePending (o : RestartOrder) {i : SlotId}
    (h : (s.slot i).state = .free ∨ (s.slot i).state = .closing) :
    ((s.restartHome o).slot i).releasePending = (s.slot i).releasePending := by
  unfold State.restartHome
  split
  · have hview := restartManager_still (s := s.watchRetreat) (i := i) (by rw [watchRetreat_slot]; exact h)
    rw [SlotRecord.releasePending_of_core (view_core hview), watchRetreat_slot]
    rfl
  · rw [watchRetreat_slot]
    exact (SlotRecord.releasePending_of_core (view_core (restartManager_still h)) :)

end

/-! ### The order port (R1, R5, R90) -/

/-- What the tree port's part leaves of the slots and the watch: all but release-pending flags and samples. -/
structure State.PortKept (s t : State) : Prop where
  slot : ∀ j, t.slot j = { s.slot j with releasePending := (t.slot j).releasePending }
  watch : t.watch = { s.watch with calib := t.watch.calib }

theorem State.PortKept.refl (s : State) : s.PortKept s := ⟨fun _ => rfl, rfl⟩

theorem State.PortKept.trans {s t u : State} (h : s.PortKept t) (k : t.PortKept u) : s.PortKept u where
  slot := fun j => (k.slot j).trans (by rw [h.slot j])
  watch := k.watch.trans (by rw [h.watch])

section
variable (s : State) (e : OrderEntry)

theorem report_abandoned_portKept : s.PortKept (s.report e .abandoned) := by
  have hkept : ∀ t : State, t.home = s.home → t.watch = s.watch → s.PortKept t := fun t hhome hwatch =>
    ⟨fun j => by rw [slot_congr hhome], by rw [hwatch]⟩
  unfold State.report
  split
  · exact hkept _ (by simp [State.rollAbandoned]) (by simp [State.rollAbandoned])
  · exact hkept _ (by simp) (by simp)
  · rw [watchReport_abandoned]
    exact .refl s
  · rw [watchReport_abandoned]
    exact .refl s
  · exact .refl s
  · refine ⟨fun j => ?_, rfl⟩
    rw [State.modSlot_slot]
    split <;> rfl
  all_goals exact .refl s

theorem report_abandoned_enrol : (s.report e .abandoned).enrol.provision = s.enrol.provision
    ∧ (s.report e .abandoned).enrol.strangers = s.enrol.strangers := by
  unfold State.report
  split
  · exact ⟨rfl, rfl⟩
  · unfold State.holdoffOutcome
    split <;> exact ⟨rfl, rfl⟩
  · rw [watchReport_abandoned]
    exact ⟨rfl, rfl⟩
  · rw [watchReport_abandoned]
    exact ⟨rfl, rfl⟩
  all_goals exact ⟨rfl, rfl⟩

/-- An abandoned RELEASE clears its slot's release-pending flag (R32), and no abandonment sets one. -/
theorem report_abandoned_release {i : SlotId}
    (h : (e.body = .release ∧ ∃ g, e.target = some (i, g)) ∨ (s.slot i).releasePending = false) :
    ((s.report e .abandoned).slot i).releasePending = false := by
  by_cases hrelease : e.body = .release ∧ ∃ g, e.target = some (i, g)
  · obtain ⟨hbody, g, htarget⟩ := hrelease
    unfold State.report
    rw [hbody, htarget]
    dsimp only
    rw [State.modSlot_slot, if_pos rfl]
  · have hclear := h.resolve_left hrelease
    have hsame : ∀ t : State, t.home = s.home → (t.slot i).releasePending = false := fun t ht => by
      rw [slot_congr ht, hclear]
    unfold State.report
    split
    · exact hsame _ (by simp [State.rollAbandoned])
    · exact hsame _ (by simp)
    · rw [watchReport_abandoned]
      exact hclear
    · rw [watchReport_abandoned]
      exact hclear
    · exact hclear
    · rw [State.modSlot_slot]
      split
      · rfl
      · exact hclear
    all_goals exact hclear

end

section
variable (s : State)

theorem abandonAll_tree : (s.abandonWhere fun _ => true).tree = { s.tree with urgent := [], normal := [] } := by
  rw [abandonWhere_tree]
  unfold TreePort.removeWhere
  simp

theorem abandonAll_portKept : s.PortKept (s.abandonWhere fun _ => true) :=
  foldl_invariant (I := s.PortKept) (fun u e h => h.trans (report_abandoned_portKept u e)) _ ⟨fun _ => rfl, rfl⟩

theorem abandonAll_enrol : (s.abandonWhere fun _ => true).enrol.provision = s.enrol.provision
    ∧ (s.abandonWhere fun _ => true).enrol.strangers = s.enrol.strangers :=
  ⟨foldl_keeps (·.enrol.provision) _ (fun u e => (report_abandoned_enrol u e).1) _ _,
    foldl_keeps (·.enrol.strangers) _ (fun u e => (report_abandoned_enrol u e).2) _ _⟩

theorem abandonAll_release {e : OrderEntry} {i : SlotId} {g : Gen} (he : e ∈ s.tree.urgent ++ s.tree.normal)
    (hbody : e.body = .release) (htarget : e.target = some (i, g)) :
    ((s.abandonWhere fun _ => true).slot i).releasePending = false := by
  have hmem : e ∈ (s.tree.removeWhere fun _ => true).2 := by
    unfold TreePort.removeWhere
    simpa using he
  obtain ⟨pre, post, hsplit⟩ := List.append_of_mem hmem
  unfold State.abandonWhere
  dsimp only
  rw [hsplit, List.foldl_append, List.foldl_cons]
  exact foldl_invariant (I := fun u => (u.slot i).releasePending = false) (fun u k hu => report_abandoned_release u k (.inr hu))
    post (report_abandoned_release _ e (.inl ⟨hbody, g, htarget⟩))

/-- What the tree port's part does beside abandoning every order. -/
def State.portMoved (s : State) : State :=
  match s.tree.state with
  | .off | .starting => s
  | .calibrating => s.enterCalibrating.modWatch fun w => { w with calib := [] }
  | .lit => (s.endTransmission.modTree fun t => { t with issued := [] }).enterCalibrating
  | .dark => s.modTree fun t => { t with recalDue := true }

theorem restartPort_eq : s.restartPort = (s.abandonWhere fun _ => true).portMoved := rfl

theorem portMoved_kept : s.portMoved.home = s.home ∧ s.portMoved.enrol = s.enrol
    ∧ s.portMoved.watch = { s.watch with calib := s.portMoved.watch.calib } := by
  unfold State.portMoved State.enterCalibrating
  split <;> simp

/-- Where the tree port goes on TREE_RESTART (R1's table), and that its lanes are empty. -/
theorem restartPort_tree : s.restartPort.tree.urgent = [] ∧ s.restartPort.tree.normal = []
    ∧ (s.tree.state = .off ∨ s.tree.state = .starting → s.restartPort.tree.state = s.tree.state)
    ∧ (s.tree.state = .calibrating ∨ s.tree.state = .lit →
      s.restartPort.tree.state = .calibrating ∧ s.restartPort.tree.holdStart = some s.clock.round)
    ∧ (s.tree.state = .lit →
      s.restartPort.tree.issued = [] ∧ s.restartPort.tree.txRound = none ∧ s.restartPort.down.txBlocks = 0)
    ∧ (s.tree.state = .dark → s.restartPort.tree.state = .dark ∧ s.restartPort.tree.recalDue = true) := by
  have htree := abandonAll_tree s
  have hclock : (s.abandonWhere fun _ => true).clock = s.clock := by simp
  rw [restartPort_eq]
  generalize s.abandonWhere (fun _ => true) = u at *
  have hstate : u.tree.state = s.tree.state := by rw [htree]
  have hend := endTransmission_tree u
  have hround : u.endTransmission.clock = u.clock := by simp
  have hblocks := (endTransmission_down u).1
  have hurgent : u.tree.urgent = [] := by rw [htree]
  have hnormal : u.tree.normal = [] := by rw [htree]
  unfold State.portMoved
  rw [hstate]
  cases hcase : s.tree.state with
  | off => exact ⟨hurgent, hnormal, fun _ => hstate.trans hcase, by simp, nofun, nofun⟩
  | starting => exact ⟨hurgent, hnormal, fun _ => hstate.trans hcase, by simp, nofun, nofun⟩
  | calibrating =>
    exact ⟨hurgent, hnormal, by simp, fun _ => ⟨rfl, congrArg (fun c : Clock => some c.round) hclock⟩, nofun, nofun⟩
  | lit =>
    refine ⟨?_, ?_, by simp, fun _ => ⟨rfl, ?_⟩, fun _ => ⟨rfl, ?_, hblocks⟩, nofun⟩
    · show u.endTransmission.tree.urgent = []
      rw [hend]
      exact hurgent
    · show u.endTransmission.tree.normal = []
      rw [hend]
      exact hnormal
    · show some u.endTransmission.clock.round = _
      rw [hround, hclock]
    · show u.endTransmission.tree.txRound = none
      rw [hend]
  | dark => exact ⟨hurgent, hnormal, by simp, by simp, nofun, fun _ => ⟨hstate.trans hcase, rfl⟩⟩

theorem restartPort_portKept : s.PortKept s.restartPort := by
  obtain ⟨hhome, -, hwatch⟩ := portMoved_kept (s.abandonWhere fun _ => true)
  rw [restartPort_eq]
  exact (abandonAll_portKept s).trans ⟨fun j => by rw [slot_congr hhome], hwatch⟩

theorem restartPort_keeps : s.RestartKeeps s.restartPort := by
  have hslot := (restartPort_portKept s).slot
  obtain ⟨-, henrol, -⟩ := portMoved_kept (s.abandonWhere fun _ => true)
  obtain ⟨hprovision, hstrangers⟩ := abandonAll_enrol s
  rw [← restartPort_eq] at henrol
  exact ⟨by simp, by simp, by simp, by simp, by simp, by simp, by rw [henrol, hprovision], by rw [henrol, hstrangers],
    by simp, fun i => by rw [hslot]⟩

theorem restartPort_release {e : OrderEntry} {i : SlotId} {g : Gen} (he : e ∈ s.tree.urgent ++ s.tree.normal)
    (hbody : e.body = .release) (htarget : e.target = some (i, g)) : (s.restartPort.slot i).releasePending = false := by
  rw [restartPort_eq, slot_congr (portMoved_kept _).1]
  exact abandonAll_release s he hbody htarget

end

end Sys2Proof.Machine
end

section
/-! PROOFS. TREE_RESTART (O50; R1, R5, R37, R62, R64, R118, R162, R194). -/

namespace Sys2Proof.Machine

-- One thread elaborates this section: the text as a whole is near the memory limit of the check.
set_option Elab.async false

/-! ### The parts put together (log entry 6) -/

/-- What the order port does before or after the slots and the watch does not show in them. -/
theorem State.HomeRestarted.of_port {s v u : State} {o : RestartOrder} (h : s.PortKept v) (k : v.HomeRestarted o u) :
    s.HomeRestarted o u := by
  obtain ⟨hwatch, hclosed, hfreed, hstill, hhushed, hwakes, hkept⟩ := k
  have hmember : ∀ i, v.watch.isMember i = s.watch.isMember i := fun i => isMember_congr (by rw [h.watch])
  have hstate : ∀ i, (v.slot i).state = (s.slot i).state := fun i => by rw [h.slot i]
  have hserial : ∀ i, (v.slot i).serial = (s.slot i).serial := fun i => by rw [h.slot i]
  have hreason : ∀ i, (v.slot i).closeReason = (s.slot i).closeReason := fun i => by rw [h.slot i]
  have hwake : ∀ i, (v.slot i).wakeDue = (s.slot i).wakeDue := fun i => by rw [h.slot i]
  have hhush : ∀ i, (v.slot i).hushed = (s.slot i).hushed := fun i => by rw [h.slot i]
  have hmetered : ∀ i, (v.slot i).metered = (s.slot i).metered := fun i => by rw [h.slot i]; rfl
  have hfresh : ∀ i, (v.slot i).fresh = (s.slot i).fresh := fun i => by rw [h.slot i]; rfl
  simp only [hmember, hstate, hserial, hreason, hwake, hhush, hmetered, hfresh] at *
  exact ⟨hwatch, hclosed, hfreed, hstill, hhushed, hwakes, hkept⟩

theorem State.HomeRestarted.port {s u t : State} {o : RestartOrder} (k : s.HomeRestarted o u) (h : u.PortKept t) :
    s.HomeRestarted o t where
  watch := by rw [h.watch]; exact k.watch
  closed := fun i hi => by rw [h.slot i]; exact k.closed i hi
  freed := fun i hi => by rw [h.slot i]; exact k.freed i hi
  still := fun i hi => by rw [h.slot i]; exact k.still i hi
  hushed := fun i => by rw [h.slot i]; exact k.hushed i
  wakes := fun i hi => by rw [h.slot i]; exact k.wakes i hi
  kept := fun i ho hi hm => by rw [h.slot i]; exact k.kept i ho hi hm

/-- The part once the tree port, the watch and the manager have TREE_RESTART, in the order given. -/
def State.restartBlocks (s : State) (o : RestartOrder) : State :=
  if o.portFirst then s.restartPort.restartHome o else (s.restartHome o).restartPort

theorem restart_eq (s : State) (o : RestartOrder) : s.restart o =
    (((s.restartBlocks o).modEnrol Enrolment.lost).modSched Scheduler.restarted).modClock fun c => { c with cause := .restart } := by
  unfold State.restart State.restartBlocks State.restartHome
  cases o.portFirst <;> cases o.watchFirst <;> simp only [Bool.false_eq_true, if_true, if_false]

/-- What TREE_RESTART makes of the tree port (R1, R5, R90). -/
structure State.PortRestarted (s : State) (o : RestartOrder) (u : State) : Prop where
  waits : s.tree.state = .off ∨ s.tree.state = .starting → u.tree.state = s.tree.state
  calibrates : s.tree.state = .calibrating ∨ s.tree.state = .lit →
    u.tree.state = .calibrating ∧ u.tree.holdStart = some s.clock.round
  unlit : s.tree.state = .lit → u.tree.issued = [] ∧ u.tree.txRound = none ∧ u.down.txBlocks = 0
  dark : s.tree.state = .dark → u.tree.state = .dark ∧ u.tree.recalDue = true
  emptied : s.tree.state ≠ .dark ∨ o.portFirst = false → u.tree.urgent = [] ∧ u.tree.normal = []
  urgent : u.tree.urgent = []
  normal : ∀ e ∈ u.tree.normal, e.body = .release

section
variable (s : State) {o : RestartOrder}

theorem portFirst_port (ho : o.portFirst = true) : s.PortRestarted o (s.restartPort.restartHome o) := by
  obtain ⟨hurgent, hnormal, hwaits, hcalibrates, hunlit, hdark⟩ := restartPort_tree s
  have hlanes := restartHome_lanes s.restartPort o
  generalize s.restartPort = v at *
  generalize v.restartHome o = u at *
  have hstate : u.tree.state = v.tree.state := (congrArg TreePort.state hlanes.port :)
  have hhold : u.tree.holdStart = v.tree.holdStart := (congrArg TreePort.holdStart hlanes.port :)
  have hissued : u.tree.issued = v.tree.issued := (congrArg TreePort.issued hlanes.port :)
  have hround : u.tree.txRound = v.tree.txRound := (congrArg TreePort.txRound hlanes.port :)
  have hrecal : u.tree.recalDue = v.tree.recalDue := (congrArg TreePort.recalDue hlanes.port :)
  have hblocks : u.down.txBlocks = v.down.txBlocks := by rw [hlanes.down]
  have hnone : u.tree.urgent = [] := List.eq_nil_iff_forall_not_mem.mpr fun e he => by
    have := hlanes.urgent e he
    rw [hurgent] at this
    exact List.not_mem_nil this
  have hadded : ∀ e ∈ u.tree.normal, e.body = .release ∧ (v.tree.state = .lit ∨ v.tree.state = .dark) := fun e he =>
    (hlanes.normal e he).resolve_left (by rw [hnormal]; exact List.not_mem_nil)
  refine ⟨fun h => hstate.trans (hwaits h), fun h => ?_, fun h => ?_, fun h => ?_, fun h => ⟨hnone, ?_⟩, hnone,
    fun e he => (hadded e he).1⟩
  · rw [hstate, hhold]
    exact hcalibrates h
  · rw [hissued, hround, hblocks]
    exact hunlit h
  · rw [hstate, hrecal]
    exact hdark h
  · have hclosed : v.tree.state ≠ .lit ∧ v.tree.state ≠ .dark := by
      cases hs : s.tree.state with
      | off => rw [hwaits (.inl hs), hs]; exact ⟨nofun, nofun⟩
      | starting => rw [hwaits (.inr hs), hs]; exact ⟨nofun, nofun⟩
      | calibrating => rw [(hcalibrates (.inl hs)).1]; exact ⟨nofun, nofun⟩
      | lit => rw [(hcalibrates (.inr hs)).1]; exact ⟨nofun, nofun⟩
      | dark =>
        rcases h with h | h
        · exact absurd hs h
        · rw [ho] at h
          cases h
    exact List.eq_nil_iff_forall_not_mem.mpr fun e he => (hadded e he).2.elim hclosed.1 hclosed.2

theorem portLast_port : s.PortRestarted o (s.restartHome o).restartPort := by
  have hlanes := restartHome_lanes s o
  have hclock : (s.restartHome o).clock = s.clock := (restartHome_keeps s o).clock
  obtain ⟨hurgent, hnormal, hwaits, hcalibrates, hunlit, hdark⟩ := restartPort_tree (s.restartHome o)
  have hstate : (s.restartHome o).tree.state = s.tree.state := (congrArg TreePort.state hlanes.port :)
  rw [hstate] at hwaits hcalibrates hunlit hdark
  rw [hclock] at hcalibrates
  refine ⟨hwaits, hcalibrates, hunlit, hdark, fun _ => ⟨hurgent, hnormal⟩, hurgent, fun e he => ?_⟩
  rw [hnormal] at he
  exact absurd he List.not_mem_nil

variable (o)

theorem restartBlocks_port : s.PortRestarted o (s.restartBlocks o) := by
  unfold State.restartBlocks
  cases ho : o.portFirst with
  | true => exact portFirst_port s ho
  | false => exact portLast_port s

theorem restartBlocks_home : s.HomeRestarted o (s.restartBlocks o) := by
  unfold State.restartBlocks
  split
  · exact (restartHome_restarted s.restartPort o).of_port (restartPort_portKept s)
  · exact (restartHome_restarted s o).port (restartPort_portKept _)

theorem restartBlocks_keeps : s.RestartKeeps (s.restartBlocks o) := by
  unfold State.restartBlocks
  split
  · exact (restartPort_keeps s).trans (restartHome_keeps _ o)
  · exact (restartHome_keeps s o).trans (restartPort_keeps _)

variable {s}

/-- A RELEASE abandoned for a slot that is FREE or CLOSING leaves nothing pending. -/
theorem restartBlocks_release {e : OrderEntry} {i : SlotId} {g : Gen} (he : e ∈ s.tree.urgent ++ s.tree.normal)
    (hbody : e.body = .release) (htarget : e.target = some (i, g))
    (hstate : (s.slot i).state = .free ∨ (s.slot i).state = .closing) :
    ((s.restartBlocks o).slot i).releasePending = false := by
  unfold State.restartBlocks
  split
  · have hsame : (s.restartPort.slot i).state = (s.slot i).state := by rw [(restartPort_portKept s).slot i]
    rw [restartHome_releasePending s.restartPort o (by rwa [hsame])]
    exact restartPort_release s he hbody htarget
  · exact restartPort_release _ ((restartHome_lanes s o).stays e (by rw [hbody]; rfl) he) hbody htarget

end

/-- The enrolment engine and the planner after TREE_RESTART (R47, R62, R64, R70, R73). -/
theorem restart_emptied (s : State) (o : RestartOrder) :
    (s.restart o).sched = (s.restartBlocks o).sched.restarted ∧ (s.restart o).enrol = (s.restartBlocks o).enrol.lost
      ∧ (s.restart o).clock = { (s.restartBlocks o).clock with cause := .restart } := by
  rw [restart_eq]
  exact ⟨rfl, rfl, rfl⟩

theorem restart_same (s : State) (o : RestartOrder) :
    (s.restart o).home = (s.restartBlocks o).home ∧ (s.restart o).tree = (s.restartBlocks o).tree
      ∧ (s.restart o).down = (s.restartBlocks o).down ∧ (s.restart o).watch = (s.restartBlocks o).watch
      ∧ (s.restart o).meter = (s.restartBlocks o).meter ∧ (s.restart o).roster = (s.restartBlocks o).roster := by
  rw [restart_eq]
  exact ⟨rfl, rfl, rfl, rfl, rfl, rfl⟩

/-- Settles O50: TREE_RESTART in each order. -/
theorem treeRestartTaken : Obligations.TreeRestartTaken := by
  unfold Obligations.TreeRestartTaken
  intro s c o hd
  have hexec : exec (.treeRestart o) s = .next (((s.modLink (·.without c)).restart o).answerCode c .done) := by
    show execTreeRestart o s = _
    rw [execTreeRestart, takeCommand_of_dispatched hd]
  obtain ⟨hsched, henrol, hclock⟩ := restart_emptied (s.modLink (·.without c)) o
  obtain ⟨hhome, htree, hdown, hwatch, hmeter, hroster⟩ := restart_same (s.modLink (·.without c)) o
  obtain ⟨hjournal, hlink, hconfig, hpending⟩ := State.restart_frame (s.modLink (·.without c)) o
  have hport := restartBlocks_port (s.modLink (·.without c)) o
  have hslots := restartBlocks_home (s.modLink (·.without c)) o
  have hkeeps := restartBlocks_keeps (s.modLink (·.without c)) o
  have hrelease := fun e i g => restartBlocks_release (s := s.modLink (·.without c)) o (e := e) (i := i) (g := g)
  generalize (s.modLink (·.without c)).restart o = u at *
  generalize (s.modLink (·.without c)).restartBlocks o = v at *
  have hslot : ∀ i, (u.answerCode c .done).slot i = v.slot i := fun i =>
    (slot_congr (by simp) i).trans (slot_congr hhome i)
  have hecho : ∀ i, (u.answerCode c .done).echo i = (v.echo i).lost := fun i => by
    unfold State.echo
    simp only [State.answerCode_frame, henrol]
    simp [Enrolment.lost]
  have hdemand : ∀ i, (u.answerCode c .done).demand i = Demand.reset := fun i => by
    unfold State.demand
    simp only [State.answerCode_frame, hsched]
    exact replicate_get _ i
  refine ⟨_, hexec, ?_⟩
  simp only [State.answerCode_frame, hslot, hecho, hdemand, hsched, henrol, hclock, htree, hdown, hwatch, hmeter, hroster,
    hjournal, hconfig, hpending]
  refine ⟨answerCode_answered hlink c .done, by rw [hkeeps.clock]; rfl, rfl, hkeeps.meter, rfl, rfl, hkeeps.provision,
    hkeeps.strangers, hkeeps.claims, hport.waits, hport.calibrates, hport.unlit, hport.dark, hslots.watch.1, hslots.watch.2.1,
    hslots.watch.2.2, ⟨rfl, rfl, rfl, rfl, rfl, fun _ => trivial⟩, rfl, rfl, rfl, hkeeps.gen, hslots.closed, hslots.freed,
    hslots.still, hport.emptied, hport.urgent, hport.normal,
    fun e he i g hbody htarget hstate => hrelease e i g he hbody htarget hstate, fun i => ⟨rfl, rfl, rfl, rfl, rfl⟩,
    hslots.hushed, fun i hheld hold => ⟨fun h => ?_, fun ho hmetered hmember => ?_⟩⟩
  · have hmember : s.watch.isMember i = true ↔ ∃ l, s.watch.locate = some l ∧ ∃ c ∈ l.cands, c.1 = i := isMember_iff _ i
    refine hslots.wakes i ?_
    rcases slot_cases (s.slot i) with hs | hs | hs
    · exact .inl (hs.resolve_left hheld)
    · rw [hold] at hs
      cases hs
    · rcases h with h | h | h
      · exact .inr ⟨hs, .inl h⟩
      · exact .inl h
      · exact .inr ⟨hs, .inr (Bool.eq_false_iff.mpr fun hm => h (hmember.mp hm))⟩
  · exact hslots.kept i ho hmetered ((isMember_iff _ i).mpr hmember)

end Sys2Proof.Machine
end
